-- ==== Sys2Proof/Word.lean ====
section
/-! DEFINITION. The word types of the K16 (R1–R4), the status codes (R12), and sparse maps as plain data. -/

namespace Sys2Proof

/-- A word is 24 bits (R1, R2). -/
abbrev Word := BitVec 24

abbrev Byte := BitVec 8

/-- A 48-bit value: a register pair (R62), a short time, an ASN. -/
abbrev Long := BitVec 48

/-- A sparse map: key and value pairs; a key that is not listed reads as a default the reader names. -/
abbrev SMap (α : Type) := List (Nat × α)

/-- The outcome of every command port, request window and completion (R12, Table 00-6). -/
inductive Status where
  | ok | busy | badarg | state | full | absent | denied | fault | noentropy | late | dwell | timeout
deriving DecidableEq, Repr

/-- The two bands; backhaul ports A and B are named by it too. -/
inductive Band where
  | a | b
deriving DecidableEq, Repr

/-- The other band or port. -/
def Band.other : Band → Band
  | .a => .b
  | .b => .a

/-- 0 for A, 1 for B. -/
def Band.idx : Band → Nat
  | .a => 0
  | .b => 1

end Sys2Proof
end

