-- ==== Sys2Proof/Machine/Bits.lean ====
section
/-! DEFINITION. Fields of words, longer values made of words (R3), octets packed in words (R4), sign extension and
the cyclic redundancy checks (R728, R752). -/

namespace Sys2Proof.Machine

/-- The field of bits `hi` down to `lo` as a number. -/
def fld (w : Word) (hi lo : Nat) : Nat := w.toNat / 2 ^ lo % 2 ^ (hi + 1 - lo)

/-- Bit `i` of a word. -/
def bit (w : Word) (i : Nat) : Bool := w.getLsbD i

/-- A word from a number, modulo 2^24. -/
def wd (n : Nat) : Word := BitVec.ofNat 24 n

/-- The word with the field of bits `hi` down to `lo` replaced. -/
def setFld (w : Word) (hi lo v : Nat) : Word :=
  let m := (2 ^ (hi + 1 - lo) - 1) * 2 ^ lo
  (w &&& ~~~(wd m)) ||| wd (v % 2 ^ (hi + 1 - lo) * 2 ^ lo)

/-- The word with bit `i` set to `b`. -/
def setBit (w : Word) (i : Nat) (b : Bool) : Word := setFld w i i (if b then 1 else 0)

/-- Division rounding up; by 0 it acts as by 1. -/
def ceilDiv (a b : Nat) : Nat := (a + (max b 1 - 1)) / max b 1

/-- 1 for true. -/
def b2n (b : Bool) : Nat := if b then 1 else 0

/-- A 48-bit value from its words, the most significant first (R3). -/
def long (hi lo : Word) : Long := hi ++ lo

def hiWord (x : Long) : Word := x.extractLsb' 24 24
def loWord (x : Long) : Word := x.extractLsb' 0 24

/-- A 48-bit value from a number, modulo 2^48. -/
def ln (n : Nat) : Long := BitVec.ofNat 48 n

/-- Is short time `a` after short time `b` (R309: the difference modulo 2^48 is in 1 to 2^47 − 1)? -/
def after (a b : Long) : Bool :=
  let d := (a - b).toNat
  decide (0 < d) && decide (d < 2 ^ 47)

/-- The three octets of a word, first in order at bits [23:16] (R4). -/
def octets (w : Word) : List Byte := [w.extractLsb' 16 8, w.extractLsb' 8 8, w.extractLsb' 0 8]

/-- Octet `i` of a row of words given by a reader (R4). -/
def octetAt (f : Nat → Word) (i : Nat) : Byte :=
  let w := f (i / 3)
  if i % 3 = 0 then w.extractLsb' 16 8 else if i % 3 = 1 then w.extractLsb' 8 8 else w.extractLsb' 0 8

/-- Three octets as a word, missing ones 0 (R4). -/
def packOctets : List Byte → List Word
  | [] => []
  | [a] => [a ++ (0 : Byte) ++ (0 : Byte)]
  | [a, b] => [a ++ b ++ (0 : Byte)]
  | a :: b :: c :: r => (a ++ b ++ c) :: packOctets r

/-- The number whose octets, most significant first, are given. -/
def octetsToNat (l : List Byte) : Nat := l.foldl (fun n b => n * 256 + b.toNat) 0

/-- The `n` octets of a number, most significant first. -/
def natToOctets : Nat → Nat → List Byte
  | 0, _ => []
  | n + 1, v => BitVec.ofNat 8 (v / 256 ^ n) :: natToOctets n v

/-- `n` steps of a reflected 32-bit check with the reflected polynomial. -/
def crc32Steps (poly : BitVec 32) : Nat → BitVec 32 → BitVec 32
  | 0, c => c
  | n + 1, c => crc32Steps poly n (if c.getLsbD 0 then (c >>> 1) ^^^ poly else c >>> 1)

/-- One octet into a reflected 32-bit check. -/
def crc32Octet (poly : BitVec 32) (c : BitVec 32) (b : Byte) : BitVec 32 :=
  crc32Steps poly 8 (c ^^^ b.setWidth 32)

/-- The reflected polynomial of CRC-32, #04C1_1DB7. -/
def polyCrc32 : BitVec 32 := 0xEDB88320

/-- The reflected polynomial of CRC-32C, #1EDC_6F41. -/
def polyCrc32c : BitVec 32 := 0x82F63B78

/-- CRC-32 as the IEEE 802.3 FCS: preset to ones, result complemented. -/
def crc32Of (l : List Byte) : BitVec 32 := ~~~(l.foldl (crc32Octet polyCrc32) 0xFFFFFFFF)

/-- CRC-32C, preset to ones, result complemented. -/
def crc32cOf (l : List Byte) : BitVec 32 := ~~~(l.foldl (crc32Octet polyCrc32c) 0xFFFFFFFF)

/-- `n` steps of CRC-16 (polynomial #1021), most significant bit first (R752). -/
def crc16Steps : Nat → BitVec 16 → BitVec 16
  | 0, c => c
  | n + 1, c => crc16Steps n (if c.getLsbD 15 then (c <<< 1) ^^^ 0x1021 else c <<< 1)

/-- One octet into CRC-16. -/
def crc16Octet (c : BitVec 16) (b : Byte) : BitVec 16 :=
  crc16Steps 8 (c ^^^ (b.setWidth 16 <<< 8))

/-- CRC-16 of octets, preset to #FFFF, no final inversion (R752). -/
def crc16Of (l : List Byte) : BitVec 16 := l.foldl crc16Octet 0xFFFF

/-- Population count. -/
def popCount (w : Word) : Nat := (List.range 24).foldl (fun n i => n + b2n (w.getLsbD i)) 0

/-- A signed number from a field of `n` bits. -/
def signed (n v : Nat) : Int := if v < 2 ^ (n - 1) then (v : Int) else (v : Int) - (2 ^ n : Nat)

/-- A counter that saturates at the top of `n` bits (R11). -/
def satInc (n : Nat) (w : Word) : Word := if w.toNat + 1 < 2 ^ n then w + 1 else wd (2 ^ n - 1)

/-- Saturating addition at the top of 24 bits (R11). -/
def satAdd (w : Word) (k : Nat) : Word := if w.toNat + k < 2 ^ 24 then wd (w.toNat + k) else wd (2 ^ 24 - 1)

end Sys2Proof.Machine
end

