-- ==== Sys2Proof/Syntax.lean ====
section
/-! DEFINITION. The commands the block takes: one constructor per row of the operation table, with their operands. -/

namespace Sys2Proof

/-- A shunter id: the depot in [5:3], the shunter within it in [2:0]. -/
abbrev Sh := Fin 64

/-- A register number g0–g31. -/
abbrev Reg := Fin 32

abbrev Depot := Fin 8

abbrev Lane := Fin 512

/-- Who makes an access: a shunter, or the host on PCIe. -/
inductive Src where
  | shunter (sh : Sh)
  | host
deriving DecidableEq, Repr

/-- A shunter's two store buffers (R69). -/
inductive Buf where
  | main | scratch
deriving DecidableEq, Repr

/-- A yard request: from a shunter's instruction with its fields, or from the host port. -/
inductive YardReq where
  | shunter (sh : Sh) (d a b : Reg)
  | host
deriving DecidableEq, Repr

/-- An accumulator of a band: the dwell accumulator of a channel or the duty accumulator of a group (R170). -/
inductive AccId where
  | dwell (c : BitVec 8)
  | duty (g : Fin 8)
deriving DecidableEq, Repr

/-- A preamble a detector declares (R185–R187, R193): the family is 0 SUN-FSK, 1 SUN-OFDM, 2 O-QPSK, 3 LW-OFDM;
`corr` the normalised correlation in 1/256; `cfo` the carrier offset in ppb; `power` the detected power in dBm;
`rivals` the correlations of the other families declared on the channel within 8 µs. -/
structure Detect where
  band : Band
  chan : BitVec 8
  fam : Fin 4
  corr : Nat
  cfo : Int
  power : Int
  rivals : List Nat
deriving DecidableEq, Repr

/-- A PHR that passed its check: PSDU octets, MODE as report W0[4:1], and for LW-OFDM the map epoch and the 72 bits
of the loading map, group 0 first (Tables 04-5 and 04-6). -/
structure Phr where
  len : BitVec 11
  mode : BitVec 4
  ep : BitVec 2
  map : BitVec 72
deriving DecidableEq, Repr

/-- What a lane measures of a frame by its end (Table 04-6): end time, power, SNR, mean and largest DESENS of the
combined chains, carrier offset, symbol timing, antenna weights, family data, latency class, the FCS check, and the
PSDU octets. -/
structure RxMeasure where
  tend : Long
  rssi : Int
  snr : Byte
  desensAvg : Int
  desensMax : Int
  cfo : Int
  tfrac : Byte
  antw : BitVec 12
  famdata : Word
  latc : Nat
  fcsOk : Bool
  psdu : List Byte
deriving DecidableEq, Repr

/-- A frame at a port's receive pins (R440): its octets from the destination address through the FCS, the short
time of its timestamp point (R451), a PCS error within it, and a receive buffer that was full. -/
structure RxFrame where
  octets : List Byte
  trx : Long
  pcsError : Bool
  bufferFull : Bool
deriving DecidableEq, Repr

/-- What ends a link (Table 10-6). -/
inductive LinkFault where
  | signal | sync | localFault | remoteFault
deriving DecidableEq, Repr

/-- The configuration bits a host configuration write leaves set (R563): memory space, bus master, MSI-X enable and
function mask. -/
structure PcieCfg where
  memEn : Bool
  bme : Bool
  msixEn : Bool
  fmask : Bool
deriving DecidableEq, Repr

/-- An entry of the MSI-X table (R555, R562). -/
structure MsixEntry where
  addr : BitVec 64
  data : BitVec 32
  masked : Bool
deriving DecidableEq, Repr

/-- How a target answers an I2C transaction. -/
inductive I2cResult where
  | ok | addrNack | dataNack | stretched
deriving DecidableEq, Repr

/-- The IEEE 1149.1 instructions of the TAP (R583). -/
inductive TapInstr where
  | bypass | idcode | sample | extest | clamp | highz
deriving DecidableEq, Repr

/-- What a debug access does through the open scopes (R583–R585): reads and writes of shunter state, memories and
words of the word space, run control, and entry to scope TEST. -/
inductive DbgOp where
  | readReg (sh : Sh) (r : Reg)
  | readPc (sh : Sh)
  | readLocal (sh : Sh) (a : BitVec 14)
  | readScratch (dp : Depot) (a : BitVec 14)
  | readCode (dp : Depot) (a : BitVec 17)
  | readWord (a : Word)
  | writeReg (sh : Sh) (r : Reg) (v : Word)
  | writePc (sh : Sh) (v : BitVec 17)
  | writeLocal (sh : Sh) (a : BitVec 14) (v : Word)
  | writeScratch (dp : Depot) (a : BitVec 14) (v : Word)
  | writeCode (dp : Depot) (a : BitVec 17) (v : Word)
  | writeMain (a : Word) (v : Word)
  | halt (sh : Sh)
  | step (sh : Sh)
  | test
deriving DecidableEq, Repr

/-- A wake source of DORMANT (R636), as the bits of PW_WAKEEN. -/
inductive WakeSrc where
  | rtc | pin | portA | portB | nfc | pfail
deriving DecidableEq, Repr


/-- The commands of the block: one constructor per row of the table, with the row's operands. `sh` is the shunter
that executes an instruction, `src` the agent that makes an access. -/
inductive Instr where
  -- Regs
  /-- REGISTER_WRITE (R10). -/
  | registerWrite (src : Src) (addr v : Word)
  -- Alu
  /-- ADD (R704). -/
  | add (sh : Sh) (d a b : Reg)
  /-- ADC (R704). -/
  | adc (sh : Sh) (d a b : Reg)
  /-- SUB (R704). -/
  | sub (sh : Sh) (d a b : Reg)
  /-- SBC (R704). -/
  | sbc (sh : Sh) (d a b : Reg)
  /-- AND (R704). -/
  | and (sh : Sh) (d a b : Reg)
  /-- OR (R704). -/
  | or (sh : Sh) (d a b : Reg)
  /-- XOR (R704). -/
  | xor (sh : Sh) (d a b : Reg)
  /-- ANDN (R704). -/
  | andn (sh : Sh) (d a b : Reg)
  /-- ADDI (R704). -/
  | addi (sh : Sh) (d a : Reg) (imm : BitVec 8)
  /-- SUBI (R704). -/
  | subi (sh : Sh) (d a : Reg) (imm : BitVec 8)
  /-- ANDI (R704). -/
  | andi (sh : Sh) (d a : Reg) (imm : BitVec 8)
  /-- ORI (R704). -/
  | ori (sh : Sh) (d a : Reg) (imm : BitVec 8)
  /-- XORI (R704). -/
  | xori (sh : Sh) (d a : Reg) (imm : BitVec 8)
  /-- MOVS (R704). -/
  | movs (sh : Sh) (d : Reg) (imm : BitVec 8)
  /-- MOVI (R704). -/
  | movi (sh : Sh) (d : Reg) (ext : Word)
  /-- SHL (R705). -/
  | shl (sh : Sh) (d a b : Reg)
  /-- SHR (R705). -/
  | shr (sh : Sh) (d a b : Reg)
  /-- SAR (R705). -/
  | sar (sh : Sh) (d a b : Reg)
  /-- ROL (R705). -/
  | rol (sh : Sh) (d a b : Reg)
  /-- ROR (R705). -/
  | ror (sh : Sh) (d a b : Reg)
  /-- CLZ (R704). -/
  | clz (sh : Sh) (d a : Reg)
  /-- POPC (R704). -/
  | popc (sh : Sh) (d a : Reg)
  /-- BREV (R704). -/
  | brev (sh : Sh) (d a : Reg)
  /-- SHLI (R704). -/
  | shli (sh : Sh) (d a : Reg) (n : BitVec 5)
  /-- SHRI (R704). -/
  | shri (sh : Sh) (d a : Reg) (n : BitVec 5)
  /-- SARI (R704). -/
  | sari (sh : Sh) (d a : Reg) (n : BitVec 5)
  /-- ROLI (R704). -/
  | roli (sh : Sh) (d a : Reg) (n : BitVec 5)
  /-- RORI (R704). -/
  | rori (sh : Sh) (d a : Reg) (n : BitVec 5)
  -- MulPair
  /-- MULU (R706). -/
  | mulu (sh : Sh) (d a b : Reg)
  /-- MULS (R706). -/
  | muls (sh : Sh) (d a b : Reg)
  /-- MULL (R706). -/
  | mull (sh : Sh) (d a b : Reg)
  /-- MACU (R706). -/
  | macu (sh : Sh) (d a b : Reg)
  /-- MACS (R706). -/
  | macs (sh : Sh) (d a b : Reg)
  /-- DIVU (R707). -/
  | divu (sh : Sh) (d a b : Reg)
  /-- ADDP (R708). -/
  | addp (sh : Sh) (d a b : Reg)
  /-- SUBP (R708). -/
  | subp (sh : Sh) (d a b : Reg)
  /-- SHLP (R709). -/
  | shlp (sh : Sh) (d a b : Reg)
  /-- SHRP (R709). -/
  | shrp (sh : Sh) (d a b : Reg)
  /-- SARP (R709). -/
  | sarp (sh : Sh) (d a b : Reg)
  /-- MOVP (R708). -/
  | movp (sh : Sh) (d a : Reg)
  /-- CMPP (R708). -/
  | cmpp (sh : Sh) (a b : Reg)
  /-- SXP (R708). -/
  | sxp (sh : Sh) (d a : Reg)
  -- Field
  /-- EXTU (R710). -/
  | extu (sh : Sh) (d a : Reg) (pos w1 : BitVec 5)
  /-- EXTS (R710). -/
  | exts (sh : Sh) (d a : Reg) (pos w1 : BitVec 5)
  /-- INS (R710). -/
  | ins (sh : Sh) (d a : Reg) (pos w1 : BitVec 5)
  /-- BTST (R710). -/
  | btst (sh : Sh) (a b : Reg)
  /-- BSET (R710). -/
  | bset (sh : Sh) (d a b : Reg)
  /-- BCLR (R710). -/
  | bclr (sh : Sh) (d a b : Reg)
  /-- BFLIP (R710). -/
  | bflip (sh : Sh) (d a b : Reg)
  -- LoadStore
  /-- LD (R711). -/
  | ld (sh : Sh) (d a : Reg) (imm : BitVec 8)
  /-- LDX (R711). -/
  | ldx (sh : Sh) (d a : Reg) (ext : Word)
  /-- ST (R711). -/
  | st (sh : Sh) (d a : Reg) (imm : BitVec 8)
  /-- STX (R711). -/
  | stx (sh : Sh) (d a : Reg) (ext : Word)
  /-- LDP (R711). -/
  | ldp (sh : Sh) (d a : Reg) (imm : BitVec 8)
  /-- STP (R711). -/
  | stp (sh : Sh) (d a : Reg) (imm : BitVec 8)
  /-- LOAD_ARRIVAL (R76). -/
  | loadArrival (sh : Sh) (i : Nat) (uncorrectable : Bool)
  /-- STORE_DRAIN (R72). -/
  | storeDrain (sh : Sh) (buf : Buf)
  -- Branch
  /-- B_COND (R714). -/
  | bCond (sh : Sh) (cond : BitVec 4) (disp : BitVec 14)
  /-- CALL_COND (R714). -/
  | callCond (sh : Sh) (cond : BitVec 4) (disp : BitVec 14)
  /-- JR (R714). -/
  | jr (sh : Sh) (d a : Reg)
  /-- JL (R714). -/
  | jl (sh : Sh) (d : Reg) (ext : Word)
  -- Event
  /-- WAITEV (R715). -/
  | waitev (sh : Sh) (d a : Reg)
  /-- WAITEV_TIMEOUT (R90). -/
  | waitevTimeout (sh : Sh)
  /-- EVENT_ARRIVAL (R83). -/
  | eventArrival (e : Fin 1024)
  /-- SIGNAL (R717). -/
  | signal (sh : Sh) (a : Reg) (imm : BitVec 8)
  /-- SIGNAL_DELIVERY (R106). -/
  | signalDelivery (sh : Sh) (dp : Depot)
  /-- TCAP (R718). -/
  | tcap (sh : Sh) (d : Reg)
  /-- WAITT (R719). -/
  | waitt (sh : Sh) (a : Reg)
  /-- WAITT_TARGET (R719). -/
  | waittTarget (sh : Sh)
  -- Token
  /-- TKACQ (R720). -/
  | tkacq (sh : Sh) (t : BitVec 8)
  /-- TKTRY (R721). -/
  | tktry (sh : Sh) (t : BitVec 8)
  /-- TKREL (R722). -/
  | tkrel (sh : Sh) (t : BitVec 8)
  /-- TOKEN_RELEASE (R101). -/
  | tokenRelease (t : BitVec 8)
  /-- TOKEN_HOLD_LIMIT (R103). -/
  | tokenHoldLimit (t : BitVec 8)
  -- Request
  /-- PT (R725). -/
  | pt (sh : Sh) (d a : Reg)
  /-- PTP (R725). -/
  | ptp (sh : Sh) (d a : Reg)
  /-- KV (R726). -/
  | kv (sh : Sh) (d a : Reg)
  /-- KVP (R726). -/
  | kvp (sh : Sh) (d a : Reg)
  /-- FRT (R727). -/
  | frt (sh : Sh) (a : Reg)
  -- Crc
  /-- CRC32 (R728). -/
  | crc32 (sh : Sh) (d a b : Reg)
  /-- CRC32C (R728). -/
  | crc32c (sh : Sh) (d a b : Reg)
  /-- CRC32B (R728). -/
  | crc32b (sh : Sh) (d a b : Reg)
  /-- CRC32CB (R728). -/
  | crc32cb (sh : Sh) (d a b : Reg)
  /-- CRC16 (R728). -/
  | crc16 (sh : Sh) (d a b : Reg)
  /-- CRC16B (R728). -/
  | crc16b (sh : Sh) (d a b : Reg)
  /-- FMIX (R728). -/
  | fmix (sh : Sh) (d a b : Reg)
  /-- RED (R728). -/
  | red (sh : Sh) (d a b : Reg)
  -- System
  /-- FENCE (R729). -/
  | fence (sh : Sh)
  /-- RDAST (R729). -/
  | rdast (sh : Sh) (d : Reg)
  /-- RDFL (R729). -/
  | rdfl (sh : Sh) (d : Reg)
  /-- WRFL (R729). -/
  | wrfl (sh : Sh) (a : Reg)
  /-- RDID (R729). -/
  | rdid (sh : Sh) (d : Reg)
  /-- RDPC (R729). -/
  | rdpc (sh : Sh) (d : Reg)
  /-- HALTS (R729). -/
  | halts (sh : Sh)
  /-- ILLEGAL (R693). -/
  | illegal (sh : Sh) (w ext : Word)
  -- DepotCtl
  /-- DEPOT_WATCHDOG_LIMIT (R124). -/
  | depotWatchdogLimit (sh : Sh)
  /-- WATCHDOG_FAULT (R124). -/
  | watchdogFault (sh : Sh)
  /-- GWD_KICK (R125). -/
  | gwdKick (src : Src) (dp : Depot) (v : Word)
  /-- KICK_WINDOW_EXPIRY (R125). -/
  | kickWindowExpiry
  /-- GLOBAL_WATCHDOG_WARNING (R126). -/
  | globalWatchdogWarning
  /-- GLOBAL_WATCHDOG_EXPIRY (R126). -/
  | globalWatchdogExpiry
  /-- GO (R131). -/
  | go (src : Src) (sh : Sh) (entry : BitVec 17)
  /-- HALT (R702). -/
  | halt (src : Src) (sh : Sh)
  /-- RESET (R64). -/
  | reset (src : Src) (sh : Sh)
  /-- DP_IMDATA_WRITE (R129). -/
  | dpImdataWrite (src : Src) (dp : Depot) (v : Word)
  /-- DP_IMDATA_READ (R129). -/
  | dpImdataRead (src : Src) (dp : Depot)
  /-- ROMEN_WRITE (R132). -/
  | romenWrite (src : Src) (dp : Depot) (v : Word)
  /-- ROUTE_WRITE (R91). -/
  | routeWrite (src : Src) (dp : Depot) (e : Fin 1024) (hi : Bool) (v : Word)
  -- Freight
  /-- FREIGHT_COMPLETION (R113). -/
  | freightCompletion (dp : Depot) (good : Option Nat)
  -- Front
  /-- FE_WIN_WRITE (R147). -/
  | feWinWrite (src : Src) (band : Band) (v : Word)
  /-- SYNTHESISER_LOCK (R147). -/
  | synthesiserLock (band : Band)
  /-- LOSS_OF_LOCK (R148). -/
  | lossOfLock (band : Band)
  /-- REFERENCE_OFFSET_DELIVERY (R144). -/
  | referenceOffsetDelivery
  /-- AGC_GAIN_DROP (R150). -/
  | agcGainDrop (band : Band) (chain : Fin 4)
  /-- AGC_GAIN_RISE (R150). -/
  | agcGainRise (band : Band) (chain : Fin 4)
  /-- FE_AGC_GAIN_WRITE (R154). -/
  | feAgcGainWrite (src : Src) (band : Band) (chain : Fin 4) (v : Word)
  /-- DPD_UPDATE (R158). -/
  | dpdUpdate (band : Band) (converged : Bool)
  /-- TX_DPD_DATA_ACCESS (R159). -/
  | txDpdDataAccess (src : Src) (band : Band) (v : Option Word)
  /-- FEEDBACK_OVER_RANGE (R160). -/
  | feedbackOverRange (band : Band)
  /-- ANTENNA_REQUEST (R161). -/
  | antennaRequest (src : Src) (band : Band) (v : Word)
  /-- GO_ON_AIR (R163). -/
  | goOnAir (band : Band)
  /-- GO_OFF_AIR (R163). -/
  | goOffAir (band : Band)
  /-- FE_RGN_COMMIT (R166). -/
  | feRgnCommit (src : Src) (v : Word)
  /-- REGION_COMMIT_DONE (R166). -/
  | regionCommitDone
  /-- FE_RGN_DATA_ACCESS (R175). -/
  | feRgnDataAccess (src : Src) (v : Option Word)
  /-- ACCUMULATOR_BUCKET_ADVANCE (R170). -/
  | accumulatorBucketAdvance (band : Band) (acc : AccId)
  /-- FEEDBACK_IN_RANGE (R160). -/
  | feedbackInRange (band : Band)
  -- Lanes
  /-- CH_CFG_WRITE (R181). -/
  | chCfgWrite (src : Src) (band : Band) (c : BitVec 8) (fofs : Bool) (v : Word)
  /-- DETECTION (R193). -/
  | detection (d : Detect)
  /-- START_OF_FRAME_NOT_CONFIRMED (R189). -/
  | startOfFrameNotConfirmed (lane : Lane)
  /-- PHR_RECEIVED (R190). -/
  | phrReceived (lane : Lane) (phr : Option Phr)
  /-- CODEWORD_DECODED (R205). -/
  | codewordDecoded (lane : Lane) (converged : Bool)
  /-- LDPC_TIMEOUT (R212). -/
  | ldpcTimeout (lane : Lane)
  /-- REPORT_POSTING (R211). -/
  | reportPosting (lane : Lane) (m : RxMeasure)
  /-- LN_LCTL_REL (R217). -/
  | lnLctlRel (src : Src) (lane : Lane)
  /-- BOUND_LANE_SAMPLE (R227). -/
  | boundLaneSample
  -- Transmit
  /-- TS_ARM (R232). -/
  | tsArm (src : Src) (band : Band) (slot : Fin 16)
  /-- TS_DISARM (R232). -/
  | tsDisarm (src : Src) (band : Band) (slot : Fin 16)
  /-- TS_LAUNCH (R233). -/
  | tsLaunch (band : Band) (slot : Fin 16) (busy : Bool)
  /-- LAST_DAC_SAMPLE (R232). -/
  | lastDacSample (band : Band) (slot : Fin 16)
  /-- TX_CTL_WRITE (R232). -/
  | txCtlWrite (src : Src) (band : Band) (v : Word)
  -- SignalBox
  /-- PATH_PREPARATION (R265). -/
  | pathPreparation
  /-- FRAME_ARMING (R268). -/
  | frameArming (i : Nat)
  /-- KEY_CHECK (R494). -/
  | keyCheck (i : Nat)
  /-- PATH_BOUNDARY (R251). -/
  | pathBoundary
  /-- UPLINK_ACKNOWLEDGEMENT (R275). -/
  | uplinkAcknowledgement (i : Nat) (busy : Bool)
  /-- PATH_COMPLETION (R270). -/
  | pathCompletion
  /-- COMMIT (R261). -/
  | commit (src : Src) (store : Fin 2)
  /-- EDITION_CHECK_DONE (R263). -/
  | editionCheckDone
  /-- CANCEL (R261). -/
  | cancel (src : Src) (store : Fin 2)
  /-- RUN (R297). -/
  | run (src : Src)
  /-- STOP (R297). -/
  | stop (src : Src)
  /-- SB_ABORT (R297). -/
  | sbAbort (src : Src)
  /-- SIGNAL_BOX_WAIT_END (R297). -/
  | signalBoxWaitEnd
  /-- SB_CCMD_WR (R304). -/
  | sbCcmdWr (src : Src)
  /-- SB_CCMD_RD (R304). -/
  | sbCcmdRd (src : Src)
  /-- SB_JOINDONE_WRITE (R294). -/
  | sbJoindoneWrite (src : Src) (v : Word)
  /-- MESH_ALIVE_TIMEOUT (R289). -/
  | meshAliveTimeout
  -- Clock
  /-- SC_FREQ_WRITE (R315). -/
  | scFreqWrite (src : Src) (v : Word)
  /-- ADD_UPDATE (R311). -/
  | addUpdate
  /-- SC_SLEW_WRITE (R312). -/
  | scSlewWrite (src : Src) (v : Word)
  /-- SC_SLEWLEN_WRITE (R313). -/
  | scSlewlenWrite (src : Src) (v : Word)
  /-- SLEW_END (R313). -/
  | slewEnd
  /-- SC_LOAD (R316). -/
  | scLoad (src : Src)
  /-- SC_STEP (R317). -/
  | scStep (src : Src)
  /-- SC_MEAS_WRITE (R322). -/
  | scMeasWrite (src : Src) (v : Word)
  /-- HOLDOVER_TIMEOUT (R322). -/
  | holdoverTimeout
  /-- LEADER_WRITE (R322). -/
  | leaderWrite (src : Src) (v : Word)
  /-- SC_TIME0_READ (R326). -/
  | scTime0Read (src : Src)
  /-- COMPARE_FIRE (R328). -/
  | compareFire (c : Fin 16)
  /-- CMP_WRITE (R330). -/
  | cmpWrite (src : Src) (c : Fin 16) (r : Fin 4) (v : Word)
  -- Points
  /-- NREAD (R368). -/
  | nread (p : Fin 11)
  /-- NWRITE (R368). -/
  | nwrite (p : Fin 11)
  /-- NINSERT (R368). -/
  | ninsert (p : Fin 11)
  /-- NDELETE (R368). -/
  | ndelete (p : Fin 11)
  /-- NFIND (R368). -/
  | nfind (p : Fin 11)
  /-- NUPDL (R368). -/
  | nupdl (p : Fin 11)
  /-- NSYNC (R380). -/
  | nsync (p : Fin 11)
  /-- LEARN (R370). -/
  | learn (p : Fin 11)
  /-- RADD (R356). -/
  | radd (p : Fin 11)
  /-- RDEL (R368). -/
  | rdel (p : Fin 11)
  /-- RFIND (R368). -/
  | rfind (p : Fin 11)
  /-- LOOKUP (R358). -/
  | lookup (p : Fin 11)
  /-- DSET (R368). -/
  | dset (p : Fin 11)
  /-- DGET (R368). -/
  | dget (p : Fin 11)
  /-- FGET (R368). -/
  | fget (p : Fin 11)
  /-- FCLR (R368). -/
  | fclr (p : Fin 11)
  /-- PT_HSEED_WRITE (R352). -/
  | ptHseedWrite (src : Src) (v : Word)
  /-- PT_CFG_WRITE (R372). -/
  | ptCfgWrite (src : Src) (v : Word)
  /-- PT_SHADOW_WRITE (R381). -/
  | ptShadowWrite (src : Src) (rcnt : Bool) (v : Word)
  /-- SCRUBBER_NODE_VISIT (R378). -/
  | scrubberNodeVisit
  /-- SCRUBBER_TABLE_VISIT (R379). -/
  | scrubberTableVisit
  -- Yard
  /-- ENQ (R393). -/
  | enq (r : YardReq)
  /-- ENQM (R425). -/
  | enqm (r : YardReq)
  /-- DEQ (R406). -/
  | deq (r : YardReq)
  /-- PUT (R419). -/
  | put (r : YardReq)
  /-- GET (R423). -/
  | get (r : YardReq)
  /-- QFLUSH (R407). -/
  | qflush (r : YardReq)
  /-- CALLOC (R396). -/
  | calloc (r : YardReq)
  /-- CFREE (R398). -/
  | cfree (r : YardReq)
  /-- CLINK (R399). -/
  | clink (r : YardReq)
  /-- CNEXT (R402). -/
  | cnext (r : YardReq)
  /-- QCTL_WRITE (R390). -/
  | qctlWrite (src : Src) (q : Nat) (v : Word)
  /-- CELLINIT (R401). -/
  | cellinit (src : Src) (v : Word)
  /-- CELLINIT_DONE (R401). -/
  | cellinitDone
  /-- YD_CTL_WRITE (R401). -/
  | ydCtlWrite (src : Src) (v : Word)
  /-- REFILL_TICK (R413). -/
  | refillTick
  /-- SHAPER_WRITE (R413). -/
  | shaperWrite (src : Src) (r : Fin 4) (v : Word)
  /-- GL_COMMIT (R416). -/
  | glCommit (src : Src) (e : Fin 18)
  /-- GL_CANCEL (R416). -/
  | glCancel (src : Src) (e : Fin 18)
  /-- GL_DATA_ACCESS (R415). -/
  | glDataAccess (src : Src) (e : Fin 18) (v : Option Word)
  /-- GATE_LIST_TAKE_OVER (R416). -/
  | gateListTakeOver (e : Fin 18)
  /-- YD_MLDATA_ACCESS (R435). -/
  | ydMldataAccess (src : Src) (v : Option Word)
  /-- WAGON_OFFER (R408). -/
  | wagonOffer (p : Band)
  /-- WAGON_HISTOGRAM_SAMPLE (R436). -/
  | wagonHistogramSample
  -- Backhaul
  /-- FRAME_SEND (R439). -/
  | frameSend (p : Band)
  /-- FRAME_SENT (R457). -/
  | frameSent (p : Band)
  /-- FRAME_RECEIVE (R440). -/
  | frameReceive (p : Band) (f : RxFrame)
  /-- PROBE_SEND (R465). -/
  | probeSend (p : Band)
  /-- PROBE_INTERVAL (R455). -/
  | probeInterval (p : Band)
  /-- LINK_UP (R454). -/
  | linkUp (p : Band) (speed : Fin 3)
  /-- LINK_LOSS (R454). -/
  | linkLoss (p : Band) (why : LinkFault)
  /-- HOLD_EXPIRY (R462). -/
  | holdExpiry
  /-- SWAP (R461). -/
  | swap (src : Src)
  /-- PAUSE_WATCHDOG (R450). -/
  | pauseWatchdog (p : Band) (prio : Option (Fin 8))
  /-- FLOW_CONTROL_REPEAT (R449). -/
  | flowControlRepeat (p : Band)
  /-- ERRCNT_DECAY (R455). -/
  | errcntDecay (p : Band)
  /-- BH_CTL_WRITE (R437). -/
  | bhCtlWrite (src : Src) (p : Band) (v : Word)
  /-- BH_CNT_LO_READ (R466). -/
  | bhCntLoRead (src : Src) (blk : Option Band) (i : Nat)
  /-- PR_SKEW_SAMPLE (R470). -/
  | prSkewSample
  /-- WAKE_MATCH (R468). -/
  | wakeMatch (p : Band) (frame : List Byte)
  /-- PAUSE_EXPIRY (R448). -/
  | pauseExpiry (p : Band) (prio : Option (Fin 8))
  /-- PAUSE_IGNORE_END (R450). -/
  | pauseIgnoreEnd (p : Band) (prio : Option (Fin 8))
  /-- PCS_CODE_ERROR (R455). -/
  | pcsCodeError (p : Band)
  -- Vault
  /-- LOAD (R488). -/
  | load (w : Fin 9)
  /-- BLOB_LOADED (R488). -/
  | blobLoaded (slot : Nat)
  /-- EVICT (R488). -/
  | evict (w : Fin 9)
  /-- WRITE_BACK_DONE (R490). -/
  | writeBackDone
  /-- REWRAP (R499). -/
  | rewrap (w : Fin 9)
  /-- REVOKE (R496). -/
  | revoke (w : Fin 9)
  /-- TOMBSTONE_WRITTEN (R488). -/
  | tombstoneWritten (slot : Nat)
  /-- GENKEY (R485). -/
  | genkey (w : Fin 9)
  /-- KDF (R485). -/
  | kdf (w : Fin 9)
  /-- EXPORT (R519). -/
  | exportKey (w : Fin 9)
  /-- IMPORT (R519). -/
  | importKey (w : Fin 9)
  /-- HMAC (R518). -/
  | hmac (w : Fin 9)
  /-- HASH (R518). -/
  | hash (w : Fin 9)
  /-- GCMSEAL (R518). -/
  | gcmseal (w : Fin 9)
  /-- GCMOPEN (R518). -/
  | gcmopen (w : Fin 9)
  /-- SIGN (R518). -/
  | sign (w : Fin 9)
  /-- SIGNING_TIMEOUT (R520). -/
  | signingTimeout (w : Fin 9)
  /-- VERIFY (R518). -/
  | verify (w : Fin 9)
  /-- RANDOM (R510). -/
  | random (w : Fin 9)
  /-- CHALLENGE (R518). -/
  | challenge (w : Fin 9)
  /-- ATTEST (R513). -/
  | attest (w : Fin 9)
  /-- ATTPUB (R518). -/
  | attpub (w : Fin 9)
  /-- EXTEND (R518). -/
  | extend (w : Fin 9)
  /-- MEASURE (R512). -/
  | measure (w : Fin 9)
  /-- LCADV (R473). -/
  | lcadv (w : Fin 9)
  /-- SELFTEST (R511). -/
  | selftest (w : Fin 9) (pass : Bool)
  /-- CCM (R518). -/
  | ccm (w : Fin 9)
  /-- RECEIVE_SECURITY_JOB (R503). -/
  | receiveSecurityJob
  /-- REMASK (R500). -/
  | remask (slot : Nat)
  /-- ROOT_RECONSTRUCTION (R477). -/
  | rootReconstruction (ok : Bool)
  /-- STARTUP_TEST_DONE (R506). -/
  | startupTestDone (pass : Bool)
  /-- HEALTH_FAILURE (R505). -/
  | healthFailure (osc : Fin 4)
  /-- FAILCNT_CLEAR (R506). -/
  | failcntClear
  /-- RESEED (R507). -/
  | reseed
  -- Update
  /-- OPEN (R534). -/
  | openSession (p : Fin 2)
  /-- WRBLK (R535). -/
  | wrblk (p : Fin 2) (readBackOk : Bool)
  /-- ABORT (R534). -/
  | abort (p : Fin 2)
  /-- ARM (R534). -/
  | arm (p : Fin 2)
  /-- DISARM (R534). -/
  | disarm (p : Fin 2)
  /-- CONFIRM (R547). -/
  | confirm (p : Fin 2)
  /-- ROLLBACK (R550). -/
  | rollback (p : Fin 2)
  /-- CLRREG (R534). -/
  | clrreg (p : Fin 2)
  /-- UP_RDATA_READ (R553). -/
  | upRdataRead (src : Src)
  /-- CONFIRM_WINDOW_WARNING (R546). -/
  | confirmWindowWarning
  /-- CONFIRM_TIMEOUT (R546). -/
  | confirmTimeout
  -- Host
  /-- BAR0_WRITE (R556). -/
  | bar0Write (addr : Word) (dws : List (Word × Bool))
  /-- BAR0_READ (R559). -/
  | bar0Read (addr : Word) (n : Nat)
  /-- DOORBELL (R560). -/
  | doorbell (d : BitVec 10) (v : Word)
  /-- MSIX_MESSAGE (R563). -/
  | msixMessage (vec : Fin 64)
  /-- PERST_N (R555). -/
  | perstN
  /-- PCIE_LINK_CHANGE (R591). -/
  | pcieLinkChange (link : Option (Fin 4 × Fin 4))
  /-- PCIE_CONFIG_WRITE (R563). -/
  | pcieConfigWrite (c : PcieCfg)
  /-- MSIX_TABLE_WRITE (R562). -/
  | msixTableWrite (vec : Fin 64) (e : MsixEntry)
  -- Usb
  /-- VBUS_CHANGE (R564). -/
  | vbusChange (high : Bool)
  /-- USB_BUS_RESET (R573). -/
  | usbBusReset (hs : Bool)
  /-- INFO (R565). -/
  | info (wLength : Nat)
  /-- COMMISSIONING_GET (R566). -/
  | commissioningGet (item wLength : BitVec 16)
  /-- COMMISSIONING_SET (R566). -/
  | commissioningSet (id item : BitVec 16) (data : List Byte)
  /-- QUERY (R572). -/
  | query (id : BitVec 16)
  /-- HC_USBANS (R568). -/
  | hcUsbans (src : Src) (v : Word)
  /-- COMMISSIONING_ANSWER_TIMEOUT (R569). -/
  | commissioningAnswerTimeout
  /-- BULK_OUT_ARM (R574). -/
  | bulkOutArm (src : Src) (v : Word)
  /-- BULK_OUT_PACKET (R574). -/
  | bulkOutPacket (data : List Byte)
  /-- BULK_IN_GO (R575). -/
  | bulkInGo (src : Src) (v : Word)
  /-- BULK_IN_END (R575). -/
  | bulkInEnd
  /-- USB_STANDARD_REQUEST (R573). -/
  | usbStandardRequest
  /-- UNSUPPORTED_VENDOR_REQUEST (R565). -/
  | unsupportedVendorRequest (bRequest : Byte) (wValue wLength : BitVec 16)
  -- Nfc
  /-- NFC_FIELD_CHANGE (R591). -/
  | nfcFieldChange (present : Bool)
  /-- SELECT (R576). -/
  | select (data : List Byte)
  /-- READ_BINARY (R576). -/
  | readBinary (ofs len : Nat)
  /-- UPDATE_BINARY (R577). -/
  | updateBinary (ofs : Nat) (data : List Byte)
  /-- UNKNOWN_APDU (R576). -/
  | unknownApdu (ins : Byte)
  /-- HC_NFCWIN_READ (R578). -/
  | hcNfcwinRead (src : Src) (k : Nat)
  /-- HC_NFCCMT (R579). -/
  | hcNfccmt (src : Src) (v : Word)
  /-- STAGING_COMMIT_APPLIED (R580). -/
  | stagingCommitApplied
  -- LowSpeed
  /-- GPIO_CHANGE (R591). -/
  | gpioChange (pins : BitVec 32)
  /-- SPI_GO (R582). -/
  | spiGo (src : Src) (c : Fin 2) (v : Word)
  /-- SPI_TRANSFER_END (R591). -/
  | spiTransferEnd (c : Fin 2) (data : List Byte)
  /-- I2C_GO (R582). -/
  | i2cGo (src : Src) (c : Fin 2) (v : Word)
  /-- I2C_TRANSACTION_END (R591). -/
  | i2cTransactionEnd (c : Fin 2) (res : I2cResult) (data : List Byte)
  /-- UART_DATA_WRITE (R591). -/
  | uartDataWrite (src : Src) (u : Fin 2) (v : Word)
  /-- UART_DATA_READ (R591). -/
  | uartDataRead (src : Src) (u : Fin 2)
  /-- UART_RECEIVE (R591). -/
  | uartReceive (u : Fin 2)
  /-- UART_OCTET_ARRIVAL (R591). -/
  | uartOctetArrival (u : Fin 2) (v : Byte)
  /-- UART_OCTET_SENT (R591). -/
  | uartOctetSent (u : Fin 2)
  -- Debug
  /-- CHAL (R587). -/
  | chal (src : Src)
  /-- SUBMIT (R587). -/
  | submit (src : Src)
  /-- RELOCK (R587). -/
  | relock (src : Src)
  /-- CHALLENGE_EXPIRY (R587). -/
  | challengeExpiry
  /-- TAP_INSTRUCTION (R583). -/
  | tapInstruction (i : TapInstr)
  /-- DBGACC (R584). -/
  | dbgacc (op : DbgOp)
  -- Power
  /-- MODE_REQUEST (R624). -/
  | modeRequest (src : Src) (target : Fin 8)
  /-- MODE_CHANGE_DONE (R627). -/
  | modeChangeDone
  /-- DORMANT_REQUEST (R634). -/
  | dormantRequest (src : Src)
  /-- DORMANT_ENTRY_COMPLETE (R634). -/
  | dormantEntryComplete
  /-- KEEPALIVE_REQUEST (R648). -/
  | keepaliveRequest (src : Src)
  /-- WAKE (R637). -/
  | wake (w : WakeSrc)
  /-- KEEPALIVE_WAKE (R648). -/
  | keepaliveWake (pin : Bool)
  /-- DOMAIN_REQUEST (R630). -/
  | domainRequest (src : Src)
  /-- DOMAIN_CHANGE_DONE (R631). -/
  | domainChangeDone
  /-- RESET_PIN_FALL (R642). -/
  | resetPinFall
  /-- RESET_PIN_RISE (R643). -/
  | resetPinRise (holdMs : Nat)
  /-- RESET_RELEASE (R647). -/
  | resetRelease
  /-- PW_SWRST (R644). -/
  | pwSwrst (src : Src) (v : Word)
  /-- BROWNOUT (R640). -/
  | brownout
  /-- SUPPLY_GOOD (R647). -/
  | supplyGood
  /-- MAIN_SUPPLIES_GOOD (R647). -/
  | mainSuppliesGood
  /-- SUPPLY_FAILURE (R657). -/
  | supplyFailure
  /-- VBAT_SWITCH_OVER (R657). -/
  | vbatSwitchOver
  /-- VDD_IO_RETURN (R657). -/
  | vddIoReturn
  /-- VBAT_RISE (R625). -/
  | vbatRise
  /-- VBAT_FALL (R625). -/
  | vbatFall
  /-- VBAT_LOW (R659). -/
  | vbatLow
  /-- PFAIL_N_FALL (R649). -/
  | pfailNFall
  /-- PFAIL_N_RISE (R649). -/
  | pfailNRise
  /-- PW_SSC_WRITE (R650). -/
  | pwSscWrite (src : Src) (v : Word)
  -- Rtc
  /-- RTC_LOAD (R655). -/
  | rtcLoad (src : Src)
  /-- RTC_SYNC (R655). -/
  | rtcSync (src : Src)
  /-- RTC_COMMAND_APPLY (R655). -/
  | rtcCommandApply
  /-- RTC_ALARM (R656). -/
  | rtcAlarm
  /-- OSCILLATOR_STOP (R659). -/
  | oscillatorStop
  /-- OSCILLATOR_RESTART (R659). -/
  | oscillatorRestart
  -- Health
  /-- TEMPERATURE_SAMPLE (R663). -/
  | temperatureSample (sensor : Fin 12) (t : BitVec 10)
  /-- HIGHEST_TEMPERATURE_RECORD (R664). -/
  | highestTemperatureRecord
  /-- AGEING_MEASUREMENT (R666). -/
  | ageingMeasurement (counts : List (Nat × Nat))
  /-- PREDICTION (R670). -/
  | prediction
  /-- HM_PREDCMD (R670). -/
  | hmPredcmd (src : Src)
  /-- PREDICTION_DONE (R673). -/
  | predictionDone
  /-- OCCURRENCE_UPDATE (R676). -/
  | occurrenceUpdate (code : Byte)
  /-- HM_REC (R681). -/
  | hmRec (src : Src) (v : Word)
  /-- HM_CUR_WRITE (R684). -/
  | hmCurWrite (src : Src) (n : Fin 2) (v : Word)
  /-- HM_WINDOW_ADVANCE (R684). -/
  | hmWindowAdvance (src : Src) (n : Fin 2)
  /-- HM_EDGEDATA_WRITE (R679). -/
  | hmEdgedataWrite (src : Src) (v : Word)
  /-- HM_CFG_WRITE (R679). -/
  | hmCfgWrite (src : Src) (v : Word)
  /-- HM_SNAP (R687). -/
  | hmSnap (src : Src) (v : Word)
  /-- PERIODIC_SNAPSHOT (R687). -/
  | periodicSnapshot
  /-- SNAPSHOT_DONE (R686). -/
  | snapshotDone
deriving DecidableEq, Repr

end Sys2Proof
end

