-- ==== Sys2Proof/Decode.lean ====
section
/-! DEFINITION. The words of the Nimvor instructions: decoding, total on any two words, and encoding (R691–R695,
Tables 17-1 to 17-5, 17-9 to 17-17). No row of the operation table gives bits, so no table word spells a command. -/

namespace Sys2Proof

/-- The command that a word of the operation table spells: the table gives no row bits, so none. -/
def decodeTableWord (_nbits _w : Nat) : Option Instr := none

namespace Nimvor

open Sys2Proof.Machine (fld wd)

/-- The register number in a field. -/
def rg (n : Nat) : Reg := Fin.ofNat 32 n

/-- Does a field name a pair? -/
def even (r : Reg) : Bool := r.val % 2 == 0

/-- An A-format word (Table 17-1). -/
def wordA (op : Nat) (d a b : Reg) (fn : Nat) : Word := wd (op * 2 ^ 18 + d.val * 2 ^ 13 + a.val * 2 ^ 8 + b.val * 2 ^ 3 + fn)

/-- An I-format word (Table 17-2). -/
def wordI (op : Nat) (d a : Reg) (imm : Nat) : Word := wd (op * 2 ^ 18 + d.val * 2 ^ 13 + a.val * 2 ^ 8 + imm)

/-- A B-format word (Table 17-4). -/
def wordB (op : Nat) (cond : BitVec 4) (disp : BitVec 14) : Word := wd (op * 2 ^ 18 + cond.toNat * 2 ^ 14 + disp.toNat)

/-- The extension word of a bit field (R710). -/
def extField (pos w1 : BitVec 5) : Word := wd (w1.toNat * 32 + pos.toNat)

/-- An A-format group of three-register operations by fn. -/
def groupA (sh : Sh) (bad : Instr) (op : Nat) (d a b : Reg) (fn : Nat) : Instr :=
  match op, fn with
  | 0, 0 => .add sh d a b
  | 0, 1 => .adc sh d a b
  | 0, 2 => .sub sh d a b
  | 0, 3 => .sbc sh d a b
  | 0, 4 => .and sh d a b
  | 0, 5 => .or sh d a b
  | 0, 6 => .xor sh d a b
  | 0, 7 => .andn sh d a b
  | 8, 0 => .shl sh d a b
  | 8, 1 => .shr sh d a b
  | 8, 2 => .sar sh d a b
  | 8, 3 => .rol sh d a b
  | 8, 4 => .ror sh d a b
  | 8, 5 => if b = 0 then .clz sh d a else bad
  | 8, 6 => if b = 0 then .popc sh d a else bad
  | 8, 7 => if b = 0 then .brev sh d a else bad
  | 10, 0 => if even d = true then .mulu sh d a b else bad
  | 10, 1 => if even d = true then .muls sh d a b else bad
  | 10, 2 => .mull sh d a b
  | 10, 3 => if even d = true then .macu sh d a b else bad
  | 10, 4 => if even d = true then .macs sh d a b else bad
  | 10, 5 => if even d = true ∧ even a = true then .divu sh d a b else bad
  | 11, 0 => if even d = true ∧ even a = true ∧ even b = true then .addp sh d a b else bad
  | 11, 1 => if even d = true ∧ even a = true ∧ even b = true then .subp sh d a b else bad
  | 11, 2 => if even d = true ∧ even a = true then .shlp sh d a b else bad
  | 11, 3 => if even d = true ∧ even a = true then .shrp sh d a b else bad
  | 11, 4 => if even d = true ∧ even a = true then .sarp sh d a b else bad
  | 11, 5 => if b = 0 ∧ even d = true ∧ even a = true then .movp sh d a else bad
  | 11, 6 => if d = 0 ∧ even a = true ∧ even b = true then .cmpp sh a b else bad
  | 11, 7 => if b = 0 ∧ even d = true then .sxp sh d a else bad
  | 13, 0 => if d = 0 then .btst sh a b else bad
  | 13, 1 => .bset sh d a b
  | 13, 2 => .bclr sh d a b
  | 13, 3 => .bflip sh d a b
  | 26, 0 => if b = 0 then .jr sh d a else bad
  | 32, 0 => if b = 0 then .waitev sh d a else bad
  | 34, 0 => if a = 0 ∧ b = 0 ∧ even d = true then .tcap sh d else bad
  | 34, 1 => if d = 0 ∧ b = 0 ∧ even a = true then .waitt sh a else bad
  | 42, 0 => if b = 0 then .pt sh d a else bad
  | 42, 1 => if b = 0 then .ptp sh d a else bad
  | 43, 0 => if b = 0 then .kv sh d a else bad
  | 43, 1 => if b = 0 then .kvp sh d a else bad
  | 44, 0 => if d = 0 ∧ b = 0 then .frt sh a else bad
  | 48, 0 => if even d = true ∧ even a = true then .crc32 sh d a b else bad
  | 48, 1 => if even d = true ∧ even a = true then .crc32c sh d a b else bad
  | 48, 2 => if even d = true ∧ even a = true then .crc32b sh d a b else bad
  | 48, 3 => if even d = true ∧ even a = true then .crc32cb sh d a b else bad
  | 48, 4 => .crc16 sh d a b
  | 48, 5 => .crc16b sh d a b
  | 48, 6 => .fmix sh d a b
  | 48, 7 => .red sh d a b
  | 63, 0 => if d = 0 ∧ a = 0 ∧ b = 0 then .fence sh else bad
  | 63, 1 => if a = 0 ∧ b = 0 then .rdast sh d else bad
  | 63, 2 => if a = 0 ∧ b = 0 then .rdfl sh d else bad
  | 63, 3 => if d = 0 ∧ b = 0 then .wrfl sh a else bad
  | 63, 4 => if a = 0 ∧ b = 0 then .rdid sh d else bad
  | 63, 5 => if a = 0 ∧ b = 0 then .rdpc sh d else bad
  | 63, 6 => if d = 0 ∧ a = 0 ∧ b = 0 then .halts sh else bad
  | 40, 0 => if d = 0 then .enq (.shunter sh d a b) else bad
  | 40, 1 => .enqm (.shunter sh d a b)
  | 40, 2 => if d = 0 then .deq (.shunter sh d a b) else bad
  | 40, 3 => .put (.shunter sh d a b)
  | 40, 4 => .get (.shunter sh d a b)
  | 40, 5 => if b = 0 then .qflush (.shunter sh d a b) else bad
  | 41, 0 => .calloc (.shunter sh d a b)
  | 41, 1 => if d = 0 ∧ b = 0 then .cfree (.shunter sh d a b) else bad
  | 41, 2 => if d = 0 then .clink (.shunter sh d a b) else bad
  | 41, 3 => if b = 0 ∧ even d = true then .cnext (.shunter sh d a b) else bad
  | _, _ => bad

/-- An I-format instruction by its opcode. -/
def groupI (sh : Sh) (bad : Instr) (op : Nat) (d a : Reg) (imm : BitVec 8) (x : Word) : Instr :=
  match op with
  | 1 => .addi sh d a imm
  | 2 => .subi sh d a imm
  | 3 => .andi sh d a imm
  | 4 => .ori sh d a imm
  | 5 => .xori sh d a imm
  | 6 => if a = 0 then .movs sh d imm else bad
  | 16 => .ld sh d a imm
  | 18 => .st sh d a imm
  | 20 => if even d = true then .ldp sh d a imm else bad
  | 21 => if even d = true then .stp sh d a imm else bad
  | 7 => if a = 0 ∧ imm = 0 then .movi sh d x else bad
  | 17 => if imm = 0 then .ldx sh d a x else bad
  | 19 => if imm = 0 then .stx sh d a x else bad
  | 9 =>
    if 24 ≤ imm.toNat % 32 then bad
    else
      let n := BitVec.ofNat 5 imm.toNat
      match imm.toNat / 32 with
      | 0 => .shli sh d a n
      | 1 => .shri sh d a n
      | 2 => .sari sh d a n
      | 3 => .roli sh d a n
      | 4 => .rori sh d a n
      | _ => bad
  | 27 => if a = 0 ∧ imm = 0 ∧ fld x 23 17 = 0 then .jl sh d x else bad
  | 33 => if d = 0 ∧ (if imm.getLsbD 7 then imm = 128 else a = 0) then .signal sh a imm else bad
  | 36 => if d = 0 ∧ a = 0 then .tkacq sh imm else bad
  | 37 => if d = 0 ∧ a = 0 then .tktry sh imm else bad
  | 38 => if d = 0 ∧ a = 0 then .tkrel sh imm else bad
  | _ => bad

/-- Is the opcode of I format (Table 17-5)? -/
def isI (op : Nat) : Bool :=
  decide (1 ≤ op ∧ op ≤ 7) || decide (op = 9) || decide (16 ≤ op ∧ op ≤ 21) || decide (op = 27) || decide (op = 33) ||
  decide (36 ≤ op ∧ op ≤ 38)

/-- A bit-field instruction with its extension word (R710). -/
def groupField (sh : Sh) (bad : Instr) (d a b : Reg) (fn : Nat) (x : Word) : Instr :=
  let pos := BitVec.ofNat 5 (fld x 4 0)
  let w1 := BitVec.ofNat 5 (fld x 9 5)
  if b = 0 ∧ fld x 23 10 = 0 ∧ pos.toNat ≤ 23 ∧ pos.toNat + w1.toNat + 1 ≤ 24 then
    match fn with
    | 0 => .extu sh d a pos w1
    | 1 => .exts sh d a pos w1
    | 2 => .ins sh d a pos w1
    | _ => bad
  else bad

/-- The instruction of shunter `sh` in word `w`, with the word after it; any other word is ILLEGAL (R693). -/
def decode (sh : Sh) (w x : Word) : Instr :=
  let op := fld w 23 18
  let d := rg (fld w 17 13)
  let a := rg (fld w 12 8)
  let bad := Instr.illegal sh w x
  if op = 24 then .bCond sh (BitVec.ofNat 4 (fld w 17 14)) (BitVec.ofNat 14 (fld w 13 0))
  else if op = 25 then .callCond sh (BitVec.ofNat 4 (fld w 17 14)) (BitVec.ofNat 14 (fld w 13 0))
  else if isI op then groupI sh bad op d a (BitVec.ofNat 8 (fld w 7 0)) x
  else if op = 12 then groupField sh bad d a (rg (fld w 7 3)) (fld w 2 0) x
  else groupA sh bad op d a (rg (fld w 7 3)) (fld w 2 0)

/-- The word of an instruction, and its extension word where it has one; a command that is no instruction has
none. -/
def encode : Instr → Option (Word × Option Word)
  | .add _ d a b => some (wordA 0 d a b 0, none)
  | .adc _ d a b => some (wordA 0 d a b 1, none)
  | .sub _ d a b => some (wordA 0 d a b 2, none)
  | .sbc _ d a b => some (wordA 0 d a b 3, none)
  | .and _ d a b => some (wordA 0 d a b 4, none)
  | .or _ d a b => some (wordA 0 d a b 5, none)
  | .xor _ d a b => some (wordA 0 d a b 6, none)
  | .andn _ d a b => some (wordA 0 d a b 7, none)
  | .shl _ d a b => some (wordA 8 d a b 0, none)
  | .shr _ d a b => some (wordA 8 d a b 1, none)
  | .sar _ d a b => some (wordA 8 d a b 2, none)
  | .rol _ d a b => some (wordA 8 d a b 3, none)
  | .ror _ d a b => some (wordA 8 d a b 4, none)
  | .clz _ d a => some (wordA 8 d a 0 5, none)
  | .popc _ d a => some (wordA 8 d a 0 6, none)
  | .brev _ d a => some (wordA 8 d a 0 7, none)
  | .mulu _ d a b => some (wordA 10 d a b 0, none)
  | .muls _ d a b => some (wordA 10 d a b 1, none)
  | .mull _ d a b => some (wordA 10 d a b 2, none)
  | .macu _ d a b => some (wordA 10 d a b 3, none)
  | .macs _ d a b => some (wordA 10 d a b 4, none)
  | .divu _ d a b => some (wordA 10 d a b 5, none)
  | .addp _ d a b => some (wordA 11 d a b 0, none)
  | .subp _ d a b => some (wordA 11 d a b 1, none)
  | .shlp _ d a b => some (wordA 11 d a b 2, none)
  | .shrp _ d a b => some (wordA 11 d a b 3, none)
  | .sarp _ d a b => some (wordA 11 d a b 4, none)
  | .movp _ d a => some (wordA 11 d a 0 5, none)
  | .cmpp _ a b => some (wordA 11 0 a b 6, none)
  | .sxp _ d a => some (wordA 11 d a 0 7, none)
  | .btst _ a b => some (wordA 13 0 a b 0, none)
  | .bset _ d a b => some (wordA 13 d a b 1, none)
  | .bclr _ d a b => some (wordA 13 d a b 2, none)
  | .bflip _ d a b => some (wordA 13 d a b 3, none)
  | .jr _ d a => some (wordA 26 d a 0 0, none)
  | .waitev _ d a => some (wordA 32 d a 0 0, none)
  | .tcap _ d => some (wordA 34 d 0 0 0, none)
  | .waitt _ a => some (wordA 34 0 a 0 1, none)
  | .pt _ d a => some (wordA 42 d a 0 0, none)
  | .ptp _ d a => some (wordA 42 d a 0 1, none)
  | .kv _ d a => some (wordA 43 d a 0 0, none)
  | .kvp _ d a => some (wordA 43 d a 0 1, none)
  | .frt _ a => some (wordA 44 0 a 0 0, none)
  | .crc32 _ d a b => some (wordA 48 d a b 0, none)
  | .crc32c _ d a b => some (wordA 48 d a b 1, none)
  | .crc32b _ d a b => some (wordA 48 d a b 2, none)
  | .crc32cb _ d a b => some (wordA 48 d a b 3, none)
  | .crc16 _ d a b => some (wordA 48 d a b 4, none)
  | .crc16b _ d a b => some (wordA 48 d a b 5, none)
  | .fmix _ d a b => some (wordA 48 d a b 6, none)
  | .red _ d a b => some (wordA 48 d a b 7, none)
  | .fence _  => some (wordA 63 0 0 0 0, none)
  | .rdast _ d => some (wordA 63 d 0 0 1, none)
  | .rdfl _ d => some (wordA 63 d 0 0 2, none)
  | .wrfl _ a => some (wordA 63 0 a 0 3, none)
  | .rdid _ d => some (wordA 63 d 0 0 4, none)
  | .rdpc _ d => some (wordA 63 d 0 0 5, none)
  | .halts _  => some (wordA 63 0 0 0 6, none)
  | .enq (.shunter _ d a b) => some (wordA 40 d a b 0, none)
  | .enqm (.shunter _ d a b) => some (wordA 40 d a b 1, none)
  | .deq (.shunter _ d a b) => some (wordA 40 d a b 2, none)
  | .put (.shunter _ d a b) => some (wordA 40 d a b 3, none)
  | .get (.shunter _ d a b) => some (wordA 40 d a b 4, none)
  | .qflush (.shunter _ d a b) => some (wordA 40 d a b 5, none)
  | .calloc (.shunter _ d a b) => some (wordA 41 d a b 0, none)
  | .cfree (.shunter _ d a b) => some (wordA 41 d a b 1, none)
  | .clink (.shunter _ d a b) => some (wordA 41 d a b 2, none)
  | .cnext (.shunter _ d a b) => some (wordA 41 d a b 3, none)
  | .addi _ d a imm => some (wordI 1 d a imm.toNat, none)
  | .subi _ d a imm => some (wordI 2 d a imm.toNat, none)
  | .andi _ d a imm => some (wordI 3 d a imm.toNat, none)
  | .ori _ d a imm => some (wordI 4 d a imm.toNat, none)
  | .xori _ d a imm => some (wordI 5 d a imm.toNat, none)
  | .movs _ d imm => some (wordI 6 d 0 imm.toNat, none)
  | .ld _ d a imm => some (wordI 16 d a imm.toNat, none)
  | .st _ d a imm => some (wordI 18 d a imm.toNat, none)
  | .ldp _ d a imm => some (wordI 20 d a imm.toNat, none)
  | .stp _ d a imm => some (wordI 21 d a imm.toNat, none)
  | .movi _ d ext => some (wordI 7 d 0 0, some ext)
  | .ldx _ d a ext => some (wordI 17 d a 0, some ext)
  | .stx _ d a ext => some (wordI 19 d a 0, some ext)
  | .shli _ d a n => some (wordI 9 d a (0 * 32 + n.toNat), none)
  | .shri _ d a n => some (wordI 9 d a (1 * 32 + n.toNat), none)
  | .sari _ d a n => some (wordI 9 d a (2 * 32 + n.toNat), none)
  | .roli _ d a n => some (wordI 9 d a (3 * 32 + n.toNat), none)
  | .rori _ d a n => some (wordI 9 d a (4 * 32 + n.toNat), none)
  | .jl _ d ext => some (wordI 27 d 0 0, some ext)
  | .signal _ a imm => some (wordI 33 0 a imm.toNat, none)
  | .tkacq _ t => some (wordI 36 0 0 t.toNat, none)
  | .tktry _ t => some (wordI 37 0 0 t.toNat, none)
  | .tkrel _ t => some (wordI 38 0 0 t.toNat, none)
  | .bCond _ c disp => some (wordB 24 c disp, none)
  | .callCond _ c disp => some (wordB 25 c disp, none)
  | .extu _ d a pos w1 => some (wordA 12 d a 0 0, some (extField pos w1))
  | .exts _ d a pos w1 => some (wordA 12 d a 0 1, some (extField pos w1))
  | .ins _ d a pos w1 => some (wordA 12 d a 0 2, some (extField pos w1))
  | _ => none

/-- The shunter of an instruction. -/
def shunterOf : Instr → Option Sh
  | .add sh _ _ _ => some sh
  | .adc sh _ _ _ => some sh
  | .sub sh _ _ _ => some sh
  | .sbc sh _ _ _ => some sh
  | .and sh _ _ _ => some sh
  | .or sh _ _ _ => some sh
  | .xor sh _ _ _ => some sh
  | .andn sh _ _ _ => some sh
  | .shl sh _ _ _ => some sh
  | .shr sh _ _ _ => some sh
  | .sar sh _ _ _ => some sh
  | .rol sh _ _ _ => some sh
  | .ror sh _ _ _ => some sh
  | .clz sh _ _ => some sh
  | .popc sh _ _ => some sh
  | .brev sh _ _ => some sh
  | .mulu sh _ _ _ => some sh
  | .muls sh _ _ _ => some sh
  | .mull sh _ _ _ => some sh
  | .macu sh _ _ _ => some sh
  | .macs sh _ _ _ => some sh
  | .divu sh _ _ _ => some sh
  | .addp sh _ _ _ => some sh
  | .subp sh _ _ _ => some sh
  | .shlp sh _ _ _ => some sh
  | .shrp sh _ _ _ => some sh
  | .sarp sh _ _ _ => some sh
  | .movp sh _ _ => some sh
  | .cmpp sh _ _ => some sh
  | .sxp sh _ _ => some sh
  | .btst sh _ _ => some sh
  | .bset sh _ _ _ => some sh
  | .bclr sh _ _ _ => some sh
  | .bflip sh _ _ _ => some sh
  | .jr sh _ _ => some sh
  | .waitev sh _ _ => some sh
  | .tcap sh _ => some sh
  | .waitt sh _ => some sh
  | .pt sh _ _ => some sh
  | .ptp sh _ _ => some sh
  | .kv sh _ _ => some sh
  | .kvp sh _ _ => some sh
  | .frt sh _ => some sh
  | .crc32 sh _ _ _ => some sh
  | .crc32c sh _ _ _ => some sh
  | .crc32b sh _ _ _ => some sh
  | .crc32cb sh _ _ _ => some sh
  | .crc16 sh _ _ _ => some sh
  | .crc16b sh _ _ _ => some sh
  | .fmix sh _ _ _ => some sh
  | .red sh _ _ _ => some sh
  | .fence sh => some sh
  | .rdast sh _ => some sh
  | .rdfl sh _ => some sh
  | .wrfl sh _ => some sh
  | .rdid sh _ => some sh
  | .rdpc sh _ => some sh
  | .halts sh => some sh
  | .enq (.shunter sh _ _ _) => some sh
  | .enqm (.shunter sh _ _ _) => some sh
  | .deq (.shunter sh _ _ _) => some sh
  | .put (.shunter sh _ _ _) => some sh
  | .get (.shunter sh _ _ _) => some sh
  | .qflush (.shunter sh _ _ _) => some sh
  | .calloc (.shunter sh _ _ _) => some sh
  | .cfree (.shunter sh _ _ _) => some sh
  | .clink (.shunter sh _ _ _) => some sh
  | .cnext (.shunter sh _ _ _) => some sh
  | .addi sh _ _ _ => some sh
  | .subi sh _ _ _ => some sh
  | .andi sh _ _ _ => some sh
  | .ori sh _ _ _ => some sh
  | .xori sh _ _ _ => some sh
  | .movs sh _ _ => some sh
  | .ld sh _ _ _ => some sh
  | .st sh _ _ _ => some sh
  | .ldp sh _ _ _ => some sh
  | .stp sh _ _ _ => some sh
  | .movi sh _ _ => some sh
  | .ldx sh _ _ _ => some sh
  | .stx sh _ _ _ => some sh
  | .shli sh _ _ _ => some sh
  | .shri sh _ _ _ => some sh
  | .sari sh _ _ _ => some sh
  | .roli sh _ _ _ => some sh
  | .rori sh _ _ _ => some sh
  | .jl sh _ _ => some sh
  | .signal sh _ _ => some sh
  | .tkacq sh _ => some sh
  | .tktry sh _ => some sh
  | .tkrel sh _ => some sh
  | .bCond sh _ _ => some sh
  | .callCond sh _ _ => some sh
  | .extu sh _ _ _ _ => some sh
  | .exts sh _ _ _ _ => some sh
  | .ins sh _ _ _ _ => some sh
  | _ => none

end Nimvor

end Sys2Proof
end

