-- ==== Sys2Proof/Config.lean ====
section
/-! DEFINITION. What the spec leaves open: free values, and values of the part that the spec names but gives to nobody
(its device root, its serial number, the vendor's keys), with the ML-DSA-65 functions of FIPS 204. None of them has a
body, so nothing can be proved about a value of theirs. -/

namespace Sys2Proof

/-- The n-th free value of a run (DESIGN CHOICE, log 9): any number; its user reduces it to the range it needs. -/
opaque Config.freeValue : Nat → Nat

/-- The 256-bit device root D that a part's silicon yields (R477; log 32). -/
opaque Config.deviceRoot : BitVec 256

/-- DEVSN, the device serial number of 16 octets (R473; log 32). -/
opaque Config.deviceSerial : BitVec 128

/-- The vendor's ECDSA P-384 key in the vault's ROM: the point's coordinates (R474; log 32). -/
opaque Config.vendorEc : BitVec 768

/-- Octet `i` of the vendor's ML-DSA-65 key (R474; log 32). -/
opaque Config.vendorMl : Nat → BitVec 8

/-- The vendor's ECDSA P-384 debug key in the vault's ROM, which nothing equates with the signing key (Table 13-5; log 32). -/
opaque Config.vendorDebugEc : BitVec 768

/-- Octet `i` of the vendor's ML-DSA-65 debug key (Table 13-5; log 32). -/
opaque Config.vendorDebugMl : Nat → BitVec 8

/-- Octet `i` of the ML-DSA-65 public key of a seed ξ (FIPS 204; log 32). -/
opaque Config.mlPublic : List (BitVec 8) → Nat → BitVec 8

/-- Octet `i` of the hedged ML-DSA-65 signature by seed, context, message and random value (FIPS 204; log 32). -/
opaque Config.mlSign : List (BitVec 8) → List (BitVec 8) → List (BitVec 8) → Nat → Nat → BitVec 8

/-- Does an ML-DSA-65 signature verify, by public key, context, message and signature (FIPS 204; log 32)? -/
opaque Config.mlVerify : List (BitVec 8) → List (BitVec 8) → List (BitVec 8) → List (BitVec 8) → Bool

/-- The label of the KDF request, which the spec does not state (log 33). -/
opaque Config.kdfLabel : List (BitVec 8)

end Sys2Proof
end

