-- ==== Sys2Proof/Machine/RegMap.lean ====
section
/-! DEFINITION. The register maps of the chapters (R20, R21): for every register its offset, how often and at what
stride it is repeated, its access type, the bits a write reaches and its reset value. Fields that hardware writes
are stored in the same word and lie outside the write mask. -/

namespace Sys2Proof.Machine

/-- The access types of Table 00-5; LC registers are handled by their block. -/
inductive Acc where
  | rw | ro | rc | w1c | w1p | wo | wl
deriving DecidableEq, Repr

/-- One row of a register map: `n` registers from `ofs` on, `stride` words apart. -/
structure RegRow where
  ofs : Nat
  n : Nat
  stride : Nat
  acc : Acc
  mask : Nat
  rst : Nat
deriving DecidableEq, Repr

def rRW (ofs mask rst : Nat) : RegRow := ⟨ofs, 1, 1, .rw, mask, rst⟩
def rRWs (ofs n stride mask rst : Nat) : RegRow := ⟨ofs, n, stride, .rw, mask, rst⟩
def rRO (ofs rst : Nat) : RegRow := ⟨ofs, 1, 1, .ro, 0, rst⟩
def rROs (ofs n stride rst : Nat) : RegRow := ⟨ofs, n, stride, .ro, 0, rst⟩
def rRC (ofs : Nat) : RegRow := ⟨ofs, 1, 1, .rc, 0, 0⟩
def rRCs (ofs n stride : Nat) : RegRow := ⟨ofs, n, stride, .rc, 0, 0⟩
def rW1P (ofs : Nat) : RegRow := ⟨ofs, 1, 1, .w1p, 0, 0⟩
def rWO (ofs mask : Nat) : RegRow := ⟨ofs, 1, 1, .wo, mask, 0⟩

/-- Does the row hold offset `a`? -/
def RegRow.hasOfs (r : RegRow) (a : Nat) : Bool :=
  decide (r.ofs ≤ a) && decide ((a - r.ofs) % r.stride = 0) && decide ((a - r.ofs) / r.stride < r.n)

/-- The row that holds offset `a`. -/
def findRow : List RegRow → Nat → Option RegRow
  | [], _ => none
  | r :: t, a => if r.hasOfs a then some r else findRow t a

/-- PW (Table 15-8). -/
def rowsPW : List RegRow :=
  [ rRO 0 0x600000, rWO 1 0xE00000, rRO 2 0, rRO 3 0, rRO 4 0, rWO 5 0xFFFFFF, rRW 6 0xFFF000 0x555000,
    rRW 7 0xFC0000 0, rRO 8 0, rRO 9 0, rRO 0xA 0, rRC 0xB, rRW 0x10 0xFFFFE8 0x07FFFF, rRW 0x11 0xBF 0xC0,
    rW1P 0x12, rRO 0x13 0, rRO 0x14 0x07FFFF, rRO 0x15 0xC0, rRO 0x16 0, rRO 0x17 0 ]

/-- SC (Table 07-5). -/
def rowsSC : List RegRow :=
  [ rRW 0 0x800000 0, rRO 1 0, rW1P 2, rROs 4 4 1 0, rRWs 8 4 1 0xFFFFFF 0, rRWs 0xC 2 1 0xFFFFFF 0,
    rRO 0x10 0x112E0B, rRO 0x11 0xE826D7, rRWs 0x12 3 1 0xFFFFFF 0, rWO 0x18 0xFFFFFF, rRO 0x19 0,
    rRW 0x1A 0xFFFFFF 0x0801F4, rRW 0x1B 0xFFFFFF 0x140803, rRO 0x1C 0, rRCs 0x1D 3 1,
    rRWs 0x40 16 4 0x800000 0, rRWs 0x41 16 4 0xFFFFFF 0, rRWs 0x42 16 4 0xFFFFFF 0, rRWs 0x43 16 4 0xFFFFFF 0 ]

/-- HM (Table 16-6). -/
def rowsHM : List RegRow :=
  [ rRW 0 0x800000 0x800000, rRO 1 0, rRW 2 0x3FFFF 0, rWO 3 0xFFFFFF, rW1P 4, rRW 5 0x80FFFF 0, rRO 6 0, rRO 7 0,
    rRC 8, rRW 0x10 0xFF 0, rRW 0x11 0xFFFFFE 0, rRW 0x12 0xF 1, rRW 0x13 0xFFFFFF 0, rRW 0x20 0xFF 0x64,
    rRW 0x21 0xFF 0x78, rRO 0x22 0, rRW 0x23 0x1FFFF 0x61A8, rRW 0x24 0xFFFFFF 0x16D, rRW 0x25 0x3FF 0x320,
    rW1P 0x26, rRO 0x27 0xFFFFFF, rRO 0x28 0, rROs 0x40 12 1 0, rROs 0x60 24 4 0, rROs 0x61 24 4 0,
    rROs 0x62 24 4 0, rROs 0x63 24 4 0xFFFFFF, rROs 0x100 64 1 0, rRW 0x140 0xC01FFF 0, rROs 0x200 64 1 0,
    rRW 0x240 0xC01FFF 0, rROs 0x1000 8192 1 0, rROs 0x3000 4096 1 0xFFFFFF ]

/-- RTC (Table 15-10). -/
def rowsRTC : List RegRow :=
  [ rRO 0 0, rRO 1 0, rRO 2 0, rRO 3 0x1EC841, rRO 4 0xB00000, rRW 5 0xFFFFFF 0, rRW 6 0x3FF 0,
    ⟨7, 1, 1, .w1c, 0x680000, 0⟩, rRWs 8 2 1 0xFFFFFF 0, rRW 0xA 0x7FFF 0, rW1P 0xB, rRWs 0xC 2 1 0xFFFFFF 0,
    rRW 0xE 0xC00000 0 ]

/-- FR (Table 02-14). -/
def rowsFR : List RegRow :=
  [ rRW 0 1 0, ⟨0x10, 8, 2, .wl, 0x3FFFFF, 0x3FFFFF⟩, ⟨0x11, 8, 2, .wl, 0x3FFFFF, 0⟩, rROs 0x20 8 1 0,
    rRCs 0x28 8 1, rRC 0x30 ]

/-- One depot control block (Table 02-7). -/
def rowsDP : List RegRow :=
  [ rRW 0 0x800000 0, rRO 1 0, rRW 2 0xFFFF 0, ⟨3, 1, 1, .w1c, 0xFF, 0⟩, rRW 4 0xFFFF 0, rRC 5, rRW 6 0x1FFFF 0,
    rRW 7 0xFFFFFF 0, ⟨8, 1, 1, .wl, 1, 0⟩, rRWs 0x40 8 8 0x1FFFF 0, rROs 0x41 8 8 0, rROs 0x42 8 8 0,
    rROs 0x43 8 8 0, ⟨0x44, 8, 8, .wl, 0x1FFFF, 0⟩, ⟨0x45, 8, 8, .wl, 0x1FFFF, 0⟩, rROs 0x46 8 8 0,
    rROs 0x47 8 8 0, rROs 0x100 32 1 0, ⟨0x300, 1, 1, .wl, 0x80FFFF, 0⟩, rWO 0x301 0xFFFFFF, rRO 0x302 0,
    rRC 0x303, rRWs 0x800 1024 2 0xF000FF 0, rRWs 0x801 1024 2 0x1FFFF 0 ]

/-- YD (Table 09-8). -/
def rowsYD : List RegRow :=
  [ rRW 0 0x800000 0, rRO 1 0, rRW 2 0x3FFFF 0, rRW 3 0x3FFFF 0, rW1P 4, rRO 5 0, rRO 6 0x040000,
    rRW 7 0x7FFFF 0x1000, rRWs 8 3 1 0x3FFFF 0, rRWs 0xC 3 1 0x3FFFF 0, rROs 0x10 3 1 0, rRWs 0x14 3 1 0x3FFFF 0,
    rRCs 0x20 10 1, rRO 0x2A 0, rRO 0x2B 0, rRW 0x100 0xFFFFFF 0, rRW 0x101 0x3FFFF 0, rROs 0x102 4 1 0,
    rRWs 0x108 6 1 0xFFFFFF 0, rRWs 0x140 64 1 0xFFFFFF 0, rRW 0x200 0x3FFF 0, rRWs 0x201 2 1 0xFFFFF 0,
    rRW 0x203 0x7FFFFF 0, rRW 0x204 0xFFFFFF 0, rRW 0x300 0xFFF 0, rRW 0x301 0x7F 0, rRW 0x302 0x3FFFF 0,
    rRW 0x303 0x3F 0, rRW 0x304 0x3FFFF 0, ⟨0x400, 18, 0x10, .w1p, 0, 0⟩, rROs 0x401 18 0x10 0,
    rRWs 0x402 18 0x10 0xFFFFFF 0, rRWs 0x403 18 0x10 0xFFFFFF 0, rRWs 0x404 18 0x10 0x7FF 0,
    rRWs 0x405 18 0x10 0x3FF 0, rRWs 0x406 18 0x10 0xFFFFFF 0, rROs 0x407 18 0x10 0, rROs 0x408 18 0x10 0 ]

/-- A queue descriptor (Table 09-9), by offset in the queue descriptor window. -/
def rowsQDW : List RegRow :=
  [ rRWs 0 147456 8 0xFFFFFF 0, rRWs 1 147456 8 0x3FFFF 0, rRWs 2 147456 8 0x7FFF 0, rROs 3 147456 8 0,
    rROs 4 147456 8 0, rRCs 5 147456 8, rRCs 6 147456 8, rRWs 7 147456 8 0xC0007F 0 ]

/-- SB (Table 06-14). -/
def rowsSB : List RegRow :=
  [ rW1P 0, rROs 1 3 1 0, rRWs 4 4 1 0xFFFFFF 0, rROs 8 4 1 0, rRW 0x10 0x3FFF 0x20C4, rRW 0x11 0xFFF 0x3E8,
    rRW 0x12 0x3FFFF 0, rRW 0x13 0x3FFFF 0, rRW 0x14 0xFFFFFF 0x080010, rRW 0x15 0xFFFFFF 0x080010,
    rRW 0x16 0x3FFFF 0x400, rRO 0x17 0, rWO 0x18 0x3FFFF, rRW 0x19 0xFFFF 0x301, rRW 0x1A 3 0, rRW 0x1B 0x3FFF 0,
    rRW 0x1C 0xFFF000 0x020000, rRW 0x1D 0x3FFFF 0, rRW 0x1E 0xFFFF 0, rRW 0x1F 0xFFFFFF 0xB2484D, rRW 0x20 1 0,
    rRO 0x21 0, rRO 0x22 0, rRO 0x28 0, rRW 0x30 0x3FFFF 0, rROs 0x31 3 1 0, rRW 0x38 0x7FFFF 0,
    rRWs 0x39 2 1 0xFFFFFF 0, rW1P 0x3B, rRCs 0x40 16 1, rRWs 0x100 2 0x80 0xFFFF 0, rRWs 0x101 2 0x80 0x1FFFF 0,
    rRWs 0x102 2 0x80 0x3FFF 0, rRWs 0x103 2 0x80 0x3FFF 0, rRWs 0x104 2 0x80 0x7FFFF 0,
    rRWs 0x105 2 0x80 0xFFFFF 0, rRWs 0x106 2 0x80 0xFFFFFF 0, rRWs 0x107 2 0x80 0xFFFFFF 0,
    rRWs 0x108 2 0x80 0x3FFFF 0, rRWs 0x109 2 0x80 0x1FF 0, rRWs 0x10A 2 0x80 0x1FF 0, rRWs 0x10B 2 0x80 0x1FF 0,
    rRWs 0x1000 1024 1 0xFF 0, rRWs 0x2000 256 1 0xFFFFFF 0 ]

/-- FE, one band (Table 03-10); FE_WIN and FE_SYN_STAT of band B have resets of their own. -/
def rowsFEband (win dv : Nat) : List RegRow :=
  [ rRW 0 0xC0000F 0, rRW 1 0xFFFFFF win, rRO 2 dv, rRO 3 0, rRO 4 0, rRO 5 0, rRW 6 1 0, rRW 8 0x9FFF00 0x0C0A00,
    rROs 0x10 4 1 0, rRWs 0x14 4 1 0x3F 0x3C, rRO 0x18 0, rRCs 0x20 4 1, rROs 0x100 256 1 0, rROs 0x200 8 1 0,
    rROs 0x300 256 1 0 ]

/-- FE: both bands and the shared region registers. -/
def rowsFE : List RegRow :=
  rowsFEband 0x0CF850 2 ++ (rowsFEband 0x254216 1).map (fun r => { r with ofs := r.ofs + 0x8000 }) ++
  [ rRO 0xF000 0, rRW 0xF001 0x7F 0, rRW 0xF002 0xFFFFFF 0, rW1P 0xF003 ]

/-- TX, one band (Tables 03-12 and 05-3). -/
def rowsTXband : List RegRow :=
  [ rRW 0 0xF80000 0, rRW 1 0x3F 0, rRW 2 0xF 8, rRW 3 7 0x050005, rRW 4 0xFFFFFF 0x0A140A, rRO 5 0, rRO 6 0,
    rRW 8 0xF 4, rRW 9 0x3F 0, rRW 0xA 0xFFFFFF 0, rRC 0x10, rRC 0x11,
    rRWs 0x100 16 0x10 0x30FFFF 0, rROs 0x101 16 0x10 0, rRWs 0x102 16 0x10 0xFFFFFF 0, rRWs 0x103 16 0x10 0x83FFFF 0,
    rRWs 0x104 16 0x10 0x0FFFFF 0, rRWs 0x105 16 0x10 0xFFFFFF 0, rRWs 0x106 16 0x10 0xFFFFFF 0,
    rRWs 0x107 16 0x10 0xFFFFFF 0, rROs 0x108 16 0x10 0, rROs 0x109 16 0x10 0, rRWs 0x10A 16 0x10 0xFF0FFF 0,
    rRWs 0x10B 16 0x10 0x3FFFF 0, rRWs 0x10C 16 0x10 0xFFFFFF 0, rRWs 0x10D 16 0x10 0xFFFFFF 0,
    rRWs 0x10E 16 0x10 0xFFFFFF 0, rROs 0x10F 16 0x10 0 ]

/-- TX: both bands. -/
def rowsTX : List RegRow := rowsTXband ++ rowsTXband.map (fun r => { r with ofs := r.ofs + 0x8000 })

/-- LN (Tables 04-13 to 04-15, R225): lane registers, the channel entries of both bands, the pool registers. -/
def rowsLN : List RegRow :=
  [ rRWs 0 512 0x20 0x800000 0x800000, rROs 1 512 0x20 0, rROs 2 512 0x20 0, rROs 3 512 0x20 0, rROs 4 512 0x20 0,
    rRCs 5 512 0x20, rRCs 6 512 0x20,
    rRWs 0xC 256 0x20 0xFFFE00 0, rRWs 0xD 256 0x20 0xFFFFFF 0, rRWs 0xE 256 0x20 0xFF 0, rROs 0xF 256 0x20 0,
    rRCs 0x10 256 0x20, rRCs 0x11 256 0x20, rRCs 0x12 256 0x20,
    rRWs 0x14 256 0x20 0xFFFE00 0, rRWs 0x15 256 0x20 0xFFFFFF 0, rRWs 0x16 256 0x20 0xFF 0, rROs 0x17 256 0x20 0,
    rRCs 0x18 256 0x20, rRCs 0x19 256 0x20, rRCs 0x1A 256 0x20,
    rRW 0x1C 0xC00000 0, rRO 0x1D 0x200, rRW 0x1E 0x3FF 0x1C0, rRW 0x1F 0x1F 0xA,
    rRW 0x3C 0xFF 0x60, rRW 0x3D 0xFF 0x58, rRW 0x3E 0xFF 0x50, rRW 0x3F 0xFF 0x58,
    rRW 0x5C 0xFF 0x60, rRW 0x5D 0xFF 0x58, rRW 0x5E 0xFF 0x50, rRW 0x5F 0xFF 0x58,
    rRW 0x7C 0xFF 0x40, rRW 0x7D 0xF0F 0x508, rRW 0x7E 0x1F 0x14, rRO 0x7F 0,
    rRWs 0x9C 4 1 0x3FFFF 0, rRWs 0xBC 4 1 0x3FFFF 0, rRCs 0xDC 4 1, rRCs 0xFC 4 1, rRCs 0x11C 4 1, rRCs 0x13C 4 1,
    rRCs 0x15C 4 1, rRCs 0x17C 2 1 ]

/-- PT: eleven command ports (Table 08-11) and the global registers (Table 08-12). -/
def rowsPT : List RegRow :=
  [ rRWs 0 11 0x40 0xFE0000 0, rROs 1 11 0x40 0, rRWs 2 11 0x40 0x3FFFF 0, rRWs 3 11 0x40 0xFFFE00 0,
    rRWs 4 11 0x40 0xFFFFFF 0, rRWs 5 11 0x40 0xFFFFFF 0, rRWs 6 11 0x40 0xFFFFFF 0, rRWs 7 11 0x40 0xFFFFFF 0,
    rRWs 8 11 0x40 0xFFFFFF 0, rRWs 9 11 0x40 0xFFFFFF 0 ] ++
  (List.range 16).map (fun k => rRWs (0x10 + k) 11 0x40 0xFFFFFF 0) ++
  [ rRW 0x20 0x803FFF 0, rRW 0x21 0xFFFFFF 0, rROs 0x22 4 1 0, rRCs 0x26 10 1, rRWs 0x60 16 1 0x83FFFF 0,
    rROs 0x70 16 1 0, rRWs 0xA0 16 1 0x3FFFF 0, rRW 0x2A0 0x8000FF 5, rRO 0x2A1 0, rRW 0x2A2 0x3FFFFF 0,
    rRW 0x2A3 0x7FFFF 0, rRCs 0x2A4 3 1, rRO 0x2A7 0, rRC 0x2A8, rRO 0x2A9 0 ]

/-- BH, one port (Table 10-12). -/
def rowsBHport : List RegRow :=
  [ rRW 0 0xFF0000 0, rRO 1 0, rRWs 2 2 1 0xFFFFFF 0, rRW 4 0x3FFF 0x2400, rRW 5 0xFFF 0xD41, rRW 6 0xC000FF 0,
    rRW 7 0xFFFF 0xFFFF, rRWs 8 2 1 0x3FFFF 0, rRW 0xA 0xFFFFFF 0x064032, rRW 0xB 0xFFFF 0xA20, rRO 0xC 0,
    rRW 0xD 0x3FF 0x14, rRW 0xE 0x3FFFF 0, rRW 0xF 0xFFFF 0, rRWs 0x10 8 1 0x3FFFF 0, rRWs 0x18 8 1 0xF8FFFF 0,
    rRWs 0x20 32 1 0xFFFFFF 0, rRWs 0x40 8 1 0x807FFF 0, rROs 0x48 8 1 0, rRO 0xFF 0, rROs 0x100 21 2 0,
    rRCs 0x101 21 2, rRW 0x3000 0xC0FFFF 0, ⟨0x3001, 1, 1, .w1c, 0xC0000F, 0⟩, rRWs 0x3002 2 1 0xFFFFFF 0,
    rRWs 0x3020 16 0x10 0xFF 0, rRWs 0x3021 16 0x10 0xFFFFFF 0, rRWs 0x3022 16 0x10 0xFF 0 ] ++
  (List.range 11).map (fun k => rRWs (0x3023 + k) 16 0x10 0xFFFFFF 0)

/-- BH: both ports and the shared block (Table 10-13). -/
def rowsBH : List RegRow :=
  rowsBHport ++ rowsBHport.map (fun r => { r with ofs := r.ofs + 0x4000 }) ++
  [ rRW 0x2000 0x400000 0, rRO 0x2001 0x800000, rRW 0x2002 0x1F 0x10, rRW 0x2003 0xFFFF 0x32, rRW 0x2004 0x3FFFF 0,
    rRW 0x2005 0xFFFF 0x3E8, rRW 0x2006 0xFFFFFF 0x03B248, rRW 0x2007 0xFFFFFF 0x4D0001, rRW 0x2008 0xFFFF 0x88B5,
    rRW 0x2009 0x807FFF 0, rRW 0x200A 0xFF 3, rRWs 0x2040 64 1 0xFFFF 0, rRO 0x20FF 0, rROs 0x2100 6 2 0,
    rRCs 0x2101 6 2, rRWs 0x2200 64 4 0xC00FFF 0, rRWs 0x2201 64 4 0xFFFFFF 0, rRWs 0x2202 64 4 0xFFFFFF 0,
    rROs 0x2203 64 4 0 ]

/-- KV: nine windows (Table 11-13) and the shared registers (Table 11-14). -/
def rowsKV : List RegRow :=
  [ rRWs 0 9 0x40 0xFE0000 0, rROs 1 9 0x40 0, rRWs 2 9 0x40 0x3FFF 0, rRWs 3 9 0x40 0x3FFFFF 0,
    rRWs 4 9 0x40 0xFFFFFF 0, rRWs 5 9 0x40 0xFFFFFF 0, rRWs 6 9 0x40 0xFFFF 0, rRWs 7 9 0x40 0xFFFFFF 0,
    rROs 8 9 0x40 0, rRWs 9 9 0x40 0x3FFFFF 0 ] ++
  (List.range 16).map (fun k => rROs (0x10 + k) 9 0x40 0) ++
  [ rRO 0x240 0, rRW 0x241 0x3FFFFF 0, rRW 0x242 0x7FFFFF 0x040000, rRW 0x243 0xFF 0, rRW 0x244 0x3FFFF 0,
    rRW 0x245 0xFFFFFF 0x010000, rRW 0x246 0xFF 0x10, rRW 0x247 0xFFFF 0x400, rRWs 0x248 3 1 0xFFFFFF 0,
    rRW 0x24B 0xFFFF00 0, rRW 0x24C 0x3FFF 0, rRCs 0x250 12 1, rRO 0x25C 0, rRC 0x25D ]

/-- UP (Table 12-13). -/
def rowsUP : List RegRow :=
  [ rRWs 0 2 8 0xFE0000 0, rROs 1 2 8 0, rRWs 2 2 8 0xFFFFFF 0, rRWs 3 2 8 0x1FFF 0, rRWs 4 2 8 0xFFFFFF 0,
    rROs 0x10 11 1 0, rROs 0x20 13 1 0, rROs 0x30 12 1 0, rRW 0x40 0xFFFFFF 0, rRO 0x41 0, rRCs 0x48 8 1,
    rROs 0x100 171 1 0 ]

/-- HC (Table 13-7). -/
def rowsHC : List RegRow :=
  [ rRW 0 0x800000 0, rRO 1 0, ⟨2, 2, 1, .wl, 0x1FFFF, 0x1FFFF⟩, rRCs 4 3 1, rRWs 0x100 64 1 0x3FFFF 0,
    rRWs 0x400 1024 1 0x80003F 0, rRW 0x800 0xC00000 0, rRO 0x801 0, rRW 0x802 0xFFFF00 0, rRW 0x803 0xFFFFFF 0,
    rRW 0x804 0x3FFFF 0, rRW 0x805 0xFFFF 0x1F4, rWO 0x806 0xFFFFFF, rRW 0x808 0xFFFFFF 0, rRW 0x809 0xFFFF 0,
    rRO 0x80A 0, rRW 0x80B 0xFFFFFF 0, rRW 0x80C 0xFFFF 0, rRC 0x80D, rRWs 0x880 86 1 0xFFFFFF 0, rW1P 0xA00,
    rRO 0xA01 0, rRW 0xA02 0xFFF 0, rROs 0xA10 11 1 0, rRWs 0x1000 1155 1 0xFFFFFF 0, rRW 0x2000 0x800000 0,
    rRO 0x2001 0, rRW 0x2002 0x1FFF 0x10, rRW 0x2003 0x1FF 0, rW1P 0x2004, rRWs 0x2100 86 1 0xFFFFFF 0,
    rROs 0x3000 2731 1 0, rRW 0x4000 0xFFFFFF 0, rRW 0x4001 0xFF 0, rRW 0x4002 0xFFFFFF 0, rRW 0x4003 0xFF 0,
    rRW 0x4004 0xFFFFFF 0, rRW 0x4005 0xFF 0, rROs 0x4006 2 1 0, rRW 0x4008 0xFFFFFF 0, rRW 0x4009 0xFF 0,
    ⟨0x400A, 1, 1, .w1c, 0xFFFFFF, 0⟩, ⟨0x400B, 1, 1, .w1c, 0xFF, 0⟩, rRWs 0x4100 2 0x20 0x3CFF3F 0,
    rROs 0x4101 2 0x20 0, rRWs 0x4200 2 0x20 0x7FFFFF 0, rROs 0x4201 2 0x20 0 ] ++
  (List.range 11).map (fun k => rRWs (0x4108 + k) 2 0x20 0xFFFFFF 0) ++
  (List.range 11).map (fun k => rRWs (0x4208 + k) 2 0x20 0xFFFFFF 0) ++
  [ rRWs 0x4300 2 0x20 0xFFFFFF 0x4B7F, rRWs 0x4301 2 0x20 0x80003F 0, rROs 0x4302 2 0x20 0, rRWs 0x4303 2 0x20 0 0 ]

end Sys2Proof.Machine
end

