-- ==== Sys2Proof/Machine/State.lean ====
section
/-! DEFINITION. The state of the block as plain data: every register, memory, queue, mode and pin the spec gives it,
unit by unit, and the queue of waiting commands. -/

namespace Sys2Proof.Machine

/-! ### Shunters and depots (R60–R134) -/

/-- HALTED, RUNNING or FAULTED; PARKED (Table 02-10) is RUNNING with a `Wait.parked`. -/
inductive RunState where
  | halted | running | faulted
deriving DecidableEq, Repr

/-- What holds a running shunter between two instructions. -/
inductive Wait where
  /-- Nothing: the next instruction may issue. -/
  | none
  /-- Parked in WAITEV (R715); `limit` is the core cycle at which the limit passes. -/
  | parked (limit : Option Nat) (dest : Reg)
  /-- Waiting in TKACQ of a token (R98). -/
  | token (t : BitVec 8)
  /-- Waiting for the depot's points port (R725). -/
  | points (dest : Reg)
  /-- Waiting for the depot's vault window (R726). -/
  | vault (dest : Reg)
  /-- Waiting in WAITT for a short time (R719). -/
  | time (target : Long)
deriving DecidableEq, Repr

/-- A posted store that has not drained (R69, R70); `seq` orders a shunter's stores, signals and releases. -/
structure StoreEntry where
  addr : Word
  val : Word
  seq : Nat
deriving DecidableEq, Repr

/-- A load that has not arrived (R66, R67). `got` is the word taken at issue with its status; a register or
queue-descriptor load takes its word when it arrives (R73). `seq` is the shunter's count at issue. -/
structure LoadEntry where
  dest : Reg
  addr : Word
  got : Option (Word × Status)
  seq : Nat
  /-- The address of the load instruction. -/
  pc : BitVec 17
deriving DecidableEq, Repr

/-- One shunter (R60, R64) with its buffers, its run state and its watchdog count (R123). -/
structure Shunter where
  g : SMap Word := []
  n : Bool := false
  z : Bool := false
  c : Bool := false
  v : Bool := false
  pc : BitVec 17 := 0
  sticky : Bool := false
  rstat : BitVec 4 := 0
  mstat : BitVec 4 := 0
  run : RunState := .halted
  wait : Wait := .none
  /-- One instruction is to run by a debug step while the shunter is halted (R583). -/
  stepping : Bool := false
  /-- An instruction is executing and waits for its stores to drain. -/
  busy : Bool := false
  /-- The entry of a GO in the shunter's own register, taken at the next instruction boundary (R131). -/
  jump : Option (BitVec 17) := Option.none
  mainBuf : List StoreEntry := []
  scrBuf : List StoreEntry := []
  loads : List LoadEntry := []
  seq : Nat := 0
  cause : BitVec 4 := 0
  fpc : BitVec 17 := 0
  sfaddr : Word := 0
  /-- Core cycles counted before `wdFrom`. -/
  wdAcc : Nat := 0
  /-- The core cycle from which the watchdog count runs on. -/
  wdFrom : Nat := 0
  /-- The first watchdog limit has been reported (R124). -/
  wdFirst : Bool := false
  /-- Tokens held, lowest first (R96). -/
  held : List (BitVec 8) := []
deriving DecidableEq, Repr

/-- Whom a pending event record is for: any shunter of the route's MASK, or one shunter (R82). -/
inductive EvTarget where
  | any
  | one (i : Fin 8)
deriving DecidableEq, Repr

/-- A pending record of a depot's event router (R83). -/
structure EvRecord where
  depot : Depot
  event : Fin 1024
  target : EvTarget
  arrival : Nat
  multi : Bool
deriving DecidableEq, Repr

/-- A signal issued and not yet delivered to the depots of `todo` (R106). -/
structure SignalEntry where
  src : Sh
  event : Fin 1024
  seq : Nat
  todo : List Depot
deriving DecidableEq, Repr

/-- A token at its home (R98, R103). -/
structure Token where
  owner : Option Sh := none
  /-- Waiting requests, each with the core cycle it was made in. -/
  waiters : List (Sh × Nat) := []
  last : Sh := 63
  since : Nat := 0
  limitDone : Bool := false
  /-- A TKREL of the owner that has not taken effect (R101): the count its stores must pass. -/
  relSeq : Option Nat := none
deriving DecidableEq, Repr

/-- A freight descriptor accepted and not complete (Table 02-3). -/
structure FreightJob where
  toWords : Bool
  packed : Bool
  crc : Bool
  maddr : Nat
  daddr : Nat
  len : Nat
  compq : Nat
  tag : Word
deriving DecidableEq, Repr

/-- The global watchdog (R125–R127). -/
structure GlobalWatchdog where
  /-- The core cycle of the last kick or of enabling; none while it does not run. -/
  since : Option Nat := none
  warned : Bool := false
  /-- The core cycle at which the first kick value was stored. -/
  first : Option Nat := none
deriving DecidableEq, Repr

/-- The depots' shared parts: event routers, tokens, freight and the global watchdog. -/
structure Depots where
  records : List EvRecord := []
  /-- For each depot and event (key 1,024·d + e), the shunter that last took the event in MODE ANY (R85). -/
  lastTook : SMap (Fin 8) := []
  /-- Events raised and not yet arrived at the routers, oldest first. -/
  inflight : List (Fin 1024) := []
  signals : List SignalEntry := []
  tokens : SMap Token := []
  /-- Freight queues, one per depot (key d). -/
  freight : SMap (List FreightJob) := []
  /-- Words of the instruction stores (key 131,072·d + address) that hold an uncorrectable error (R77, R78). -/
  codeEcc : SMap Bool := []
  gwd : GlobalWatchdog := {}
deriving DecidableEq, Repr

/-! ### Health and the event recorder (R663–R690) -/

/-- One occurrence record (Table 16-4); a count of 0 is a record that has been cleared. -/
structure OccRecord where
  count : Nat := 0
  supp : Nat := 0
  sat : Bool := false
  last : Long := 0
  bins : SMap Nat := []
  sum : Int := 0
  min : Word := 0
  minAt : Long := 0
  max : Word := 0
  maxAt : Long := 0
deriving DecidableEq, Repr

/-- The configuration of one occurrence code (HM_CFG of Table 16-7 and the edges). -/
structure OccConfig where
  histogram : Bool
  signed : Bool
  nen : Bool
  nmode : BitVec 2
  nburst : BitVec 5
  nrate : Byte
  nbin : BitVec 4
  edges : List Word
deriving DecidableEq, Repr

/-- A token bucket of notifications (R682): credit in units of 1/(64 s in core cycles) of a token, as of `at`. -/
structure NoteBucket where
  credit : Nat
  since : Nat
deriving DecidableEq, Repr

/-- An ageing monitor (R666): degradation, stress hours, predicted end of life and its crossing flags. -/
structure AgeMonitor where
  valid : Bool := false
  d : Nat := 0
  hours : Nat := 0
  warned : Bool := false
  eol : Word := 0xFFFFFF
  eolWarned : Bool := false
deriving DecidableEq, Repr

/-- A wear-counted MRAM sector (R668, R672): live and committed counts, kept counts with their day, prediction. -/
structure SectorWear where
  live : Nat := 4096
  committed : Nat := 0
  /-- Increments since the last commit. -/
  inc : Nat := 0
  kept : List (Nat × Nat) := []
  warned : Bool := false
  eol : Word := 0xFFFFFF
  eolWarned : Bool := false
deriving DecidableEq, Repr

/-- Health block and recorder. -/
structure Health where
  records : SMap OccRecord := []
  /-- Configurations that differ from reset. -/
  configs : SMap OccConfig := []
  /-- Buckets that are not full since power-up. -/
  buckets : SMap NoteBucket := []
  /-- Occurrences merged at their sources and not yet applied (R675): code and value, oldest first. -/
  pending : List (Byte × Word) := []
  /-- A suppressed notification has been reported since HM_SUPPTOT was read. -/
  suppTold : Bool := false
  /-- A snapshot that runs, with its CLR. -/
  snap : Option Bool := none
  /-- Slot of a snapshot that was cut off and not yet reported at a START (R687). -/
  snapCutSlot : Option Nat := none
  /-- A periodic snapshot waits for the MRAM domain. -/
  snapDue : Bool := false
  predRun : Bool := false
  predDue : Bool := false
  temps : SMap (BitVec 10) := []
  /-- Consecutive samples at the trip level, per sensor. -/
  tripRuns : SMap Nat := []
  /-- Consecutive samples of sensor 0 at or below HM_TTRIP − 20 °C (R665). -/
  coolRun : Nat := 0
  twarned : Bool := false
  monitors : SMap AgeMonitor := []
  sectors : SMap SectorWear := []
  /-- The recorder's last stamp (R51). -/
  lastStamp : Option Long := none
  /-- Notifications suppressed per code since its last item (N4 of Table 16-3). -/
  unsent : SMap Nat := []
  /-- Network time of the last snapshot header (Table 16-5). -/
  lastHeader : Nat := 0
  /-- The core cycles of the last record of the highest temperature and of the last start of the snapshot period. -/
  hotAt : Nat := 0
  snapAt : Nat := 0
  /-- RTC seconds of the last ageing measurement and of the last daily prediction. -/
  ageSec : Option Nat := none
  predSec : Option Nat := none
deriving DecidableEq, Repr

/-! ### Station clock (R307–R340) -/

/-- The lock states of Table 07-1. -/
inductive LockState where
  | free | locking | locked | holdover | lead
deriving DecidableEq, Repr

/-- The station clock beside its registers. -/
structure Clock where
  /-- Network time in units of 2^-72 s (R307, R311). -/
  time : Nat := 0
  /-- Core cycles since the last station tick, 0 to 11 (R325). -/
  phase : Nat := 0
  /-- The addend in force (R311). -/
  add : Nat := 0x112E0BE826D7
  /-- The core cycle of a change of rate not yet in ADD. -/
  addPend : Option Nat := none
  slewing : Bool := false
  /-- Ticks left of the running slew. -/
  slewTicks : Nat := 0
  /-- The core cycle at which the last slew ended (R321). -/
  slewEnd : Option Nat := none
  lock : LockState := .free
  /-- The core cycle of entry to the lock state. -/
  entered : Nat := 0
  /-- Measurements taken since that entry: core cycle and magnitude in ns, newest first. -/
  taken : List (Nat × Nat) := []
  /-- Consecutive OUT measurements. -/
  outRun : Nat := 0
  /-- The core cycle of the last measurement taken. -/
  lastTaken : Nat := 0
  ever : Bool := false
  refused : Bool := false
  /-- Event 19 has been raised since SC_OUTCNT was read. -/
  outTold : Bool := false
  /-- The reference offset waits for delivery to the synthesisers (R315). -/
  refPend : Bool := false
  /-- Latched full times (96 bits) per reader: shunter id, 64 for the host (R326). -/
  latches : SMap Nat := []
  /-- Compare units whose next firing carries SKIP = 1 (R329). -/
  cmpSkip : SMap Bool := []
deriving DecidableEq, Repr

/-! ### Modes, power domains, reset and the RTC (R623–R662) -/

/-- The eight modes (Table 15-1). -/
inductive Mode where
  | off | keepalive | dormant | start | provision | service | island | maintenance
deriving DecidableEq, Repr

/-- The power controller and the supplies it sees. -/
structure Power where
  mode : Mode := .start
  /-- PW_MODE.RECOV (R628). -/
  recov : Bool := false
  /-- The target of an accepted mode request that has not completed. -/
  modeReq : Option Mode := none
  /-- PW_MODESTAT: outcome and target of the last mode request. -/
  modeStat : Status := .ok
  modeTarget : Nat := 0
  /-- The domains wanted by an accepted domain request that has not taken effect. -/
  domReq : Option (BitVec 32) := none
  domStat : Status := .ok
  /-- Domains on, in retention (bit d is domain d). -/
  don : BitVec 32 := 0xC007FFFF
  dret : BitVec 32 := 0
  /-- An entry to DORMANT (Table 15-4) has been accepted and is not complete. -/
  sleep : Bool := false
  /-- The core cycle at which each domain was last powered up. -/
  onAt : SMap Nat := []
  /-- Wake sources that fired, as PW_WAKEEN [23:18]; held during entry (R635). -/
  wakeHeld : BitVec 6 := 0
  /-- RTC seconds at the end of entry to DORMANT. -/
  sleptFrom : Nat := 0
  /-- The device is held in reset, with the cause it will show at release, since a core cycle. -/
  inReset : Option (BitVec 4) := none
  resetAt : Nat := 0
  /-- A RESET_N hold is being measured (R643, R645). -/
  pinHold : Bool := false
  cause : BitVec 4 := 0
  /-- RESET_N is low. -/
  resetLow : Bool := false
  /-- PFAIL_N is low (R649). -/
  pfailLow : Bool := false
  /-- VDD_IO and VDD_AON are good. -/
  ioAonGood : Bool := true
  /-- The other main supplies and the TCXO are good. -/
  mainGood : Bool := true
  /-- BKP runs on VBAT. -/
  onVbat : Bool := false
  vbatGood : Bool := true
  supplyEn : Bool := true
  /-- A KEEPALIVE wake source raised SUPPLY_EN. -/
  kaWake : Bool := false
  /-- The RTC interface is locked (R657). -/
  rtcLocked : Bool := false
  /-- A brown-out, a stopped crystal or a discarded command to record at the next START. -/
  noteVbat : Bool := false
  noteDisc : Bool := false
deriving DecidableEq, Repr

/-- The real-time clock (R651–R656). -/
structure Rtc where
  sec : Nat := 0
  sub : Nat := 0
  /-- Crystal pulses of the present trim window, 0 to 4,194,303 (R652). -/
  win : Nat := 0
  /-- Phase of the crystal against the core clock: the remainder of pulses times 3 GHz. -/
  phase : Nat := 0
  /-- A staged command: false LOAD, true SYNC (R655). -/
  staged : Option Bool := none
  stopped : Bool := false
  /-- SEC has become equal to the alarm while it was armed (R656). -/
  almDue : Bool := false
deriving DecidableEq, Repr

/-! ### The yard (R385–R436, R755) -/

/-- An uncorrectable error that a wagon's reading meets, and whether its W0 can still be read (R434). -/
inductive WagonEcc where
  | good | bodyBad | w0Bad
deriving DecidableEq, Repr

/-- A wagon in a queue (Table 09-1) with what the yard keeps beside its words. -/
structure Wagon where
  w0 : Word
  w1 : Word
  w2 : Word
  w3 : Word
  w4 : Word
  w5 : Word
  /-- T_acc, the stamp of acceptance (R394). -/
  acc : Long
  /-- Attempts made (Table 06-9). -/
  att : Nat := 0
  /-- The occurrences reserved for a TT wagon: ASNs, rising (R279). -/
  claims : List Nat := []
  /-- The multicast record and target index of a copy (R425). -/
  copy : Option (Nat × Nat) := none
  /-- Taken for an attempt or a sending not yet decided (QPKT.INFLIGHT). -/
  taken : Bool := false
  /-- Named by a QFLUSH while taken (R407). -/
  flushed : Bool := false
  /-- Paths that have taken it, and paths that have sent it (R457). -/
  takenA : Bool := false
  takenB : Bool := false
  sentA : Bool := false
  sentB : Bool := false
  /-- The sequence number of a PR wagon of a BACKHAUL queue (R463). -/
  prSeq : Option Nat := none
  /-- The yard's own number of the wagon, by order of acceptance. -/
  id : Nat := 0
  ecc : WagonEcc := .good
deriving DecidableEq, Repr

/-- A packet of a word queue (R419). -/
structure Packet where
  stamp : Long
  words : List Word
deriving DecidableEq, Repr

/-- A word queue's packets, its last stamp and its pointers, each kept twice (R422, R424). -/
structure WordQueue where
  packets : List Packet := []
  last : Option Long := none
  rd : Nat := 0
  rdDup : Nat := 0
  wr : Nat := 0
  wrDup : Nat := 0
deriving DecidableEq, Repr

/-- The record of one buffer cell (R395); `link` is none for the last cell of a chain. -/
structure CellRec where
  alloc : Bool := false
  pool : Fin 3 := 0
  first : Bool := false
  ref : Nat := 0
  link : Option Nat := none
deriving DecidableEq, Repr

/-- A credit shaper and its shadow (R411–R413). -/
structure Shaper where
  idle : Nat := 0
  send : Nat := 0
  burst : Nat := 0
  credit : Int := 0
  newIdle : Option Nat := none
  newSend : Option Nat := none
  newBurst : Option Nat := none
  newCredit : Option Int := none
deriving DecidableEq, Repr

/-- The two gate lists of an egress (R414–R417). -/
structure GateList where
  active : SMap Word := []
  entries : Nat := 0
  /-- T of the active list. -/
  start : Long := 0
  pend : SMap Word := []
  /-- The take-over time while PEND is ARMED. -/
  armed : Option Long := none
  /-- GL_TAKE as last computed. -/
  take : Long := 0
deriving DecidableEq, Repr

/-- A replication list (R425). -/
structure RepList where
  count : Nat := 0
  cq : Nat := 0
  targets : SMap Nat := []
deriving DecidableEq, Repr

/-- What has become of one target of a multicast. -/
structure McTarget where
  queue : Nat
  admitted : Bool := false
  delivered : Bool := false
  /-- A copy waits in the target's queue or is on its way. -/
  out : Bool := false
deriving DecidableEq, Repr

/-- A multicast in progress (R425–R429). -/
structure Multicast where
  list : Nat
  cq : Nat
  w0 : Word
  w1 : Word
  w2 : Word
  w3 : Word
  w4 : Word
  w5 : Word
  targets : List McTarget
  /-- The further round of RETRY_FAILED has been made. -/
  second : Bool := false
deriving DecidableEq, Repr

structure Yard where
  /-- The number of the next wagon accepted. -/
  nextId : Nat := 0
  wagons : SMap (List Wagon) := []
  words : SMap WordQueue := []
  cells : SMap CellRec := []
  /-- Free managed cells, and cells of each pool (R396). -/
  cellFree : Nat := 0
  used : SMap Nat := []
  initDone : Bool := false
  initRun : Bool := false
  /-- Event 422 has been raised since YD_ENQFULL was read. -/
  fullTold : Bool := false
  shapers : SMap Shaper := []
  /-- The core cycle of the last refill tick. -/
  refillAt : Nat := 0
  /-- Queues whose frame is being sent, and those that were since the last refill tick (R411). -/
  sending : List Nat := []
  sentSince : List Nat := []
  gates : SMap GateList := []
  lists : SMap RepList := []
  multicasts : SMap (Option Multicast) := []
  /-- Key 4·egress + class: the queue last served (R408). -/
  served : SMap (Option Nat) := []
  /-- Key 147,456·egress + queue: consecutive times passed over. -/
  passed : SMap Nat := []
  /-- The core cycle of the last sample of wagons held (#78). -/
  histAt : Nat := 0
  /-- A host request that has not taken effect (R405). -/
  hostBusy : Bool := false
deriving DecidableEq, Repr

/-! ### Points (R341–R384) -/

/-- A two-choice cuckoo table (R348–R351): slot 4·bucket + way holds a key and its value; the stash beside it. -/
structure Cuckoo where
  slots : SMap (Option (Nat × Nat)) := []
  stash : List (Nat × Nat) := []
deriving DecidableEq, Repr

structure Points where
  /-- Node table: key 16·handle + word (Table 08-3). -/
  nodes : SMap Word := []
  eui : Cuckoo := {}
  short : Cuckoo := {}
  /-- Hash memory: key length·2^128 + masked prefix; value R0·2^24 + R1. -/
  hash : Cuckoo := {}
  /-- Direct table: key 2·index + word. Length filter: key 5·index + word. -/
  direct : SMap Word := []
  filter : SMap Word := []
  /-- Entries whose stable part, whose live part, direct entries and filter entries that meet an uncorrectable
  error when they are read (R375). -/
  eccStable : SMap Bool := []
  eccLive : SMap Bool := []
  eccDirect : SMap Bool := []
  eccFilter : SMap Bool := []
  /-- Events 449 to 453 raised since their counter was read. -/
  told : SMap Bool := []
  /-- The core cycle at which the scrubber's pass began. -/
  passAt : Nat := 0
  /-- Route records with V = 1 seen in this pass. -/
  routesSeen : Nat := 0
deriving DecidableEq, Repr

/-! ### The key vault (R471–R526) -/

/-- The states of a key slot (Table 11-8). -/
inductive SlotState where
  | empty
  | loading (blob : Nat)
  | resident (blob : Nat)
  | revoking (blob : Nat)
deriving DecidableEq, Repr

/-- A key as its blob's plaintext carries it (Table 11-7), with TYPE and DEST. -/
structure KeyRec where
  typ : BitVec 4 := 0
  dest : BitVec 6 := 0
  /-- The key octets: 16, 32 or 48, as TYPE says. -/
  key : List Byte := []
  eui : BitVec 64 := 0
  index : Byte := 0
  tx : BitVec 32 := 0
  rx : BitVec 32 := 0
deriving DecidableEq, Repr

/-- A slot of the key cache (R486). The key's octets are the exclusive OR of two shares; `info` holds everything but
the octets. -/
structure KeySlot where
  state : SlotState := .empty
  shareA : List Byte := []
  shareB : List Byte := []
  info : KeyRec := {}
  /-- Frame counters below this value may be sent (R491), and whether a lease write-back is under way. -/
  lease : Nat := 0
  leasing : Bool := false
  dirty : Bool := false
  pin : Bool := false
  hold : Bool := false
  /-- PIN of the LOAD that LOADING answers, and the window whose request waits for this slot. -/
  pinNext : Bool := false
  window : Option (Fin 9) := none
  /-- Event 587 has been raised for this slot (R492). -/
  warned : Bool := false
  /-- The slot's memory holds an uncorrectable error (R523). -/
  ecc : Bool := false
  /-- The core cycle in which LOADING began (#90). -/
  since : Nat := 0
  /-- Holds that wait for LOADING or REVOKING to end, each with the blob it names. -/
  holdQ : List (Option Nat) := []
deriving DecidableEq, Repr

/-- A write-back that has not reached DRAM (R490, R491). -/
structure WriteBack where
  blob : Nat
  slot : Nat
  /-- What is written; the counters are the slot's at eviction, or raised by the lease. -/
  info : KeyRec
  lease : Bool
deriving DecidableEq, Repr

/-- The entropy states of Table 11-11. -/
inductive Entropy where
  | init | ok | restart | failed
deriving DecidableEq, Repr

/-- A receive security job (R503): what its reception report said of the frame. -/
structure SecJob where
  cell : Nat
  len : Nat
deriving DecidableEq, Repr

/-- The last challenge of a window (R473). -/
structure Challenge where
  octets : List Byte := []
  used : Bool := true
  since : Nat := 0
deriving DecidableEq, Repr

structure Vault where
  /-- Fuses: MANUF, PROV[1–16], EPOCH (burnt count), DEPL[1–16], RETURN, DECOM. -/
  fManuf : Bool := false
  fProv : BitVec 17 := 0
  fEpoch : Nat := 0
  fDepl : BitVec 17 := 0
  fReturn : Bool := false
  fDecom : Bool := false
  /-- The life-cycle state derived at the last VAULT power-up (R471). -/
  life : Fin 6 := 0
  epoch : Nat := 0
  /-- Owner records in MRAM, with their tags (R475). -/
  owners : SMap (List Byte) := []
  ownerTags : SMap (List Byte) := []
  /-- The tag of owner record E was right at the last VAULT power-up. -/
  ownerOk : Bool := false
  /-- Helper data is written and readable. -/
  helper : Bool := false
  ready : Bool := false
  rootf : Bool := false
  slots : SMap KeySlot := []
  wb : List WriteBack := []
  /-- The wrap counter in use and the first value not reserved in MRAM (R483). -/
  wrapNext : Nat := 0
  wrapKept : Nat := 0
  ent : Entropy := .init
  failcnt : Nat := 0
  /-- The core cycle of the last health failure or of entry to OK. -/
  entAt : Nat := 0
  drbgReqs : Nat := 0
  drbgAt : Nat := 0
  challenges : SMap Challenge := []
  /-- The core cycle in which each window's request was issued. -/
  begun : SMap Nat := []
  /-- Windows whose request has been counted as waiting (R497). -/
  waited : SMap Bool := []
  meas : SMap (List Byte) := []
  digest : List Byte := List.replicate 48 0
  jobs : List SecJob := []
  /-- Slots REMASK visits next (R500). -/
  remaskNext : Nat := 0
  told586 : Bool := false
  told590 : Bool := false
  told591 : Bool := false
  /-- Scope TEST has been entered since reset (R585). -/
  test : Bool := false
deriving DecidableEq, Repr

/-! ### Radio front end and transmit chains (R138–R177, R228–R250) -/

/-- An accumulator: 129 buckets, the current one first (R170), and the core cycle of its last advance. -/
structure Accum where
  buckets : List Nat := []
  since : Nat := 0
deriving DecidableEq, Repr

/-- What a transmit slot's frame is, beside its registers. -/
structure SlotFrame where
  /-- The queue whose shaper the frame draws on (R412). -/
  queue : Option Nat := none
  /-- A beacon (R289). -/
  beacon : Bool := false
  /-- The core cycle at which the last sample of the frame leaves. -/
  endAt : Nat := 0
  /-- The PSDU as the vault secured it (R502). -/
  sec : Option (List Byte) := none
deriving DecidableEq, Repr

/-- One band's front end beside its registers. -/
structure Radio where
  /-- The core cycle at which the present retune or lock began (R147). -/
  tuneAt : Option Nat := none
  /-- A delivered reference offset not yet applied (R144). -/
  ePend : Option Word := none
  dwell : SMap Accum := []
  duty : SMap Accum := []
  /-- Core cycle at which each channel's last frame ended. -/
  lastEnd : SMap (Option Nat) := []
  /-- Duty groups whose 90 % crossing has been reported. -/
  dutyTold : SMap Bool := []
  /-- The band's part of the region record in force (62 words), its region code, and its validity. -/
  part : SMap Word := []
  region : Nat := 0
  regionOk : Bool := false
  paEn : Bool := false
  /-- Predistorter coefficients that differ from reset, and those written and not in force (R159). -/
  coef : SMap Word := []
  coefNew : SMap Word := []
  /-- LW-OFDM scrambler seed, 1 to 127 (R247). -/
  seed : Nat := 1
  slots : SMap SlotFrame := []
deriving DecidableEq, Repr

/-- Both bands and the region record (Table 03-6). -/
structure FrontEnd where
  a : Radio := {}
  b : Radio := {}
  /-- The two copies in MRAM, key 128·copy + word; the staging words. -/
  copies : SMap Word := []
  staging : SMap Word := []
  /-- A commit in progress, and a committed record not yet in force. -/
  committing : Bool := false
  rgnPend : Bool := false
deriving DecidableEq, Repr

/-! ### Receive lanes (R178–R227) -/

inductive LaneState where
  | free | bound | drain
deriving DecidableEq, Repr

/-- One receive lane beside its registers. -/
structure LaneRec where
  state : LaneState := .free
  /-- Bound under reservation. -/
  res : Bool := false
  band : Band := .a
  chan : BitVec 8 := 0
  fam : Fin 4 := 0
  /-- Detected power, dBm (R193). -/
  power : Int := 0
  phr : Option Phr := none
  /-- First cell of the frame's chain (R208). -/
  cell : Option Nat := none
  /-- The uplink pool refused the cells (R209). -/
  noCell : Bool := false
  /-- LW-OFDM codewords not yet decoded (R204). -/
  codewords : Nat := 0
  /-- How the frame ended before its report, with the CAUSE (Table 04-7). -/
  ended : Option (Status × Nat) := none
deriving DecidableEq, Repr

structure Lanes where
  lanes : SMap LaneRec := []
  /-- Events 200–205 raised since their counter was read; key 205·8 + q for the reception queues. -/
  told : SMap Bool := []
  /-- The core cycle of the last sample of bound lanes (#33). -/
  sampleAt : Nat := 0
deriving DecidableEq, Repr

/-! ### The signal box (R251–R306) -/

inductive SbState where
  | idle | wait | running | stalled
deriving DecidableEq, Repr

inductive StoreState where
  | free | check | pending | active
deriving DecidableEq, Repr

/-- What a frame of a path is (Table 06-7). -/
inductive SbKind where
  | node | group | beacon
deriving DecidableEq, Repr

/-- How far a frame has come between preparation and completion (Table 06-6). -/
inductive SbStage where
  | prepared | armed | checked | ended
deriving DecidableEq, Repr

/-- A frame taken or built at a path's preparation. -/
structure SbFrame where
  asn : Nat
  kind : SbKind
  band : Band
  cell : Nat
  chan : BitVec 8
  /-- Queue number: a node handle or a service queue. -/
  queue : Nat
  w0 : Word
  w1 : Word
  w2 : Word
  w3 : Word
  att : Nat
  /-- A TT wagon's reserved attempt. -/
  tt : Bool
  ack : Bool
  tnom : Long
  tact : Long
  theta : Int
  tpc : Bool
  /-- A buffer cell of the owned block (R296), for a beacon. -/
  owned : Option Nat
  stage : SbStage
  slot : Option (Fin 16)
  /-- Why the frame ended before it was on air. -/
  status : Option Status
  launched : Bool
  /-- LQI and ε of the node's acknowledgement (R270). -/
  heard : Option (Byte × BitVec 12)
deriving DecidableEq, Repr

/-- An uplink acknowledgement that is due (R273–R276), or a steer (R295). -/
structure AckJob where
  asn : Nat
  band : Band
  chan : BitVec 8
  handle : Nat
  tend : Long
  /-- The tick its report was posted in. -/
  posted : Long
  theta : Int
  corr : BitVec 12
  w1 : Word
  lqi : Byte
  steer : Option (Fin 3)
  /-- The Enh-Ack without MIC and FCS, and the octets of its MIC. -/
  body : List Byte
  mic : Nat
  done : Bool := false
  status : Status := .ok
  tact : Long := 0
deriving DecidableEq, Repr

/-- A stale frame to report when its path completes (R295). -/
structure StaleItem where
  asn : Nat
  band : Band
  handle : Nat
  w1 : Word
  lqi : Byte
  tend : Long
deriving DecidableEq, Repr

structure SignalBox where
  /-- Cell memory: key 2·cell + word (R255). -/
  cells : SMap Word := []
  state : SbState := .idle
  drain : Bool := false
  cause : Nat := 0
  act : Fin 2 := 0
  st0 : StoreState := .free
  st1 : StoreState := .free
  edCause : Nat := 0
  errCell : Nat := 0
  asn : Nat := 0
  /-- The boundary of the present path has passed (false between WAIT's end and the first boundary). -/
  begun : Bool := false
  /-- The network time (2^-72 s) of the present path's beginning (R252). -/
  bTime : Nat := 0
  /-- The time of the boundary before it, and the store that owned the path between them. -/
  prevTime : Nat := 0
  prevStore : Option (Fin 2) := none
  /-- The next path to prepare and the next to complete. -/
  prep : Nat := 0
  comp : Nat := 0
  /-- Boundaries since the last take-over, and the edition number before it (R290). -/
  sinceTake : Nat := 0
  prevEdn : Option (BitVec 16) := none
  /-- FRONT of each node with a valid ledger entry (R279). -/
  ledger : SMap (Option Nat) := []
  frames : List SbFrame := []
  acks : List AckJob := []
  stales : List StaleItem := []
  /-- RX and SHARED cells that have had their acknowledgement: ASN and cell (R274). -/
  acked : List (Nat × Nat) := []
  /-- Join and re-admission credit, one credit being 16 × 3·10^9, with the cycle it was counted at (R293). -/
  joinCredit : Nat := 0
  readmCredit : Nat := 0
  creditAt : Nat := 0
  joinOut : Nat := 0
  meshAlive : Bool := false
  /-- The core cycle of the last beacon launched since RUNNING. -/
  lastBeacon : Option Nat := none
  lateTold : Bool := false
  admTold : Bool := false
  bcnTold : Bool := false
  /-- Key slots held and until which path (R277). -/
  holds : List (Nat × Nat) := []
deriving DecidableEq, Repr

/-! ### Backhaul ports and paths (R437–R470) -/

/-- The path states of Table 10-6. -/
inductive PathState where
  | off | down | proving | standby | active
deriving DecidableEq, Repr

/-- A pause of a port or of one of its priorities (R448–R450): until which core cycle it runs, since when it has
been held, and until when pauses are ignored. -/
structure Pause where
  stop : Option Nat := none
  since : Nat := 0
  ignore : Option Nat := none
deriving DecidableEq, Repr

/-- A probe source of a port (R455, R465). -/
structure Heard where
  valid : Bool := false
  seq : BitVec 16 := 0
  /-- Heard, and listed this port with a recent number, in the present interval. -/
  now : Bool := false
  listed : Bool := false
  /-- The same of the last interval, as BH_PRBHEARD shows them. -/
  rxok : Bool := false
  txok : Bool := false
deriving DecidableEq, Repr

/-- A wagon a port has been offered, until its sending ends (R439, R457, R459). -/
structure PortFrame where
  queue : Nat
  wagon : Nat
  /-- The first bit has left: its sending has begun. -/
  started : Bool
  /-- Octets sent, from destination address through FCS, R-TAG included. -/
  octets : Nat
  /-- Launch time, and DLY, of a timed frame (R452). -/
  launch : Long
  dly : Bool
deriving DecidableEq, Repr

structure Port where
  path : PathState := .off
  count : Nat := 0
  errCnt : Nat := 0
  link : Bool := false
  lf : Bool := false
  rf : Bool := false
  speed : BitVec 2 := 0
  /-- The core cycle at which the present interval began. -/
  intAt : Nat := 0
  /-- Consecutive failed intervals. -/
  misses : Nat := 0
  /-- The link was down at some time of this interval. -/
  linkBroke : Bool := false
  /-- The next probe number, and the numbers sent in this interval and the two before it, newest first. -/
  prbSeq : BitVec 16 := 0
  prbSent : List (List (BitVec 16)) := [[]]
  /-- The core cycle from which the next probe is due. -/
  probeAt : Nat := 0
  /-- The port's copy of KV_CHIP (R594). -/
  chip : BitVec 14 := 0
  heard : SMap Heard := []
  decayAt : Nat := 0
  /-- Pauses: priorities 0 to 7, and 8 for PAUSE. -/
  pauses : SMap Pause := []
  /-- Flow control is being sent, and the core cycle of the last such frame (R449). -/
  fcOn : Bool := false
  fcAt : Nat := 0
  frame : Option PortFrame := none
  /-- Events 512 + 16p + 4 to + 7 raised since their counter was read. -/
  told : SMap Bool := []
deriving DecidableEq, Repr

/-- The elimination state of a stream entry (R464): REC, HIST and VALID, and the core cycle of the last frame
accepted. -/
structure Elim where
  valid : Bool := false
  rcv : BitVec 16 := 0
  hist : BitVec 32 := 0
  last : Nat := 0
deriving DecidableEq, Repr

structure Backhaul where
  a : Port := {}
  b : Port := {}
  /-- The 48-bit counters: key 256·block + i, block 0 port A, 1 port B, 2 shared. -/
  counts : SMap Nat := []
  /-- Holding registers: key 65·block + reader (shunter id, 64 for the host). -/
  holds : SMap Word := []
  elim : SMap Elim := []
  isl : Bool := true
  /-- The core cycle at which ISL became 1, while it is 1 (R462). -/
  islAt : Option Nat := none
  /-- A SWAP waits for the end of the frame on the ACTIVE port's wire. -/
  swapPend : Bool := false
  /-- The core cycle of the detection of a failover whose first frame has not started (R460). -/
  failAt : Option Nat := none
  skewAt : Nat := 0
  told : SMap Bool := []
deriving DecidableEq, Repr

/-! ### Field update (R527–R554) -/

inductive Session where
  | none | opened | complete | armed | refused
deriving DecidableEq, Repr

inductive BootState where
  | steady | verify | copy | trial | restore
deriving DecidableEq, Repr

/-- The update engine and the boot record. -/
structure Update where
  session : Session := .none
  sid : Word := 0
  mask : BitVec 13 := 0
  /-- COUNT learnt per region; 0 is not learnt. -/
  counts : SMap Nat := []
  /-- Received blocks, by block of slot S. -/
  blocks : SMap Bool := []
  boot : BootState := .steady
  attempts : Nat := 0
  /-- This boot is a recovery boot, from slot P (R550). -/
  fromP : Bool := false
  fellBack : Bool := false
  noImage : Bool := true
  ctimeout : Bool := false
  /-- The marker: position and phase, false P, true A; none before the first copy (R545). -/
  marker : Option (Fin 13 × Bool) := Option.none
  /-- Components whose S-to-A copy was made in the activation that put A in its present state (R548). -/
  moved : List (Fin 12) := []
  cause : Nat := 0
  pos : Nat := 0
  policy : BitVec 2 := 0
  svnMin : BitVec 32 := 0
  /-- Core cycles left of the confirm window as of `confAt`; it runs while `confAt` is some (R546). -/
  confLeft : Nat := 0
  confAt : Option Nat := Option.none
  warned : Bool := false
  /-- Ports whose command waits, in order of arrival (R539). -/
  order : List (Fin 2) := []
  /-- Event 642 has been raised since UP_BLKCRC was read. -/
  crcTold : Bool := false
  /-- MRAM octets that hold a single-bit error (false) or an uncorrectable one (true) (R529). -/
  ecc : SMap (Option Bool) := []
deriving DecidableEq, Repr

/-! ### Host, commissioning, tag, low-speed pins and debug access (R555–R591) -/

/-- A GET or SET posted to the commissioning mailbox and not answered (R566). -/
structure UsbPost where
  id : BitVec 16
  isSet : Bool
  /-- wLength. -/
  len : Nat
  since : Nat
  /-- The transfer still waits for the answer: no bus reset, SETUP or timeout has ended it (R569, R573). -/
  live : Bool
  /-- HC_USBTO has passed (R569). -/
  late : Bool := false
deriving DecidableEq, Repr

structure Usb where
  vbus : Bool := false
  hs : Bool := false
  posted : Option UsbPost := none
  /-- The commit log, newest first, 32 at most (R568). -/
  log : List (BitVec 16 × BitVec 4) := []
  babort : Bool := false
  /-- Octets written by the armed bulk OUT transfer. -/
  bout : Option Nat := none
  /-- A bulk IN transfer runs. -/
  bin : Bool := false
deriving DecidableEq, Repr

/-- The file a reader of the tag has selected. -/
inductive TagFile where
  | none | app | container | ndef
deriving DecidableEq, Repr

structure Nfc where
  field : Bool := false
  tag : SMap Byte := []
  file : TagFile := .none
  /-- The core cycle until which the field owns the tag memory (R577). -/
  ownUntil : Nat := 0
  /-- A commit pending (R580): first octet and octets. -/
  pend : Option (Nat × List Byte) := Option.none
  /-- A commit cut by a loss of power (R581), and one completed and not yet recorded. -/
  journal : Option (Nat × List Byte) := Option.none
  noteCommit : Bool := false
  hbusy : Bool := false
  status : Status := .ok
deriving DecidableEq, Repr

structure Uart where
  rx : List Byte := []
  tx : List Byte := []
  /-- The core cycle of the last octet received. -/
  rxAt : Nat := 0
  /-- Event 723 or 724 has been raised for the octets now in the FIFO. -/
  told : Bool := false
deriving DecidableEq, Repr

inductive DebugState where
  | closed | challenged | opened | lockout
deriving DecidableEq, Repr

structure Debug where
  state : DebugState := .opened
  /-- TEST, CONTROL, OBSERVE. -/
  scope : BitVec 3 := 7
  fails : Nat := 0
  status : Status := .ok
  nonce : List Byte := []
  nonceAt : Nat := 0
  /-- Debug has been unlocked since reset (R588). -/
  unlocked : Bool := false
deriving DecidableEq, Repr

structure HostPort where
  link : Option (Fin 4 × Fin 4) := none
  memEn : Bool := false
  bme : Bool := false
  msixEn : Bool := false
  fmask : Bool := false
  table : SMap MsixEntry := []
  /-- Pending bits of vectors (R562). -/
  pba : SMap Bool := []
  hrefTold : Bool := false
  dbTold : Bool := false
  usb : Usb := {}
  nfc : Nfc := {}
  /-- Levels driven on the GPIO pins from outside. -/
  pins : BitVec 32 := 0
  /-- SPI and I2C controllers that run: key 0, 1 SPI, 2, 3 I2C; and their last STATUS. -/
  lsBusy : SMap Bool := []
  lsStat : SMap (BitVec 4) := []
  u0 : Uart := {}
  u1 : Uart := {}
  dbg : Debug := {}
  tap : TapInstr := .idcode
deriving DecidableEq, Repr

/-! ### The whole state -/

/-- What a command puts out: octets of a frame, an answer or a transfer, words of a completion, an MSI-X message, or
a handshake of the USB control endpoint. -/
inductive Out where
  | none
  | octets (l : List Byte)
  | words (l : List Word)
  | message (addr : BitVec 64) (data : BitVec 32)
  | stall
  | nak
  | zeroLength
deriving DecidableEq, Repr


structure State where
  /-- The commands that wait, first in, first out. -/
  pending : List Instr := []
  /-- Core cycles passed (the model's clock; DESIGN CHOICE, log 2). -/
  now : Nat := 0
  /-- The number of free values taken so far (DESIGN CHOICE, log 9). -/
  free : Nat := 0
  /-- What the last register read returned and the status of the last access (DESIGN CHOICE, log 10). -/
  readback : Word := 0
  lastStatus : Status := .ok
  /-- What the last command that sends something put out at the pins (DESIGN CHOICE, log 10). -/
  out : Out := .none
  /-- Registers that differ from their reset value, by word address. -/
  regs : SMap Word := []
  /-- WL registers written since reset (R10). -/
  locked : SMap Bool := []
  /-- Main store, by word address (R6). -/
  main : SMap Word := []
  /-- Local data, key 16,384 × shunter + address. -/
  locals : SMap Word := []
  /-- Depot scratch, key 16,384 × depot + (address − #00_4000). -/
  scratch : SMap Word := []
  /-- Instruction stores, key 131,072 × depot + address. -/
  code : SMap Word := []
  /-- External DRAM, by byte address. -/
  dram : SMap Byte := []
  /-- MRAM, by byte offset (Table 12-1). -/
  mram : SMap Byte := []
  shunters : SMap Shunter := []
  dp : Depots := {}
  hm : Health := {}
  sc : Clock := {}
  pw : Power := {}
  rtc : Rtc := {}
  yd : Yard := {}
  sb : SignalBox := {}
  fe : FrontEnd := {}
  lanes : Lanes := {}
  pt : Points := {}
  bh : Backhaul := {}
  up : Update := {}
  hc : HostPort := {}
  kv : Vault := {}
deriving DecidableEq, Repr

/-- The machine right after the release of a power-on reset of a part whose fuses are all unburnt and whose MRAM holds
no image (log 4): mode START with its event and occurrence #00 on their way (Table 15-7, step 7), the START domains on,
HC_PCTL.LINKEN written by the boot ROM (R753), shunter 48 at the boot ROM (R134, Table 15-8), NOIMG (R551), every other
register at its reset value. -/
def State.reset : State :=
  { shunters := [(48, { run := .running, pc := 0x1F000 })],
    regs := [(0x1B0000, 0x800000)],
    hm := { pending := [(0, 0)] },
    dp := { inflight := [768] } }

/-- Why the machine stops with a fault. No meaning of this model raises one: every failure the spec describes is a
next state (log 12). -/
inductive Fault where
  /-- Raised by no meaning. Safe: a stop proves nothing about the hardware. -/
  | none
deriving DecidableEq, Repr

/-- Why a command has no meaning. -/
inductive Refusal where
  /-- A command without a meaning in this model; raised by an arm of `exec` only. Safe. -/
  | notModelled (mnemonic : String)
deriving DecidableEq, Repr

end Sys2Proof.Machine
end

