-- ==== Sys2Proof/Machine/Store.lean ====
section
/-! DEFINITION. Reading and writing a sparse map in its one canonical form: keys strictly rising, and no entry
equal to what an unlisted key reads as. -/

namespace Sys2Proof.Machine

/-- The value at key `k`; an unlisted key reads as `d k`. -/
def mapGet {α : Type} (d : Nat → α) : SMap α → Nat → α
  | [], k => d k
  | (j, v) :: r, k => if j = k then v else mapGet d r k

/-- List `v` at `k`, keeping the keys in rising order. -/
def mapSet {α : Type} : SMap α → Nat → α → SMap α
  | [], k, v => [(k, v)]
  | (j, w) :: r, k, v =>
    if k < j then (k, v) :: (j, w) :: r
    else if j = k then (k, v) :: r
    else (j, w) :: mapSet r k v

/-- Drop every entry of key `k`. -/
def mapDel {α : Type} (m : SMap α) (k : Nat) : SMap α := m.filter (fun p => p.1 != k)

/-- Write `v` at `k`; a value equal to the default leaves no entry. -/
def mapPut {α : Type} [DecidableEq α] (d : Nat → α) (m : SMap α) (k : Nat) (v : α) : SMap α :=
  if v = d k then mapDel m k else mapSet m k v

/-- Update the value at `k`. -/
def mapUpd {α : Type} [DecidableEq α] (d : Nat → α) (m : SMap α) (k : Nat) (f : α → α) : SMap α :=
  mapPut d m k (f (mapGet d m k))

/-- The canonical form, as a test. -/
def mapWf {α : Type} [DecidableEq α] (d : Nat → α) : SMap α → Bool
  | [] => true
  | (k, v) :: r => decide (v ≠ d k) && r.all (fun p => decide (k < p.1)) && mapWf d r

/-- Drop every entry whose key satisfies `p`. -/
def mapDrop {α : Type} (p : Nat → Bool) (m : SMap α) : SMap α := m.filter (fun e => !p e.1)

/-- Drop the first element that satisfies `p`. -/
def removeFirst {α : Type} (p : α → Bool) : List α → List α
  | [] => []
  | x :: r => if p x then r else x :: removeFirst p r

/-- The natural numbers below `n`, rising. -/
def upTo (n : Nat) : List Nat := List.range n

end Sys2Proof.Machine
end

