-- ==== Sys2Proof/Machine/Ops.lean ====
section
/-! DEFINITION. The named operations every unit uses: the register file, the memories, free values, events and
occurrences, power domains and time. -/

namespace Sys2Proof.Machine

/-! ### Changing one unit -/

def State.modDp (s : State) (f : Depots → Depots) : State := { s with dp := f s.dp }
def State.modHm (s : State) (f : Health → Health) : State := { s with hm := f s.hm }
def State.modSc (s : State) (f : Clock → Clock) : State := { s with sc := f s.sc }
def State.modPw (s : State) (f : Power → Power) : State := { s with pw := f s.pw }
def State.modRtc (s : State) (f : Rtc → Rtc) : State := { s with rtc := f s.rtc }
def State.modYd (s : State) (f : Yard → Yard) : State := { s with yd := f s.yd }
def State.modSb (s : State) (f : SignalBox → SignalBox) : State := { s with sb := f s.sb }
def State.modFe (s : State) (f : FrontEnd → FrontEnd) : State := { s with fe := f s.fe }
def State.modLanes (s : State) (f : Lanes → Lanes) : State := { s with lanes := f s.lanes }
def State.modPt (s : State) (f : Points → Points) : State := { s with pt := f s.pt }
def State.modBh (s : State) (f : Backhaul → Backhaul) : State := { s with bh := f s.bh }
def State.modUp (s : State) (f : Update → Update) : State := { s with up := f s.up }
def State.modHc (s : State) (f : HostPort → HostPort) : State := { s with hc := f s.hc }
def State.modKv (s : State) (f : Vault → Vault) : State := { s with kv := f s.kv }

/-! ### Addresses (R6, R20) -/

def baseQDW : Nat := 0x200000
def baseMain : Nat := 0x400000

/-- Base of register block `i` (Table 01-1). -/
def blk (i : Nat) : Nat := 0x100000 + i * 0x10000

def aPW (o : Nat) : Nat := blk 0 + o
def aSC (o : Nat) : Nat := blk 1 + o
def aFE (bd : Band) (o : Nat) : Nat := blk 2 + bd.idx * 0x8000 + o
def aFER (o : Nat) : Nat := blk 2 + o
def aLN (o : Nat) : Nat := blk 3 + o
def aTX (bd : Band) (o : Nat) : Nat := blk 4 + bd.idx * 0x8000 + o
def aSB (o : Nat) : Nat := blk 5 + o
def aPT (o : Nat) : Nat := blk 6 + o
def aYD (o : Nat) : Nat := blk 7 + o
def aBH (p : Band) (o : Nat) : Nat := blk 8 + p.idx * 0x4000 + o
def aBHC (o : Nat) : Nat := blk 8 + 0x2000 + o
def aKV (o : Nat) : Nat := blk 9 + o
def aUP (o : Nat) : Nat := blk 10 + o
def aHC (o : Nat) : Nat := blk 11 + o
def aHM (o : Nat) : Nat := blk 12 + o
def aRTC (o : Nat) : Nat := blk 13 + o
def aFR (o : Nat) : Nat := blk 14 + o
def aDP (d o : Nat) : Nat := blk 15 + d * 0x2000 + o
/-- Word `o` of the descriptor of queue `q` (R385). -/
def aQ (q o : Nat) : Nat := baseQDW + 8 * q + o

/-! ### The register file -/

/-- The row of a register address, with its offset reduced to the map's own base. -/
def rowAt (a : Nat) : Option RegRow :=
  if a < blk 0 then none
  else if a < blk 1 then findRow rowsPW (a - blk 0)
  else if a < blk 2 then findRow rowsSC (a - blk 1)
  else if a < blk 3 then findRow rowsFE (a - blk 2)
  else if a < blk 4 then findRow rowsLN (a - blk 3)
  else if a < blk 5 then findRow rowsTX (a - blk 4)
  else if a < blk 6 then findRow rowsSB (a - blk 5)
  else if a < blk 7 then findRow rowsPT (a - blk 6)
  else if a < blk 8 then findRow rowsYD (a - blk 7)
  else if a < blk 9 then findRow rowsBH (a - blk 8)
  else if a < blk 10 then findRow rowsKV (a - blk 9)
  else if a < blk 11 then findRow rowsUP (a - blk 10)
  else if a < blk 12 then findRow rowsHC (a - blk 11)
  else if a < blk 13 then findRow rowsHM (a - blk 12)
  else if a < blk 14 then findRow rowsRTC (a - blk 13)
  else if a < blk 15 then findRow rowsFR (a - blk 14)
  else if a < baseQDW then findRow rowsDP ((a - blk 15) % 0x2000)
  else if a < baseQDW + 8 * 147456 then findRow rowsQDW (a - baseQDW)
  else none

/-- The value of a register at its reset; DP_DCTL of depot 6 and the profiles of shunter 48 differ from their rows
(Table 02-7, R120). -/
def resetWord (a : Nat) : Word :=
  if a = aDP 6 0 then 0x800000
  else if a = aDP 6 0x44 ∨ a = aDP 6 0x45 then 0x1FFFF
  else match rowAt a with
    | some r => wd r.rst
    | none => 0

/-- The stored word of a register. -/
def State.reg (s : State) (a : Nat) : Word := mapGet resetWord s.regs a

/-- Set the stored word of a register. -/
def State.setReg (s : State) (a : Nat) (v : Word) : State := { s with regs := mapPut resetWord s.regs a v }

/-- Set a field of a stored register. -/
def State.setRegFld (s : State) (a hi lo v : Nat) : State := s.setReg a (setFld (s.reg a) hi lo v)

/-- Count one in a saturating counter register (R11). -/
def State.count (s : State) (a : Nat) : State := s.setReg a (satInc 24 (s.reg a))

/-- Count `k` in a saturating counter register (R11). -/
def State.countBy (s : State) (a k : Nat) : State := s.setReg a (satAdd (s.reg a) k)

/-- Has a WL register been written since reset? -/
def State.isLocked (s : State) (a : Nat) : Bool := mapGet (fun _ => false) s.locked a

/-- A write of a register by its access type alone (Table 00-5, R9). -/
def State.plainWrite (s : State) (a : Nat) (v : Word) : State :=
  match rowAt a with
  | none => s
  | some r =>
    let m := wd r.mask
    match r.acc with
    | .rw => s.setReg a ((s.reg a &&& ~~~m) ||| (v &&& m))
    | .wo => s.setReg a (v &&& m)
    | .w1c => s.setReg a (s.reg a &&& ~~~(v &&& m))
    | .wl =>
      if s.isLocked a then s
      else { s.setReg a (v &&& m) with locked := mapPut (fun _ => false) s.locked a true }
    | .ro | .rc | .w1p => s

/-- A read of a register by its access type alone (Table 00-5). -/
def State.plainRead (s : State) (a : Nat) : Word × State :=
  match rowAt a with
  | none => (0, s)
  | some r =>
    match r.acc with
    | .rc => (s.reg a, s.setReg a 0)
    | .wo | .w1p => (0, s)
    | .rw | .ro | .w1c | .wl => (s.reg a, s)

/-! ### Memories -/

def zeroWord : Nat → Word := fun _ => 0
def zeroByte : Nat → Byte := fun _ => 0

/-- A main-store word; `a` is a word address (log 6: an unwritten word reads 0). -/
def State.mainWord (s : State) (a : Nat) : Word := mapGet zeroWord s.main a
def State.setMain (s : State) (a : Nat) (v : Word) : State := { s with main := mapPut zeroWord s.main a v }

def State.localWord (s : State) (sh : Sh) (a : Nat) : Word := mapGet zeroWord s.locals (16384 * sh.val + a)
def State.setLocal (s : State) (sh : Sh) (a : Nat) (v : Word) : State :=
  { s with locals := mapPut zeroWord s.locals (16384 * sh.val + a) v }

def State.scrWord (s : State) (d a : Nat) : Word := mapGet zeroWord s.scratch (16384 * d + a)
def State.setScr (s : State) (d a : Nat) (v : Word) : State :=
  { s with scratch := mapPut zeroWord s.scratch (16384 * d + a) v }

def State.codeWord (s : State) (d a : Nat) : Word := mapGet zeroWord s.code (131072 * d + a)
/-- A word of an instruction store is written; an error it held is gone. -/
def State.setCode (s : State) (d a : Nat) (v : Word) : State :=
  { s with code := mapPut zeroWord s.code (131072 * d + a) v
           dp := { s.dp with codeEcc := mapPut (fun _ => false) s.dp.codeEcc (131072 * d + a) false } }

def State.dramByte (s : State) (a : Nat) : Byte := mapGet zeroByte s.dram a
def State.setDram (s : State) (a : Nat) (v : Byte) : State := { s with dram := mapPut zeroByte s.dram a v }

def State.mramByte (s : State) (a : Nat) : Byte := mapGet zeroByte s.mram a
def State.setMram (s : State) (a : Nat) (v : Byte) : State := { s with mram := mapPut zeroByte s.mram a v }

/-- Octets from DRAM. -/
def State.dramBytes (s : State) (a n : Nat) : List Byte := (upTo n).map (fun i => s.dramByte (a + i))

/-- Octets into DRAM from address `a` on. -/
def State.putDram (s : State) : Nat → List Byte → State
  | _, [] => s
  | a, b :: r => (s.setDram a b).putDram (a + 1) r

/-- Octets from MRAM. -/
def State.mramBytes (s : State) (a n : Nat) : List Byte := (upTo n).map (fun i => s.mramByte (a + i))

/-- Octets into MRAM from offset `a` on. -/
def State.putMram (s : State) : Nat → List Byte → State
  | _, [] => s
  | a, b :: r => (s.setMram a b).putMram (a + 1) r

/-- Words into main store from word address `a` on. -/
def State.putMain (s : State) : Nat → List Word → State
  | _, [] => s
  | a, w :: r => (s.setMain a w).putMain (a + 1) r

/-- `n` octets of main store from word address `a` on (R4). -/
def State.mainOctets (s : State) (a n : Nat) : List Byte :=
  (upTo n).map (octetAt (fun i => s.mainWord (a + i)))

/-- Every memory is in its canonical form. -/
def Memory.wf (s : State) : Bool :=
  mapWf zeroWord s.main && mapWf zeroWord s.locals && mapWf zeroWord s.scratch && mapWf zeroWord s.code &&
    mapWf zeroByte s.dram && mapWf zeroByte s.mram

/-! ### Free values -/

/-- Take a free value (log 9). -/
def State.take (s : State) : Nat × State := (Config.freeValue s.free, { s with free := s.free + 1 })

/-! ### Shunters -/

def State.shunter (s : State) (sh : Sh) : Shunter := mapGet (fun _ => {}) s.shunters sh.val
def State.setShunter (s : State) (sh : Sh) (x : Shunter) : State :=
  { s with shunters := mapPut (fun _ => {}) s.shunters sh.val x }
def State.modShunter (s : State) (sh : Sh) (f : Shunter → Shunter) : State := s.setShunter sh (f (s.shunter sh))

def depotOf (sh : Sh) : Nat := sh.val / 8
/-- The shunter's place in its depot. -/
def placeOf (sh : Sh) : Nat := sh.val % 8
/-- Shunter `p` of depot `d`. -/
def shOf (d p : Nat) : Sh := Fin.ofNat 64 (8 * d + p)

/-! ### Events and occurrences -/

/-- Raise a hardware event; it reaches the depots by EVENT_ARRIVAL (R81). -/
def State.raise (s : State) (e : Nat) : State :=
  { s with dp := { s.dp with inflight := s.dp.inflight ++ [Fin.ofNat 1024 e] } }

/-- Record an occurrence of a code with its value (R675): it joins the source's aggregate. -/
def State.occurV (s : State) (code : Nat) (v : Word) : State :=
  { s with hm := { s.hm with pending := s.hm.pending ++ [(BitVec.ofNat 8 code, v)] } }

/-- Record a value-free occurrence. -/
def State.occur (s : State) (code : Nat) : State := s.occurV code 0

/-! ### Power domains (Table 15-3) -/

def dBKP : Nat := 0
def dAON : Nat := 1
def dNFC : Nat := 2
def dVAULT : Nat := 3
def dMRAM : Nat := 4
def dSC : Nat := 5
def dDEPOT (d : Nat) : Nat := 6 + d
def dMSTORE0 : Nat := 14
def dMSTORE1 : Nat := 15
def dTABLES : Nat := 16
def dYARD : Nat := 17
def dSB : Nat := 18
def dRX (bd : Band) : Nat := 19 + bd.idx
def dTX (bd : Band) : Nat := 21 + bd.idx
def dCHAN (bd : Band) : Nat := 23 + bd.idx
def dLANES (lane : Nat) : Nat := if lane < 256 then 25 else 26
def dLDPC : Nat := 27
def dBH (p : Band) : Nat := 28 + p.idx
def dHOST : Nat := 30
def dDRAM : Nat := 31

/-- The domain carries power and is not in retention (R22, R632). -/
def State.on (s : State) (d : Nat) : Bool := s.pw.don.getLsbD d && !s.pw.dret.getLsbD d

/-- The mode code of Table 15-1. -/
def Mode.code : Mode → Nat
  | .off => 0 | .keepalive => 1 | .dormant => 2 | .start => 3
  | .provision => 4 | .service => 5 | .island => 6 | .maintenance => 7

/-- CORE is being spread (R31). -/
def State.coreSpread (s : State) : Bool := bit (s.reg (aPW 6)) 23

/-! ### Time -/

/-- Core cycles per second, millisecond and microsecond (Table 01-4). -/
def cycS : Nat := 3000000000
def cycMs : Nat := 3000000
def cycUs : Nat := 3000

/-- Short time of a network time in 2^-72 s (R308). -/
def shortOf (t : Nat) : Long := ln (t / 2 ^ 40)

/-- The station clock's short time (0 while the SC domain is off). -/
def State.shortTime (s : State) : Long := if s.on dSC then shortOf s.sc.time else 0

/-- The short time of the present core cycle, as TCAP interpolates it (R325). -/
def State.tcap (s : State) : Long :=
  s.shortTime + ln (s.sc.phase * s.sc.add / (12 * 2 ^ 40))

/-- A span of `n` station ticks in units of 2^-72 s at the present rate. -/
def State.ticks (s : State) (n : Nat) : Nat := n * s.sc.add

/-- The stamp clock: short time, or the RTC's while the SC domain is off (R678, R336). -/
def State.stampTime (s : State) : Long :=
  if s.on dSC then s.shortTime else ln (s.rtc.sec % 65536 * 2 ^ 32 + s.rtc.sub * 2 ^ 17)

/-- A stamp never falls behind the last one of its stream (R51, R52, R422). -/
def stampAfter (last : Option Long) (now : Long) : Long :=
  match last with
  | none => now
  | some l => if after l now then l else now

end Sys2Proof.Machine
end

