-- ==== Sys2Proof/Machine/ShunterOps.lean ====
section
/-! DEFINITION. Shunters as their depots and the units see them: registers, pairs and status, run control, watchdog
counts, tokens, and the delivery of events (R60–R106, R121–R124, R700–R703). -/

namespace Sys2Proof.Machine

/-- The 4-bit code of a status (Table 00-6). -/
def stCode : Status → Nat
  | .ok => 0 | .busy => 1 | .badarg => 2 | .state => 3 | .full => 4 | .absent => 5
  | .denied => 6 | .fault => 7 | .noentropy => 8 | .late => 9 | .dwell => 10 | .timeout => 11

/-- The status of a 4-bit code. -/
def stOf : Nat → Status
  | 0 => .ok | 1 => .busy | 2 => .badarg | 3 => .state | 4 => .full | 5 => .absent
  | 6 => .denied | 7 => .fault | 8 => .noentropy | 9 => .late | 10 => .dwell | _ => .timeout

/-! ### Registers -/

/-- Register `r`; g0 reads 0 (R61). -/
def Shunter.r (x : Shunter) (r : Reg) : Word := if r = 0 then 0 else mapGet zeroWord x.g r.val

/-- Write register `r`; a write of g0 is discarded (R61). -/
def Shunter.setR (x : Shunter) (r : Reg) (v : Word) : Shunter :=
  if r = 0 then x else { x with g := mapPut zeroWord x.g r.val v }

/-- The pair named by an even register (R62); g0:g1 is g1 zero-extended (R63). -/
def Shunter.pair (x : Shunter) (r : Reg) : Long :=
  if r = 0 then long 0 (x.r 1) else long (x.r r) (x.r (r + 1))

/-- Write a pair; g0:g1 takes only bits [23:0] (R63). -/
def Shunter.setPair (x : Shunter) (r : Reg) (v : Long) : Shunter :=
  if r = 0 then x.setR 1 (loWord v) else (x.setR r (hiWord v)).setR (r + 1) (loWord v)

/-- The outcome of a request: AST.RSTAT and Z (R700). -/
def Shunter.outcome (x : Shunter) (st : Status) : Shunter :=
  { x with rstat := BitVec.ofNat 4 (stCode st), z := decide (st = .ok) }

/-- A load or store that completes with another status than OK (R80). -/
def Shunter.access (x : Shunter) (st : Status) (addr : Word) : Shunter :=
  if st = .ok then x else { x with mstat := BitVec.ofNat 4 (stCode st), sticky := true, sfaddr := addr }

/-- AST as rdast reads it (Table 17-8). -/
def Shunter.ast (x : Shunter) : Word :=
  wd (b2n x.sticky * 2 ^ 23 + x.rstat.toNat * 16 + x.mstat.toNat)

/-- The address of the next instruction: past `len` words, or the entry of the shunter's own GO (R694, R131). -/
def Shunter.advance (x : Shunter) (len : Nat) : Shunter :=
  match x.jump with
  | some e => { x with pc := e, jump := none }
  | none => { x with pc := x.pc + BitVec.ofNat 17 len }

/-- A branch to `pc`, unless the shunter's own GO has been taken. -/
def Shunter.branch (x : Shunter) (pc : BitVec 17) : Shunter :=
  match x.jump with
  | some e => { x with pc := e, jump := none }
  | none => { x with pc := pc }

/-! ### Run state and watchdog -/

def Wait.isParked : Wait → Bool
  | .parked _ _ => true
  | _ => false

/-- The watchdog count runs: neither HALTED, PARKED nor FAULTED (R123). -/
def Shunter.counts (x : Shunter) : Bool := decide (x.run = .running) && !x.wait.isParked

/-- The watchdog count, in core cycles. -/
def Shunter.watch (x : Shunter) (now : Nat) : Nat := if x.counts then x.wdAcc + (now - x.wdFrom) else x.wdAcc

/-- Fully HALTED: no instruction in progress and no load outstanding (R702). -/
def Shunter.isHalted (x : Shunter) : Bool := decide (x.run = .halted) && decide (x.wait = .none) && x.loads.isEmpty

/-- An instruction may issue. -/
def Shunter.canIssue (x : Shunter) : Bool :=
  (decide (x.run = .running) || x.stepping) && decide (x.wait = .none)

/-- Stores of the shunter issued before count `q` that have not drained (R101, R106). -/
def Shunter.olderStores (x : Shunter) (q : Nat) : Bool :=
  x.mainBuf.any (fun e => decide (e.seq < q)) || x.scrBuf.any (fun e => decide (e.seq < q))

/-- The shunter ends a wait: it leaves the instruction behind and its count runs on. -/
def Shunter.resume (x : Shunter) (now : Nat) : Shunter :=
  { (if x.wait.isParked then { x with wdFrom := now } else x).advance 1 with wait := .none }

/-! ### Tokens (R96–R104, R754) -/

def State.token (s : State) (t : Nat) : Token := mapGet (fun _ => {}) s.dp.tokens t
def State.setToken (s : State) (t : Nat) (k : Token) : State :=
  { s with dp := { s.dp with tokens := mapPut (fun _ => {}) s.dp.tokens t k } }

/-- Insert a token in the list of those held, lowest first. -/
def insToken (t : BitVec 8) : List (BitVec 8) → List (BitVec 8)
  | [] => [t]
  | u :: r => if t.toNat < u.toNat then t :: u :: r else u :: insToken t r

/-- The waiter granted next (R98): the earliest made; of those made in one cycle, the first id after the last
granted. -/
def nextWaiter (last : Sh) : List (Sh × Nat) → Option (Sh × Nat)
  | [] => none
  | w :: r =>
    match nextWaiter last r with
    | none => some w
    | some b =>
      let key := fun (p : Sh × Nat) => p.2 * 64 + (p.1.val + 63 - last.val) % 64
      if key b < key w then some b else some w

/-- Give token `t` to shunter `sh`. -/
def State.own (s : State) (t : BitVec 8) (sh : Sh) : State :=
  let k := s.token t.toNat
  (s.setToken t.toNat { k with owner := some sh, last := sh, since := s.now, limitDone := false, relSeq := none }).modShunter sh
    (fun x => { x with held := insToken t x.held })

/-- The waiting TKACQ of `sh` is granted. -/
def State.grant (s : State) (t : BitVec 8) (sh : Sh) : State :=
  (s.own t sh).modShunter sh (fun x => (x.outcome .ok).resume s.now)

/-- A release takes effect at the home (R99, R101): the next waiter is granted. -/
def State.release (s : State) (t : BitVec 8) : State :=
  let k := s.token t.toNat
  match nextWaiter k.last k.waiters with
  | none => s.setToken t.toNat { k with owner := none, relSeq := none }
  | some w =>
    (s.setToken t.toNat { k with owner := none, relSeq := none, waiters := k.waiters.filter (fun p => p.1 != w.1) }).grant
      t w.1

/-- A release is issued: it takes effect once the stores issued before it have drained. -/
def State.issueRelease (s : State) (sh : Sh) (t : BitVec 8) : State :=
  let x := s.shunter sh
  let k := s.token t.toNat
  (s.setToken t.toNat { k with relSeq := some x.seq }).setShunter sh { x with held := x.held.filter (fun u => u != t) }

/-- RESET releases every token held (R104), at once where no store waits. -/
def State.releaseAll (s : State) (sh : Sh) : State :=
  (s.shunter sh).held.foldl
    (fun s t =>
      let s1 := s.issueRelease sh t
      if (s1.shunter sh).olderStores (s1.shunter sh).seq then s1 else s1.release t) s

/-- A waiting TKACQ is withdrawn (R104). -/
def State.withdraw (s : State) (sh : Sh) : State :=
  match (s.shunter sh).wait with
  | .token t =>
    let k := s.token t.toNat
    (s.setToken t.toNat { k with waiters := k.waiters.filter (fun p => p.1 != sh) }).modShunter sh
      (fun x => { x with wait := .none })
  | _ => s

/-! ### Halt, fault and reset of a shunter -/

/-- HALT (R104, R702): a parked waitev and a waitt end at once, a tkacq is withdrawn, another instruction
completes first. -/
def State.haltShunter (s : State) (sh : Sh) : State :=
  let s1 := s.withdraw sh
  s1.modShunter sh (fun x =>
    if x.run = .running then
      let y := match x.wait with
        | .parked _ _ => x.resume s.now
        | .time _ => x.resume s.now
        | _ => x
      { y with run := .halted, wdAcc := 0, wdFrom := s.now, wdFirst := false }
    else x)

/-- A fault (R121, R122): the shunter stops before the instruction at `fpc`, and its depot reports it. -/
def State.faultShunter (s : State) (sh : Sh) (cause : Nat) (fpc : BitVec 17) : State :=
  let s1 := (s.withdraw sh).modShunter sh (fun x =>
    { x with run := .faulted, wait := .none, stepping := false, busy := false, cause := BitVec.ofNat 4 cause, fpc := fpc, pc := fpc,
             wdAcc := x.watch s.now, wdFrom := s.now })
  (s1.raise (880 + depotOf sh)).occur 0x08

/-- RESET of a shunter (Table 02-9, R64, R91, R104). -/
def State.resetShunter (s : State) (sh : Sh) : State :=
  let s1 := (s.withdraw sh).releaseAll sh
  let d := depotOf sh
  let keep := fun (r : EvRecord) =>
    !(decide (r.depot.val = d) && decide (r.target = .one (Fin.ofNat 8 (placeOf sh))))
  { s1.modShunter sh (fun x =>
      { x with g := [], n := false, z := false, c := false, v := false, pc := 0, sticky := false, rstat := 0, mstat := 0,
               run := .halted, wait := .none, stepping := false, busy := false, jump := none, loads := [],
               cause := 0, fpc := 0, wdAcc := 0, wdFrom := s.now, wdFirst := false }) with
    dp := { s1.dp with records := s1.dp.records.filter keep } }

/-! ### Events at the depots (R81–R91) -/

/-- The words of a route entry. -/
def State.route (s : State) (d e : Nat) : Word × Word := (s.reg (aDP d (0x800 + 2 * e)), s.reg (aDP d (0x801 + 2 * e)))

/-- EN with a MODE that is not reserved (Table 02-12). -/
def routeOn (r0 : Word) : Bool := bit r0 23 && decide (fld r0 21 20 < 2)

/-- The event word of Table 02-2 at dispatch. -/
def eventWord (e : Nat) (multi : Bool) (delay : Nat) : Word :=
  wd (e * 2 ^ 14 + b2n multi * 2 ^ 13 + b2n (decide (4095 < delay)) * 2 ^ 12 + min delay 4095)

/-- Give an event to a shunter that executes WAITEV with destination `dest` (R86–R88); in MODE ANY the router notes
who took it (R85). -/
def State.dispatch (s : State) (sh : Sh) (dest : Reg) (e : Nat) (arrival : Nat) (multi isAny : Bool) : State :=
  let d := depotOf sh
  let delay := s.now - arrival
  let h := fld (s.route d e).2 16 0
  let s1 := s.modShunter sh (fun x =>
    { (((x.setR dest (eventWord e multi delay)).outcome .ok).branch (BitVec.ofNat 17 h)) with
        wait := .none, wdAcc := 0, wdFrom := s.now, wdFirst := false })
  let s2 := if isAny then
      { s1 with dp := { s1.dp with lastTook := mapPut (fun _ => 7) s1.dp.lastTook (1024 * d + e) (Fin.ofNat 8 (placeOf sh)) } }
    else s1
  if 4095 < delay then s2.occur 0x18 else s2

/-- Is the record addressed to shunter `p` of depot `d` now? -/
def State.addressed (s : State) (d p : Nat) (r : EvRecord) : Bool :=
  decide (r.depot.val = d) &&
  match r.target with
  | .any => (s.route d r.event.val).1.getLsbD p
  | .one i => decide (i.val = p)

/-- Should record `a` be taken before record `b` (R84)? -/
def State.recBefore (s : State) (d : Nat) (a b : EvRecord) : Bool :=
  let ua := bit (s.route d a.event.val).1 22
  let ub := bit (s.route d b.event.val).1 22
  if ua != ub then ua
  else if a.arrival ≠ b.arrival then decide (a.arrival < b.arrival)
  else decide (a.event.val < b.event.val)

/-- The record shunter `p` of depot `d` takes first (R84). -/
def State.firstRecord (s : State) (d p : Nat) : List EvRecord → Option EvRecord
  | [] => none
  | r :: t =>
    match s.firstRecord d p t with
    | none => if s.addressed d p r then some r else none
    | some b => if s.addressed d p r && s.recBefore d r b then some r else some b

/-- WAITEV of a shunter finds a record: take it; none answers none. -/
def State.takeRecord (s : State) (sh : Sh) (dest : Reg) : Option State :=
  match s.firstRecord (depotOf sh) (placeOf sh) s.dp.records with
  | none => none
  | some r =>
    let s1 := { s with dp := { s.dp with records := removeFirst (fun q => decide (q = r)) s.dp.records } }
    some (s1.dispatch sh dest r.event.val r.arrival r.multi (decide (r.target = .any)))

/-- The destination of a parked WAITEV. -/
def Shunter.parkedDest (x : Shunter) : Option Reg :=
  match x.wait, x.run with
  | .parked _ d, .running => some d
  | _, _ => none

/-- Keep an occurrence of an event that no parked shunter takes (R83). -/
def State.keepRecord (s : State) (d : Depot) (e : Fin 1024) (t : EvTarget) : State :=
  let same := fun (r : EvRecord) => decide (r.depot = d) && decide (r.event = e) && decide (r.target = t)
  if s.dp.records.any same then
    { s with dp := { s.dp with records := s.dp.records.map (fun r => if same r then { r with multi := true } else r) } }
  else { s with dp := { s.dp with records := s.dp.records ++ [⟨d, e, t, s.now, false⟩] } }

/-- The first parked shunter of MASK after the one that last took the event (R85). -/
def State.parkedIn (s : State) (d : Nat) (mask : Word) (last : Nat) : Option Nat :=
  ((upTo 8).map (fun k => (last + 1 + k) % 8)).find?
    (fun p => mask.getLsbD p && ((s.shunter (shOf d p)).parkedDest).isSome)

/-- An event arrives at one depot's router (R81–R85). -/
def State.arriveAt (s : State) (d : Depot) (e : Fin 1024) : State :=
  let r0 := (s.route d.val e.val).1
  if !(routeOn r0 && s.on (dDEPOT d.val)) then s
  else if fld r0 21 20 = 0 then
    let last := (mapGet (fun _ => (7 : Fin 8)) s.dp.lastTook (1024 * d.val + e.val)).val
    match s.parkedIn d.val r0 last with
    | some p => s.dispatch (shOf d.val p) (((s.shunter (shOf d.val p)).parkedDest).getD 0) e.val s.now false true
    | none => s.keepRecord d e .any
  else
    (upTo 8).foldl (fun s p =>
      if !r0.getLsbD p then s
      else match (s.shunter (shOf d.val p)).parkedDest with
        | some dest => s.dispatch (shOf d.val p) dest e.val s.now false false
        | none => s.keepRecord d e (.one (Fin.ofNat 8 p))) s

/-- Event routing to the host (R562): an enabled event requests its MSI-X vector. -/
def State.hostEvent (s : State) (e : Nat) : State :=
  let h := s.reg (aHC (0x400 + e))
  if bit h 23 && s.on dHOST then
    { s with hc := { s.hc with pba := mapPut (fun _ => false) s.hc.pba (fld h 5 0) true } }
  else s

/-- An event arrives at every depot, and at the host (R81, R562). -/
def State.arrive (s : State) (e : Fin 1024) : State :=
  (upTo 8).foldl (fun s d => s.arriveAt (Fin.ofNat 8 d) e) (s.hostEvent e.val)

end Sys2Proof.Machine
end

