-- ==== Sys2Proof/Machine/Flags.lean ====
section
/-! DEFINITION. The flags N, Z, C and V of the instruction groups, for words and for pairs (R696, R704–R709). -/

namespace Sys2Proof.Machine

/-- N and Z of a result. -/
def Shunter.nz {w : Nat} (x : Shunter) (r : BitVec w) : Shunter := { x with n := r.msb, z := decide (r = 0) }

/-- Z alone. -/
def Shunter.zOnly {w : Nat} (x : Shunter) (r : BitVec w) : Shunter := { x with z := decide (r = 0) }

/-- N, Z and C. -/
def Shunter.nzc {w : Nat} (x : Shunter) (r : BitVec w) (c : Bool) : Shunter := { x.nz r with c := c }

/-- The flags of a + b + cin: C is the carry out, V signed overflow. -/
def Shunter.addFlags {w : Nat} (x : Shunter) (a b r : BitVec w) (cin : Bool) : Shunter :=
  { x.nz r with
    c := decide (2 ^ w ≤ a.toNat + b.toNat + b2n cin)
    v := (a.msb == b.msb) && (r.msb != a.msb) }

/-- The flags of a − b − bin: C = 1 means no borrow, V signed overflow. -/
def Shunter.subFlags {w : Nat} (x : Shunter) (a b r : BitVec w) (bin : Bool) : Shunter :=
  { x.nz r with
    c := decide (b.toNat + b2n bin ≤ a.toNat)
    v := (a.msb != b.msb) && (r.msb != a.msb) }

/-- The conditions of Table 17-7. -/
def Shunter.holds (x : Shunter) (cond : BitVec 4) : Bool :=
  match cond.toNat with
  | 0 => x.z
  | 1 => !x.z
  | 2 => x.c
  | 3 => !x.c
  | 4 => x.n
  | 5 => !x.n
  | 6 => x.v
  | 7 => !x.v
  | 8 => x.c && !x.z
  | 9 => !x.c || x.z
  | 10 => x.n == x.v
  | 11 => x.n != x.v
  | 12 => !x.z && (x.n == x.v)
  | 13 => x.z || (x.n != x.v)
  | 14 => true
  | _ => !x.z && !x.n

/-- The flags word: N in bit 3, Z in bit 2, C in bit 1, V in bit 0 (R701). -/
def Shunter.flagsWord (x : Shunter) : Word := wd (b2n x.n * 8 + b2n x.z * 4 + b2n x.c * 2 + b2n x.v)

/-- Set the flags from a flags word (wrfl). -/
def Shunter.setFlags (x : Shunter) (w : Word) : Shunter :=
  { x with n := bit w 3, z := bit w 2, c := bit w 1, v := bit w 0 }

end Sys2Proof.Machine
end

