-- ==== Sys2Proof/Machine/YardWords.lean ====
section
/-! DEFINITION. Queue descriptors and word queues: posting and taking packets (R385–R391, R419–R424). -/

namespace Sys2Proof.Machine

/-- The queues of the yard (R385). -/
def queueCount : Nat := 147456

/-- Is it a node queue? -/
def isNodeQueue (q : Nat) : Bool := decide (q < 131072)

def State.qctl (s : State) (q : Nat) : Word := s.reg (aQ q 0)
def State.qEn (s : State) (q : Nat) : Bool := bit (s.qctl q) 23
def State.qKind (s : State) (q : Nat) : Nat := fld (s.qctl q) 22 21
def State.qEgr (s : State) (q : Nat) : Nat := fld (s.qctl q) 5 0

/-- The yard serves requests: its domain is on and YD_CTL.EN is set. -/
def State.yardOn (s : State) : Bool := s.on dYARD && bit (s.reg (aYD 0)) 23

/-- An enabled queue of the yard. -/
def State.qLive (s : State) (q : Nat) : Bool := decide (q < queueCount) && s.yardOn && s.qEn q

/-- An enabled report FIFO. -/
def State.isReport (s : State) (q : Nat) : Bool := s.qLive q && decide (s.qKind q = 1)

/-- An enabled mailbox. -/
def State.isMailbox (s : State) (q : Nat) : Bool := s.qLive q && decide (s.qKind q = 2)

/-- The region words of a word queue (R389). -/
def State.region (s : State) (q : Nat) : Nat := 64 * fld (s.reg (aQ q 2)) 14 0

def State.wordQ (s : State) (q : Nat) : WordQueue := mapGet (fun _ => {}) s.yd.words q
def State.setWordQ (s : State) (q : Nat) (w : WordQueue) : State :=
  s.modYd (fun y => { y with words := mapPut (fun _ => {}) y.words q w })

/-- Region words of a packet: its stamp and its words (R419). -/
def Packet.size (p : Packet) : Nat := p.words.length + 2

/-- Region words in use. -/
def WordQueue.used (w : WordQueue) : Nat := (w.packets.map Packet.size).sum

/-- Both copies of a pointer are equal (R424). -/
def WordQueue.sound (w : WordQueue) : Bool := decide (w.rd = w.rdDup) && decide (w.wr = w.wrDup)

/-- The queue event of an arrival (QEV, Table 09-10). -/
def State.queueEvent (s : State) (q : Nat) (wasEmpty : Bool) : State :=
  let e := s.reg (aQ q 7)
  if bit e 23 && (bit e 22 || wasEmpty) then s.raise (320 + fld e 6 0) else s

/-- Count `n` packets with `w` words lost from a queue. -/
def State.countLost (s : State) (q n w : Nat) : State := (s.countBy (aQ q 5) n).countBy (aQ q 6) w

/-- A pointer mismatch: the queue is emptied and its packets are counted (R424). -/
def State.pointerError (s : State) (q : Nat) : State :=
  let w := s.wordQ q
  let s1 := (s.countLost q w.packets.length ((w.packets.map (fun p => p.words.length)).sum)).count (aYD 0x25)
  ((s1.setWordQ q { packets := [], last := w.last }).raise 420).occur 0x75

/-- Remove the head packet; the read pointer moves on. -/
def WordQueue.drop (w : WordQueue) (region : Nat) : WordQueue :=
  match w.packets with
  | [] => w
  | p :: r =>
    let rd := (w.rd + p.size) % (max region 1)
    { w with packets := r, rd := rd, rdDup := rd }

/-- Append a packet; the write pointer moves on. -/
def WordQueue.push (w : WordQueue) (region : Nat) (p : Packet) : WordQueue :=
  let wr := (w.wr + p.size) % (max region 1)
  { w with packets := w.packets ++ [p], last := some p.stamp, wr := wr, wrDup := wr }

/-- A report FIFO discards its oldest packets until `need` words fit (R420). -/
def State.makeRoom (s : State) (q need : Nat) : Nat → State
  | 0 => s
  | n + 1 =>
    let w := s.wordQ q
    match w.packets with
    | [] => s
    | p :: _ =>
      if w.used + need ≤ s.region q then s
      else
        State.makeRoom
          ((((s.setWordQ q (w.drop (s.region q))).countLost q 1 p.words.length).count (aYD 0x23)).occur 0x73) q need n

/-- The packet enters with its stamp (R422), and the queue's event is raised. -/
def State.enterPacket (s : State) (q : Nat) (words : List Word) (wasEmpty : Bool) : State :=
  let w := s.wordQ q
  (s.setWordQ q (w.push (s.region q) ⟨stampAfter w.last s.shortTime, words⟩)).queueEvent q wasEmpty

/-- A packet offered to an enabled word queue (R420, R421, R424). -/
def State.putPacket (s : State) (q : Nat) (words : List Word) : Status × State :=
  let w := s.wordQ q
  let n := words.length
  if !w.sound then (.fault, s.pointerError q)
  else if s.qKind q = 1 then
    if s.region q < n + 2 then (.full, ((s.countLost q 1 n).count (aYD 0x23)).occur 0x73)
    else
      let s1 := s.makeRoom q (n + 2) w.packets.length
      (.ok, s1.enterPacket q words w.packets.isEmpty)
  else if s.region q < w.used + (n + 2) then (.full, (s.count (aYD 0x24)).occur 0x74)
  else (.ok, s.enterPacket q words w.packets.isEmpty)

/-- A unit posts a packet to the report FIFO that it names; anything else receives nothing. -/
def State.post (s : State) (q : Nat) (words : List Word) : State :=
  if s.isReport q then (s.putPacket q words).2 else s

/-- GET of the head packet (R423): its status, the packet on OK, n on FULL. -/
def State.getPacket (s : State) (q max : Nat) : Status × Nat × Option Packet × State :=
  let w := s.wordQ q
  if !w.sound then (.fault, 0, none, s.pointerError q)
  else
    match w.packets with
    | [] => (.absent, 0, none, s)
    | p :: _ =>
      if max < p.words.length then (.full, p.words.length, none, s)
      else (.ok, p.words.length, some p, s.setWordQ q (w.drop (s.region q)))

/-- Enabled word queues (YD_STAT). -/
def State.wordQueues (s : State) : Nat :=
  (s.regs.filter (fun e =>
    decide (baseQDW ≤ e.1) && decide (e.1 < baseMain) && decide (e.1 % 8 = 0) && bit e.2 23 &&
    (decide (fld e.2 22 21 = 1) || decide (fld e.2 22 21 = 2)))).length

end Sys2Proof.Machine
end

