-- ==== Sys2Proof/Machine/Cells.lean ====
section
/-! DEFINITION. Buffer cells and pools (R395–R401), and the flow control that the downlink pool's headroom drives
(R449). -/

namespace Sys2Proof.Machine

/-- The word address of cell `c`. -/
def cellAddr (c : Nat) : Nat := 0x400000 + 64 * c

def State.cellBase (s : State) : Nat := fld (s.reg (aYD 2)) 17 0
def State.cellCount (s : State) : Nat := fld (s.reg (aYD 3)) 17 0

/-- Does the yard manage cell `c`? -/
def State.managed (s : State) (c : Nat) : Bool := decide (s.cellBase ≤ c) && decide (c < s.cellBase + s.cellCount)

def State.cell (s : State) (c : Nat) : CellRec := mapGet (fun _ => {}) s.yd.cells c
def State.setCell (s : State) (c : Nat) (r : CellRec) : State :=
  s.modYd (fun y => { y with cells := mapPut (fun _ => {}) y.cells c r })

def State.used (s : State) (p : Nat) : Nat := mapGet (fun _ => 0) s.yd.used p
def State.setUsed (s : State) (p n : Nat) : State := s.modYd (fun y => { y with used := mapPut (fun _ => 0) y.used p n })

/-- The reserve that the pools other than `p` still need (R396). -/
def State.poolNeed (s : State) (p : Nat) : Nat :=
  (((upTo 3).filter (fun q => q != p)).map (fun q => fld (s.reg (aYD (8 + q))) 17 0 - s.used q)).sum

/-- The headroom of a pool. -/
def State.headroom (s : State) (p : Nat) : Nat := s.yd.cellFree - s.poolNeed p

/-! ### Flow control of the backhaul ports (R449) -/

def State.port (s : State) : Band → Port
  | .a => s.bh.a
  | .b => s.bh.b

def State.setPort (s : State) (p : Band) (x : Port) : State :=
  match p with
  | .a => s.modBh (fun y => { y with a := x })
  | .b => s.modBh (fun y => { y with b := x })

def State.modPort (s : State) (p : Band) (f : Port → Port) : State := s.setPort p (f (s.port p))

/-- Count `k` in a 48-bit counter of a port (block 0 or 1) or the shared block (2); it saturates (R11, R466). -/
def State.bhCount (s : State) (blk i k : Nat) : State :=
  s.modBh (fun y => { y with counts := mapUpd (fun _ => 0) y.counts (256 * blk + i) (fun n => min (n + k) (2 ^ 48 - 1)) })

/-- A port sends flow control now: EN, its link up. -/
def State.fcEnabled (s : State) (p : Band) : Bool := s.on (dBH p) && bit (s.reg (aBH p 6)) 23 && (s.port p).link

/-- The headroom has changed: flow control starts below BH_FCON and ends at BH_FCOFF, each with a frame. -/
def State.flowControlAt (s : State) (p : Band) : State :=
  let h := s.headroom 1
  let x := s.port p
  if !s.fcEnabled p then s
  else if x.fcOn = false ∧ h < fld (s.reg (aBH p 8)) 17 0 then
    (s.setPort p { x with fcOn := true, fcAt := s.now }).bhCount p.idx 13 1
  else if x.fcOn = true ∧ fld (s.reg (aBH p 9)) 17 0 ≤ h then
    (s.setPort p { x with fcOn := false, fcAt := s.now }).bhCount p.idx 13 1
  else s

/-- After a change of the pools from state `s` to `t`: events 416 to 418 once per crossing (R436), and flow
control. -/
def State.poolsChanged (s t : State) : State :=
  let t1 := (upTo 3).foldl (fun u p =>
    let low := fld (t.reg (aYD (0x14 + p))) 17 0
    if low ≤ s.headroom p ∧ t.headroom p < low then u.raise (416 + p) else u) t
  (t1.flowControlAt .a).flowControlAt .b

/-! ### Allocation and release -/

/-- The first free managed cell at or after offset `i` of the managed range, round the range once. -/
def State.freeCellFrom (s : State) (i : Nat) : Nat → Option Nat
  | 0 => none
  | n + 1 =>
    let c := s.cellBase + i % (max s.cellCount 1)
    if (s.cell c).alloc then s.freeCellFrom (i + 1) n else some c

/-- Take `n` free cells, each the one a free value chooses (R396). -/
def State.pickCells (s : State) (p : Nat) : Nat → List Nat × State
  | 0 => ([], s)
  | n + 1 =>
    let f := s.take
    match f.2.freeCellFrom f.1 s.cellCount with
    | none => ([], f.2)
    | some c =>
      let r := (f.2.setCell c { alloc := true, pool := Fin.ofNat 3 p }).pickCells p n
      (c :: r.1, r.2)

/-- Chain cells in order (R396). -/
def State.chainCells (s : State) : List Nat → State
  | [] => s
  | [_] => s
  | c :: d :: r => (s.setCell c { s.cell c with link := some d }).chainCells (d :: r)

/-- An allocation of `n` cells for a pool, whole or not at all (R396); the first cell on OK. -/
def State.allocCells (s : State) (p n : Nat) : Status × Nat × State :=
  let mx := fld (s.reg (aYD (0xC + p))) 17 0
  if n = 0 ∨ 64 < n then (.badarg, 0, s)
  else if (mx ≠ 0 ∧ mx < s.used p + n) ∨ s.yd.cellFree < n + s.poolNeed p then
    (.full, 0, (s.count (aYD 0x22)).occur 0x72)
  else
    let r := s.pickCells p n
    let c := r.1.headD 0
    let s1 := r.2.chainCells r.1
    let s2 := s1.setCell c { s1.cell c with first := true }
    let s3 := (s2.setUsed p (s2.used p + n)).modYd (fun y => { y with cellFree := y.cellFree - n })
    (.ok, c, (State.poolsChanged s s3).occurV 0x7E (wd (s3.headroom p)))

/-- The cells of a chain. -/
def State.chainOf (s : State) (c : Nat) : Nat → List Nat
  | 0 => []
  | n + 1 =>
    match (s.cell c).link with
    | none => [c]
    | some d => c :: s.chainOf d n

/-- The whole chain from its first cell. -/
def State.chain (s : State) (c : Nat) : List Nat := s.chainOf c (s.yd.cells.length + 1)

/-- Every cell of a chain returns to the free list, each to its own pool's count (R397). -/
def State.freeChain (s : State) (c : Nat) : State :=
  let t := (s.chain c).foldl (fun u d =>
    let p := (u.cell d).pool.val
    ((u.setUsed p (u.used p - 1)).modYd (fun y => { y with cellFree := y.cellFree + 1 })).setCell d {}) s
  State.poolsChanged s t

/-- CFREE (R398). -/
def State.cfree (s : State) (c : Nat) : Status × State :=
  let r := s.cell c
  if !r.alloc || !r.first then (.badarg, s)
  else if 0 < r.ref then (.busy, s)
  else (.ok, s.freeChain c)

/-- The last cell of the chain that begins at `n` and any cell before it: does cell `c` lie in it? -/
def State.inChain (s : State) (c n : Nat) : Bool := (s.chain n).contains c

/-- CLINK (R399). -/
def State.clink (s : State) (c n : Nat) : Status × State :=
  let a := s.cell c
  let b := s.cell n
  if a.alloc && decide (a.link = none) && b.alloc && b.first && decide (b.ref = 0) && !s.inChain c n then
    let s1 := s.setCell c { a with link := some n }
    (.ok, s1.setCell n { s1.cell n with first := false })
  else (.badarg, s)

/-! ### Octets in a chain (R395, R4) -/

/-- Word `i` of the data of a chain. -/
def chainWordAddr (l : List Nat) (i : Nat) : Nat := cellAddr (l.getD (i / 64) 0) + i % 64

/-- `n` octets of a chain's data from octet `i`. -/
def State.chainOctets (s : State) (c i n : Nat) : List Byte :=
  let l := s.chain c
  (upTo n).map (fun k => octetAt (fun w => s.mainWord (chainWordAddr l w)) (i + k))

/-- Write octets into a chain from word 0 on (R4). -/
def State.fillChain (s : State) (c : Nat) (data : List Byte) : State :=
  let l := s.chain c
  ((upTo ((data.length + 2) / 3)).zip (packOctets data)).foldl (fun u p => u.setMain (chainWordAddr l p.1) p.2) s

/-- Cells that hold `n` octets: 192 octets a cell. -/
def cellsFor (n : Nat) : Nat := (n + 191) / 192

end Sys2Proof.Machine
end

