-- ==== Sys2Proof/Machine/Wagons.lean ====
section
/-! DEFINITION. Wagons and wagon queues: the enqueue checks, acceptance, release and multicast accounting
(R392–R394, R397, R425–R429, R434, R755). -/

namespace Sys2Proof.Machine

/-- The class of W2: 0 TT, 1 PR, 2 BE, 3 BK (R32). -/
def clsOf (w2 : Word) : Nat := fld w2 1 0

/-- Octets of a frame: LEN + 4,096 × LENX (Table 09-1). -/
def wagonLen (w1 : Word) : Nat := fld w1 13 0

/-- The cell of a buffer address. -/
def bufCell (w0 : Word) : Nat := (w0.toNat - 0x400000) / 64

/-- W4–W5 as a short time. -/
def Wagon.time (w : Wagon) : Long := long w.w4 w.w5

def Wagon.timed (w : Wagon) : Bool := bit w.w1 18
def Wagon.keep (w : Wagon) : Bool := bit w.w1 17

def State.wagonsOf (s : State) (q : Nat) : List Wagon := mapGet (fun _ => []) s.yd.wagons q

/-- Set the wagons of a queue; a queue that is empty ends its runs of being passed over (R408). -/
def State.setWagons (s : State) (q : Nat) (l : List Wagon) : State :=
  s.modYd (fun y => { y with
    wagons := mapPut (fun _ => []) y.wagons q l,
    passed := if l.isEmpty then mapDrop (fun k => k % queueCount == q) y.passed else y.passed })

/-- Wagons held in all queues. -/
def State.wagonsHeld (s : State) : Nat := (s.yd.wagons.map (fun e => e.2.length)).sum

/-- YD_WAGFREE. -/
def State.wagFree (s : State) : Nat := 262144 - s.wagonsHeld

/-- Change the wagon numbered `id` of a queue. -/
def State.modWagon (s : State) (q id : Nat) (f : Wagon → Wagon) : State :=
  s.setWagons q ((s.wagonsOf q).map (fun w => if w.id = id then f w else w))

/-- A flush of the queue is in progress (R407). -/
def State.flushing (s : State) (q : Nat) : Bool := (s.wagonsOf q).any (fun w => w.flushed)

/-! ### Enqueue -/

/-- The numbers a request names, and the enables it needs (R755): none when it goes on. -/
def State.queueCheck (s : State) (q : Nat) : Option Status :=
  if queueCount ≤ q then some .badarg
  else if !s.yardOn then some .state
  else if !s.qEn q then some .state
  else none

/-- Order 2 of Table 09-2. -/
def State.wagonBad (s : State) (w : Wagon) : Bool :=
  let c := s.cell (bufCell w.w0)
  decide (fld w.w1 16 14 ≠ 0) || bit w.w1 19 || decide (fld w.w2 23 20 ≠ 0) || decide (fld w.w3 17 14 ≠ 0) ||
  decide (fld w.w0 5 0 ≠ 0) || decide (w.w0.toNat < 0x400000) || !s.managed (bufCell w.w0) || !c.alloc || !c.first ||
  decide (wagonLen w.w1 = 0) || decide (9216 < wagonLen w.w1) || decide (fld w.w3 19 18 = 3) ||
  (!bit w.w3 23 && decide (fld w.w3 22 18 ≠ 0 ∨ fld w.w3 13 0 ≠ 0))

/-- Order 3 of Table 09-2. -/
def nodeBad (q : Nat) (w : Wagon) : Bool :=
  decide (fld w.w1 13 12 ≠ 0) || decide (2047 < wagonLen w.w1) || decide (fld w.w2 19 2 ≠ q)

/-- The checks of an enqueue up to order 5 (R755, Table 09-2); a FULL names the occurrence that records it. -/
def State.enqCheck (s : State) (q : Nat) (w : Wagon) : Option (Status × Nat) :=
  match s.queueCheck q with
  | some st => some (st, 0)
  | none =>
    let l := s.wagonsOf q
    let lim := fld (s.reg (aQ q 1)) 17 0
    if s.qKind q ≠ 0 then some (.state, 0)
    else if s.flushing q then some (.busy, 0)
    else if s.wagonBad w then some (.badarg, 0)
    else if isNodeQueue q && nodeBad q w then some (.badarg, 0)
    else if isNodeQueue q && decide (clsOf w.w2 = 0) && l.any (fun v => decide (clsOf v.w2 ≠ 0)) then some (.state, 0)
    else if lim ≠ 0 ∧ lim ≤ l.length then some (.full, 0x70)
    else if s.wagFree = 0 ∨ (s.cell (bufCell w.w0)).ref = 127 then some (.full, 0x71)
    else none

/-- Count a refusal by its status (R393); `occ` is the occurrence of an order-5 FULL, 0 for none. -/
def State.countRefusal (s : State) (q : Nat) (st : Status) (occ : Nat) : State :=
  match st with
  | .full =>
    let s1 := (s.count (aYD 0x20)).count (aQ q 5)
    let s2 := if occ = 0 then s1 else s1.occur occ
    if s2.yd.fullTold then s2 else (s2.modYd (fun y => { y with fullTold := true })).raise 422
  | .state => if q < queueCount then (s.count (aYD 0x21)).occur 0x7B else s
  | _ => s

/-- An accepted wagon goes to the tail of its queue, with its stamp of acceptance (R394). -/
def State.placeWagon (s : State) (q : Nat) (w : Wagon) : State :=
  let l := s.wagonsOf q
  let c := bufCell w.w0
  let before := s.wagFree
  let s1 := s.setWagons q (l ++ [{ w with acc := s.shortTime, id := s.yd.nextId }])
  let s2 := (s1.setCell c { s1.cell c with ref := (s1.cell c).ref + 1 }).modYd (fun y => { y with nextId := y.nextId + 1 })
  let s3 := s2.queueEvent q l.isEmpty
  let low := fld (s.reg (aYD 7)) 18 0
  if low ≤ before ∧ s2.wagFree < low then s3.raise 419 else s3

/-- A wagon of its six words. -/
def mkWagon (w0 w1 w2 w3 w4 w5 : Word) : Wagon := { w0 := w0, w1 := w1, w2 := w2, w3 := w3, w4 := w4, w5 := w5, acc := 0 }

/-! ### Multicast (R425–R429) -/

def State.multicast (s : State) (m : Nat) : Option Multicast := mapGet (fun _ => none) s.yd.multicasts m
def State.setMulticast (s : State) (m : Nat) (r : Option Multicast) : State :=
  s.modYd (fun y => { y with multicasts := mapPut (fun _ => none) y.multicasts m r })

/-- The wagon of target `i` of a multicast: COPY = 1 and DEST its target (R425). -/
def Multicast.wagonFor (m : Multicast) (i q : Nat) (rec : Nat) : Wagon :=
  { mkWagon m.w0 (setBit m.w1 19 true) (setFld m.w2 19 2 q) m.w3 m.w4 m.w5 with copy := some (rec, i) }

/-- The checks of a copy: as its wagon before the yard set COPY. -/
def State.copyCheck (s : State) (q : Nat) (w : Wagon) : Option (Status × Nat) :=
  s.enqCheck q { w with w1 := setBit w.w1 19 false }

/-- The bitmap word `k` of targets that satisfy `f` (Table 09-6). -/
def mcBits (l : List McTarget) (f : McTarget → Bool) (k : Nat) : Word :=
  wd (((upTo 24).map (fun j =>
    match l[24 * k + j]? with
    | some t => if f t then 2 ^ (23 - j) else 0
    | none => 0)).sum)

/-- The completion item of a multicast (Table 09-6). -/
def Multicast.item (m : Multicast) : List Word :=
  let done := m.targets.all (fun t => t.delivered)
  [ wd ((if done then 0 else 11) * 2 ^ 20 + b2n m.second * 2 ^ 19 + m.targets.length * 2 ^ 12 + m.list), m.w0,
    mcBits m.targets (fun t => t.delivered) 0, mcBits m.targets (fun t => t.delivered) 1,
    mcBits m.targets (fun t => t.delivered) 2, mcBits m.targets (fun t => !t.admitted) 0,
    mcBits m.targets (fun t => !t.admitted) 1, mcBits m.targets (fun t => !t.admitted) 2 ]

/-- Offer the copies of a non-TT multicast to the targets from index `i` on that `f` names; each refusal is counted
and records #79 (R427). -/
def State.offerCopies (s : State) (rec : Nat) (m : Multicast) (f : McTarget → Bool) : Nat → List McTarget → List McTarget × State
  | _, [] => ([], s)
  | i, t :: r =>
    if !f t then
      let x := s.offerCopies rec m f (i + 1) r
      (t :: x.1, x.2)
    else
      let w := m.wagonFor i t.queue rec
      match s.copyCheck t.queue w with
      | some e =>
        let x := ((s.countRefusal t.queue e.1 e.2).occur 0x79).offerCopies rec m f (i + 1) r
        ({ t with admitted := false, out := false } :: x.1, x.2)
      | none =>
        let x := (s.placeWagon t.queue w).offerCopies rec m f (i + 1) r
        ({ t with admitted := true, out := true } :: x.1, x.2)

/-- Every copy of a multicast has been released: a further round (R429), or the item (R428). -/
def State.endRound (s : State) (rec : Nat) (m : Multicast) : State :=
  let finish := fun (s : State) (m : Multicast) =>
    let s1 := (s.setMulticast rec none).post m.cq m.item
    if m.targets.all (fun t => t.delivered) then s1 else s1.occur 0x7A
  if bit m.w1 20 && !m.second && !m.targets.all (fun t => t.delivered) then
    let m1 := { m with second := true }
    let x := s.offerCopies rec m1 (fun t => !t.delivered) 0 m.targets
    let m2 := { m1 with targets := x.1 }
    if x.1.any (fun t => t.out) then x.2.setMulticast rec (some m2) else finish x.2 m2
  else finish s m

/-- A copy has been released. -/
def State.copyReleased (s : State) (copy : Option (Nat × Nat)) (delivered : Bool) : State :=
  match copy with
  | none => s
  | some (rec, i) =>
    match s.multicast rec with
    | none => s
    | some m =>
      let upd := fun (t : McTarget) => { t with delivered := t.delivered || delivered, out := false }
      let m1 := { m with targets := m.targets.modify i upd }
      if m1.targets.any (fun t => t.out) then s.setMulticast rec (some m1) else s.endRound rec m1

/-! ### Release (R397, R434) -/

/-- A wagon that has left its queue is released: REF decrements, the multicast is told, and at REF = 0 a chain that
may go returns to the free list. -/
def State.releaseWagon (s : State) (w : Wagon) (delivered mayFree : Bool) : State :=
  let c := bufCell w.w0
  let s1 := s.setCell c { s.cell c with ref := (s.cell c).ref - 1 }
  let s2 := s1.copyReleased w.copy delivered
  if mayFree && !w.keep && decide ((s2.cell c).ref = 0) && (s2.cell c).alloc then s2.freeChain c else s2

/-- Take the wagon numbered `id` out of its queue. -/
def State.unqueue (s : State) (q id : Nat) : State :=
  s.setWagons q ((s.wagonsOf q).filter (fun w => w.id != id))

/-- A wagon whose attempt or sending has ended leaves its queue; a flushed one counts then (R407). -/
def State.endWagon (s : State) (q : Nat) (w : Wagon) (delivered : Bool) : State :=
  let s1 := (s.unqueue q w.id).releaseWagon w delivered true
  if w.flushed then (s1.count (aYD 0x29)).count (aQ q 6) else s1

/-- Count an uncorrectable error of a yard memory (R434). -/
def State.yardEcc (s : State) : State := ((s.count (aYD 0x28)).occur 0x7D).raise 421

/-- The reading of a wagon meets an uncorrectable error: it is removed without being sent (R434). -/
def State.eccRemove (s : State) (q : Nat) (w : Wagon) : State :=
  let s1 := (s.unqueue q w.id).yardEcc
  match w.ecc with
  | .w0Bad => (s1.setReg (aYD 0x2B) 0xFFFFFF).copyReleased w.copy false
  | _ => (s1.setReg (aYD 0x2B) w.w0).releaseWagon w false false

end Sys2Proof.Machine
end

