-- ==== Sys2Proof/Machine/SbLedger.lean ====
section
/-! DEFINITION. Editions, path times and occurrences, the claim ledger with TT admission, and completion items
(R251–R258, R279–R284). -/

namespace Sys2Proof.Machine

/-! ### Editions (Table 06-14) -/

/-- Register `o` of edition store `st`. -/
def aED (st o : Nat) : Nat := aSB (0x100 + 0x80 * st + o)

def State.edEdn (s : State) (st : Nat) : Nat := fld (s.reg (aED st 0)) 15 0
def State.edNpath (s : State) (st : Nat) : Nat := fld (s.reg (aED st 1)) 16 0
def State.edPlen (s : State) (st : Nat) : Nat := fld (s.reg (aED st 2)) 13 0
def State.edTxofs (s : State) (st : Nat) : Nat := fld (s.reg (aED st 3)) 13 0
def State.edBase (s : State) (st : Nat) : Nat := fld (s.reg (aED st 4)) 18 0
def State.edCount (s : State) (st : Nat) : Nat := fld (s.reg (aED st 5)) 19 0
def State.edTake (s : State) (st : Nat) : Nat := (long (s.reg (aED st 6)) (s.reg (aED st 7))).toNat
def State.edHopLen (s : State) (st : Nat) : Band → Nat
  | .a => fld (s.reg (aED st 8)) 8 0
  | .b => fld (s.reg (aED st 8)) 17 9

def State.storeState (s : State) (st : Nat) : StoreState := if st = 0 then s.sb.st0 else s.sb.st1

def State.setStore (s : State) (st : Nat) (x : StoreState) : State :=
  s.modSb (fun b => if st = 0 then { b with st0 := x } else { b with st1 := x })

/-- The store in a given state. -/
def State.storeIn (s : State) (x : StoreState) : Option Nat :=
  if s.sb.st0 = x then some 0 else if s.sb.st1 = x then some 1 else none

/-- The edition that owns path `n` (R252): the pending one from its TAKE on, otherwise the active one. -/
def State.owner (s : State) (n : Nat) : Option Nat :=
  match s.storeIn .pending with
  | some p => if s.edTake p ≤ n then some p else s.storeIn .active
  | none => s.storeIn .active

/-- The words of a cell (R255). -/
def State.sbCell (s : State) (i w : Nat) : Word := mapGet zeroWord s.sb.cells (2 * i + w)

/-- The cells of an edition, in cell order. -/
def State.edCells (s : State) (st : Nat) : List Nat := (upTo (s.edCount st)).map (fun i => s.edBase st + i)

def cellType (w0 : Word) : Nat := fld w0 23 21
def cellBand (w0 : Word) : Band := if bit w0 20 then .b else .a
def cellTarget (w0 : Word) : Nat := fld w0 17 0
def cellPath (w1 : Word) : Nat := fld w1 23 8

/-- A TX cell of node `h` with TT = 1, or with `retry` a RETRY cell of it too. -/
def State.ttCell (s : State) (h : Nat) (retry : Bool) (i : Nat) : Bool :=
  let w := s.sbCell i 0
  decide (cellTarget w = h) && ((decide (cellType w = 1) && bit w 19) || (retry && decide (cellType w = 6)))

/-! ### Path times (R252) -/

/-- The span of `n` units of 5 µs, 1,250 station ticks each. -/
def State.span5 (s : State) (n : Nat) : Nat := s.ticks (1250 * n)

/-- The span of `n` µs. -/
def State.spanUs (s : State) (n : Nat) : Nat := s.ticks (250 * n)

/-- PLEN of a store, as a span. -/
def State.plenSpan (s : State) (st : Option Nat) : Nat :=
  match st with
  | some e => s.span5 (s.edPlen e)
  | none => 0

/-- B(n) of a path not before the present one, as network time (R252). -/
def State.pathStart (s : State) (n : Nat) : Nat :=
  let act := s.plenSpan (s.storeIn .active)
  match s.storeIn .pending with
  | some p =>
    let t := max s.sb.asn (s.edTake p)
    if n ≤ t then s.sb.bTime + (n - s.sb.asn) * act
    else s.sb.bTime + (t - s.sb.asn) * act + (n - t) * s.plenSpan (some p)
  | none => s.sb.bTime + (n - s.sb.asn) * act

/-- The first path, not before the present one, that starts at or after network time `t`. -/
def State.firstPathFrom (s : State) (t : Nat) : Nat :=
  let act := s.plenSpan (s.storeIn .active)
  let a := s.sb.asn + ceilDiv (t - s.sb.bTime) act
  match s.storeIn .pending with
  | some p =>
    let k := max s.sb.asn (s.edTake p)
    if t ≤ s.pathStart k then (if k = s.sb.asn then k else min a k)
    else k + ceilDiv (t - s.pathStart k) (s.plenSpan (some p))
  | none => a

/-- SB_THLIM in µs. -/
def State.thlim (s : State) : Nat := min (fld (s.reg (aSB 0x10)) 13 0) 8388

/-! ### Occurrences (Table 06-2) -/

/-- The first path at or after `lo` with index `p` of an edition (R253). -/
def nextPath (take npath p lo : Nat) : Nat :=
  let n := max npath 1
  lo + (p % n + n - (lo - take) % n) % n

/-- The first occurrences, at or after path `lo`, of the cells of store `st` that `f` names. -/
def State.nextIn (s : State) (st : Nat) (f : Nat → Bool) (lo : Nat) : List Nat :=
  let l := max lo (s.edTake st)
  ((s.edCells st).filter f).map (fun i => nextPath (s.edTake st) (s.edNpath st) (cellPath (s.sbCell i 1)) l)

def listMin : List Nat → Option Nat
  | [] => none
  | x :: r =>
    match listMin r with
    | none => some x
    | some y => some (min x y)

/-- The first occurrence at or after path `lo` of a cell that `f` names, in the active edition or, from its TAKE on,
the pending one (R279). -/
def State.nextOcc (s : State) (f : Nat → Bool) (lo : Nat) : Option Nat :=
  let a := match s.storeIn .active with
    | some e => s.nextIn e f lo
    | none => []
  match s.storeIn .pending with
  | some p => listMin (a.filter (fun n => decide (n < s.edTake p)) ++ s.nextIn p f lo)
  | none => listMin a

/-- The next `r` TT-capable occurrences of node `h` at or after path `lo`, in later paths each (DEDUCED, log 21). -/
def State.retryOccs (s : State) (h lo : Nat) : Nat → List Nat
  | 0 => []
  | r + 1 =>
    match s.nextOcc (s.ttCell h true) lo with
    | none => []
    | some n => n :: s.retryOccs h (n + 1) r

/-! ### The claim ledger (R279, R280) -/

def State.front (s : State) (h : Nat) : Option Nat := mapGet (fun _ => none) s.sb.ledger h

/-- SB_MAXFRONT: the highest valid FRONT, 0 when there is none. -/
def State.maxFront (s : State) : Nat := s.sb.ledger.foldl (fun n e => max n (e.2.getD 0)) 0

/-- The outcome of TT admission at the present time (R279): OK with the ASNs claimed. -/
def State.ttAdmission (s : State) (h r : Nat) : Status × List Nat :=
  if s.sb.state ≠ .running ∨ s.sb.drain = true then (.state, [])
  else
    match s.owner s.sb.asn with
    | none => (.state, [])
    | some e =>
      let deadline := s.sc.time + s.edNpath e * s.span5 (s.edPlen e) * (r + 1)
      let bound := s.sc.time + s.span5 (s.edPlen e) + s.spanUs (s.thlim + 200)
      let lo := match s.front h with
        | some f => max (f + 1) (s.firstPathFrom bound)
        | none => s.firstPathFrom bound
      match s.nextOcc (s.ttCell h false) lo with
      | none => (.absent, [])
      | some o0 =>
        let l := s.retryOccs h (o0 + 1) r
        if l.length < r ∨ deadline ≤ s.pathStart (l.getLastD o0 + 1) + s.spanUs 40 then (.full, [])
        else (.ok, o0 :: l)

/-- Count a refused admission (R280); the first since SB_ADMFULL was read raises event 69. -/
def State.refuseAdmission (s : State) (st : Status) : State :=
  let s1 := match st with
    | .full => (s.count (aSB 0x45)).occur 0x42
    | _ => (s.count (aSB 0x46)).occur 0x43
  if s1.sb.admTold then s1 else (s1.modSb (fun b => { b with admTold := true })).raise 69

/-- An admission takes effect: FRONT(h) becomes the last ASN claimed. -/
def State.claim (s : State) (h : Nat) (asns : List Nat) : State :=
  s.modSb (fun b => { b with ledger := mapPut (fun _ => none) b.ledger h (some (asns.getLastD 0)) })

/-- The wagon with its reservation: W4–W5 is B of the first path claimed. -/
def State.reserved (s : State) (w : Wagon) (asns : List Nat) : Wagon :=
  let t := shortOf (s.pathStart (asns.headD 0))
  { w with w4 := hiWord t, w5 := loWord t, claims := asns }

/-! ### Completion items (Table 06-9) -/

/-- EPS when there is none. -/
def noEps : BitVec 12 := 0x800

/-- A completion item. -/
structure SbItem where
  status : Status
  att : Nat := 0
  final : Bool := false
  cls : Nat := 0
  kind : Nat
  lqi : Byte := 0
  handle : Nat
  buf : Word := 0
  asn : Nat
  tact : Long := 0
  theta : Int := 0
  eps : BitVec 12 := 0x800
  tpc : Bool := false
deriving DecidableEq, Repr

def SbItem.words (x : SbItem) : List Word :=
  [ wd (stCode x.status * 2 ^ 20 + x.att % 8 * 2 ^ 17 + b2n x.final * 2 ^ 16 + x.cls % 4 * 2 ^ 14 +
      x.kind % 4 * 2 ^ 12 + x.lqi.toNat),
    wd (x.handle % 2 ^ 18), x.buf, wd x.asn, hiWord x.tact, loWord x.tact, BitVec.ofInt 24 x.theta,
    wd (x.eps.toNat * 2 ^ 12 + b2n x.tpc * 2 ^ 11) ]

/-- Post a completion item to SB_CQ (R283). -/
def State.postItem (s : State) (x : SbItem) : State := s.post (fld (s.reg (aSB 0x12)) 17 0) x.words

/-! ### Ledger view -/

/-- ATT of a node: the attempts made of its head TT wagon. -/
def State.ledgerAtt (s : State) (h : Nat) : Nat :=
  match s.wagonsOf h with
  | w :: _ => if clsOf w.w2 = 0 then w.att % 8 else 0
  | [] => 0

end Sys2Proof.Machine
end

