-- ==== Sys2Proof/Machine/LaneOps.lean ====
section
/-! DEFINITION. Receive lanes: channels, binding, the end of a frame, and the LN registers (R178–R227). -/

namespace Sys2Proof.Machine

/-! ### Registers -/

/-- Register `o` of lane `n`. -/
def aLane (n o : Nat) : Nat := aLN (0x20 * n + o)

/-- Word `o` of the channel entry of channel `c` (R225). -/
def aCh (bd : Band) (c o : Nat) : Nat := aLN (0x20 * c + 0xC + 8 * bd.idx + o)

def State.chCfg (s : State) (bd : Band) (c : Nat) : Word := s.reg (aCh bd c 0)
def State.chFofs (s : State) (bd : Band) (c : Nat) : Int := signed 24 (s.reg (aCh bd c 1)).toNat

/-- CH_EXP.EXP and CONS. -/
def State.chExp (s : State) (bd : Band) (c : Nat) : Bool := bit (s.reg (aCh bd c 3)) 23
def State.chCons (s : State) (bd : Band) (c : Nat) : Bool := bit (s.reg (aCh bd c 3)) 22

/-- The width of a channel in units of 10 Hz; 0 where it is reserved (Table 04-1). -/
def widthOf (code : Nat) : Nat :=
  match code with
  | 0 => 20000 | 1 => 40000 | 2 => 60000 | 3 => 80000 | 4 => 120000 | 5 => 200000 | _ => 0

/-- Does a width carry the SUN-FSK mode (Tables 04-1 and 04-2)? -/
def widthFsk (width fskm : Nat) : Bool :=
  match fskm with
  | 0 | 1 => decide (width = 0)
  | 2 | 3 | 4 => decide (width = 1)
  | 5 | 6 => decide (width = 2)
  | _ => false

/-- The SUN-OFDM option of a width. -/
def widthOfdm (width : Nat) : Option Nat :=
  match width with
  | 0 => some 4 | 1 => some 3 | 3 => some 2 | 4 => some 1 | _ => none

/-! ### Lanes -/

def State.lane (s : State) (n : Nat) : LaneRec := mapGet (fun _ => {}) s.lanes.lanes n
def State.setLane (s : State) (n : Nat) (x : LaneRec) : State :=
  s.modLanes (fun l => { l with lanes := mapPut (fun _ => {}) l.lanes n x })

/-- Raise `e` if it is the first since the counter of key `k` was read. -/
def State.laneTold (s : State) (k e : Nat) : State :=
  if mapGet (fun _ => false) s.lanes.told k then s
  else (s.modLanes (fun l => { l with told := mapPut (fun _ => false) l.told k true })).raise e

def State.laneUntold (s : State) (k : Nat) : State :=
  s.modLanes (fun l => { l with told := mapPut (fun _ => false) l.told k false })

def State.laneEn (s : State) (n : Nat) : Bool := bit (s.reg (aLane n 0)) 23

/-- A lane that a detection may bind (R194). -/
def State.laneFree (s : State) (n : Nat) : Bool :=
  s.on (dLANES n) && s.laneEn n && decide ((s.lane n).state = .free)

/-- FREE. -/
def State.freeLanes (s : State) : Nat := ((upTo 512).filter (fun n => s.laneFree n)).length

/-- HELD. -/
def State.heldLanes (s : State) : Nat :=
  ((upTo 256).filter (fun c => s.chExp .a c && !s.chCons .a c)).length +
    ((upTo 256).filter (fun c => s.chExp .b c && !s.chCons .b c)).length

/-- Lanes that are bound or drain, lowest first. -/
def State.busyLanes (s : State) : List (Nat × LaneRec) := s.lanes.lanes.filter (fun e => decide (e.2.state ≠ .free))

/-- The lanes bound to a channel. -/
def State.lanesOn (s : State) (bd : Band) (c : BitVec 8) : List (Nat × LaneRec) :=
  s.busyLanes.filter (fun e => decide (e.2.band = bd) && decide (e.2.chan = c))

/-- Every lane of group `g` has EN = 0 and is not bound (Table 04-17). -/
def State.groupQuiet (s : State) (g : Nat) : Bool :=
  (upTo 16).all (fun i => !s.laneEn (16 * g + i) && decide ((s.lane (16 * g + i)).state = .free))

/-- Event 224 + g when lane `n`'s group has become quiet between `s` and `t`. -/
def State.laneChanged (s t : State) (n : Nat) : State :=
  let g := n / 16
  if !s.groupQuiet g && t.groupQuiet g then t.raise (224 + g) else t

/-- A lane is freed. -/
def State.freeLane (s : State) (n : Nat) : State := s.laneChanged (s.setLane n {}) n

/-! ### The end of a frame -/

/-- The cells of a frame return. -/
def State.dropCells (s : State) (n : Nat) : State :=
  match (s.lane n).cell with
  | none => s
  | some c => (s.setLane n { s.lane n with cell := none }).freeChain c

/-- A frame ends at once with STATUS = STATE (R217); a lane without a PHR has no report and is freed. -/
def State.endLane (s : State) (n cause : Nat) : State :=
  let x := s.lane n
  if x.state = .free ∨ x.ended.isSome = true then s
  else
    let t := s.occur 0x38
    match x.phr with
    | none => t.freeLane n
    | some _ => (t.setLane n { x with state := .drain, ended := some (.state, cause), codewords := 0 }).dropCells n

/-- Every frame of a band ends (R217). -/
def State.endLanes (s : State) (bd : Band) (cause : Nat) : State :=
  (s.busyLanes.filter (fun e => decide (e.2.band = bd))).foldl (fun t e => t.endLane e.1 cause) s

/-! ### LW-OFDM blocks (R204, Table 04-5) -/

/-- Bits of a codeword and of its information, by CL and RATE. -/
def codeBits (cl : Nat) : Nat :=
  match cl with
  | 0 => 576 | 1 => 1152 | 2 => 2304 | _ => 0

def infoBits (cl rate : Nat) : Nat :=
  match rate with
  | 0 => codeBits cl / 2 | 1 => codeBits cl * 2 / 3 | 2 => codeBits cl * 3 / 4 | _ => codeBits cl * 5 / 6

/-- Codewords of a PSDU. -/
def codewordsOf (len cl rate : Nat) : Nat := (8 * len + infoBits cl rate - 1) / max (infoBits cl rate) 1

/-- The loading code of group `g` in 72 bits, group 0 first. -/
def mapCode (m : BitVec 72) (g : Nat) : Nat := m.toNat / 2 ^ (69 - 3 * g) % 8

/-- Bits of a subcarrier by its code: 0 off, BPSK, QPSK, 16-QAM, 64-QAM. -/
def loadBits (code : Nat) : Nat :=
  match code with
  | 1 => 1 | 2 => 2 | 3 => 4 | 4 => 6 | _ => 0

/-- Coded bits of a symbol. -/
def symbolBits (m : BitVec 72) : Nat := ((upTo 24).map (fun g => 8 * loadBits (mapCode m g))).sum

/-- The map codes are not reserved, and some group is on. -/
def mapOk (m : BitVec 72) : Bool := (upTo 24).all (fun g => decide (mapCode m g < 5)) && decide (symbolBits m ≠ 0)

/-! ### CH_CFG and CH_FOFS (R180, R181) -/

/-- FE_WIN and a channel offset give a band that stays within ±78 MHz of the window's centre; units of 10 Hz. -/
def inWindow (ofs : Int) (width : Nat) : Bool :=
  decide (-7800000 ≤ ofs - (width / 2 : Nat)) && decide (ofs + (width / 2 : Nat) ≤ 7800000)

/-- R180: the value may not be stored. -/
def State.chBad (s : State) (bd : Band) (c : Nat) (v : Word) : Bool :=
  let w := fld v 22 20
  decide (5 < w) || (bit v 16 && (decide (2 < w) || !widthFsk w (fld v 15 13))) || (bit v 17 && (widthOfdm w).isNone) ||
    (bit v 18 && (decide (w ≠ 5) || decide (bd = .a))) || (bit v 19 && decide (w ≠ 5)) ||
    (bit v 23 && !inWindow (s.chFofs bd c) (widthOf w))

/-- A store to CH_CFG or CH_FOFS. -/
def State.chStore (s : State) (bd : Band) (c o : Nat) (v : Word) : Status × State :=
  let old := s.chCfg bd c
  let m : Word := 0xFFFE00
  if o = 0 ∧ v &&& m = setBit old 23 false ∧ bit old 23 = true then (.ok, s.setReg (aCh bd c 0) (v &&& m))
  else if bit old 23 || !(s.lanesOn bd (BitVec.ofNat 8 c)).isEmpty then (.busy, s)
  else if o = 0 ∧ s.chBad bd c v = true then (.badarg, s)
  else (.ok, s.plainWrite (aCh bd c o) v)

/-! ### The block -/

/-- The channel entry word an offset of the LN block names: band, channel and word. -/
def chOfs (o : Nat) : Option (Band × Nat × Nat) :=
  let k := o % 0x20
  if o < 0x2000 ∧ 0xC ≤ k ∧ k < 0x13 then some (.a, o / 0x20, k - 0xC)
  else if o < 0x2000 ∧ 0x14 ≤ k ∧ k < 0x1B then some (.b, o / 0x20, k - 0x14)
  else none

/-- A store to the LN block. -/
def State.lnWrite (s : State) (a : Nat) (v : Word) : Status × State :=
  let o := a - blk 3
  match chOfs o with
  | some (bd, c, k) => if k < 2 then s.chStore bd c k v else (.ok, s.plainWrite a v)
  | none =>
    if o % 0x20 = 0 then
      let n := o / 0x20
      let t := s.plainWrite a v
      (.ok, s.laneChanged (if bit v 22 then t.endLane n 7 else t) n)
    else (.ok, s.plainWrite a v)

/-- LN_LSTAT. -/
def State.laneStat (s : State) (n : Nat) : Word :=
  let x := s.lane n
  let st := match x.state with
    | .free => if s.laneEn n then 0 else 3
    | .bound => 1
    | .drain => 2
  wd (st * 2 ^ 22 + b2n x.res * 2 ^ 21 + x.band.idx * 2 ^ 20 + x.chan.toNat * 2 ^ 12 + x.fam.val * 2 ^ 10)

/-- The chains that combine: CHEN, without TXHOLD and OVERLOAD (R199). TXHOLD is CUR = 1 + k (R156). -/
def State.chainOn (s : State) (bd : Band) (k : Nat) : Bool :=
  bit (s.reg (aFE bd 0)) k && !bit (s.reg (aFE bd (0x10 + k))) 23 && decide (fld (s.reg (aTX bd 3)) 18 16 ≠ 1 + k)

/-- LDPC codewords waiting or being decoded. -/
def State.codewords (s : State) : Nat := (s.lanes.lanes.map (fun e => e.2.codewords)).sum

/-- LN_LSIG: the live RSSI is a free value (log 9). -/
def State.laneSig (s : State) (n : Nat) : Word × State :=
  let f := s.take
  let x := s.lane n
  (wd (f.1 % 256 * 2 ^ 16 + ((upTo 4).map (fun k => b2n (s.chainOn x.band k) * 2 ^ k)).sum), f.2)

/-- The counter whose read lets an event of Table 04-17 be raised again: its key in `told`. -/
def toldKey (o : Nat) : Option Nat :=
  if o = 0x11C then some 200
  else if o = 0x11D then some 201
  else if o = 0x13C then some 202
  else if o = 0x13D then some 203
  else if o = 0x17C then some 204
  else if 0xDC ≤ o ∧ o < 0xE0 then some (1640 + (o - 0xDC))
  else if 0xFC ≤ o ∧ o < 0x100 then some (1644 + (o - 0xFC))
  else none

/-- A load from the LN block. -/
def State.lnRead (s : State) (a : Nat) : Word × State :=
  let o := a - blk 3
  if o % 0x20 = 1 then (s.laneStat (o / 0x20), s)
  else if o % 0x20 = 4 then (if (s.lane (o / 0x20)).state = .free then (0, s) else s.laneSig (o / 0x20))
  else if o = 0x1D then (wd (s.heldLanes * 2 ^ 10 + s.freeLanes), s)
  else if o = 0x7F then (wd (min s.codewords 32 * 2 ^ 8 + min (s.codewords - 32) 255), s)
  else
    match toldKey o with
    | some k => (s.plainRead a).map id (fun t => t.laneUntold k)
    | none => s.plainRead a

end Sys2Proof.Machine
end

