-- ==== Sys2Proof/Machine/Region.lean ====
section
/-! DEFINITION. The front end of a band: the region record and its accumulators (R164–R173, Tables 03-6 and 03-7). -/

namespace Sys2Proof.Machine

def State.radio (s : State) : Band → Radio
  | .a => s.fe.a
  | .b => s.fe.b

def State.setRadio (s : State) (bd : Band) (x : Radio) : State :=
  match bd with
  | .a => s.modFe (fun f => { f with a := x })
  | .b => s.modFe (fun f => { f with b := x })

def State.modRadio (s : State) (bd : Band) (f : Radio → Radio) : State := s.setRadio bd (f (s.radio bd))

/-- The life-cycle state refuses every launch: BLANK and DECOMMISSIONED (R169, Table 11-1). -/
def State.silenced (s : State) : Bool := decide (s.kv.life = 0) || decide (s.kv.life = 5)

/-- The signal box runs an edition (DEDUCED, log 24: RUNNING or STALLED). -/
def State.sbRuns (s : State) : Bool := decide (s.sb.state = .running) || decide (s.sb.state = .stalled)

/-! ### The region record (R164–R168) -/

/-- Word `i` of copy `k`. -/
def State.copyWord (s : State) (k i : Nat) : Word := mapGet zeroWord s.fe.copies (128 * k + i)

/-- CRC-32 of words 0 to 125, packed by R4. -/
def recordCrc (f : Nat → Word) : BitVec 32 := crc32Of ((upTo 378).map (octetAt f))

/-- The CRC as its two words. -/
def crcHi (c : BitVec 32) : Word := wd (c.toNat / 2 ^ 24)
def crcLo (c : BitVec 32) : Word := wd (c.toNat % 2 ^ 24)

/-- A copy is valid. -/
def State.copyOk (s : State) (k : Nat) : Bool :=
  let c := recordCrc (s.copyWord k)
  decide (fld (s.copyWord k 126) 7 0 = (crcHi c).toNat) && decide (s.copyWord k 127 = crcLo c)

def State.copySeq (s : State) (k : Nat) : Nat := (s.copyWord k 1).toNat

/-- The valid copy with the higher SEQ (R164). -/
def State.bestCopy (s : State) : Option Nat :=
  match s.copyOk 0, s.copyOk 1 with
  | true, true => some (if s.copySeq 0 < s.copySeq 1 then 1 else 0)
  | true, false => some 0
  | false, true => some 1
  | false, false => none

/-- A field of the record in force of a band, by offset from its part. -/
def State.rgn (s : State) (bd : Band) (o : Nat) : Word := mapGet zeroWord (s.radio bd).part o

/-- The words of a band's part, 0 ones left out. -/
def State.partOf (s : State) (bd : Band) (k : Nat) : SMap Word :=
  ((upTo 62).map (fun i => (i, s.copyWord k ((if bd = .a then 2 else 64) + i)))).filter (fun e => decide (e.2 ≠ 0))

/-! ### Accumulators (R170) -/

/-- The accumulator of an index in a map. -/
def accAt (m : SMap Accum) (k : Nat) : Accum := mapGet (fun _ => {}) m k

def Accum.sum (x : Accum) : Nat := x.buckets.sum

/-- Airtime into the current bucket. -/
def Accum.plus (x : Accum) (n : Nat) : Accum :=
  match x.buckets with
  | [] => { x with buckets := [n] }
  | b :: r => { x with buckets := (b + n) :: r }

/-- The whole total into the current bucket (R168). -/
def Accum.gather (x : Accum) : Accum := { x with buckets := if x.sum = 0 then [] else [x.sum] }

/-- The next bucket begins; of the rest, 128 stay. -/
def Accum.roll (x : Accum) (at_ : Nat) : Accum :=
  let l := x.buckets.take 128
  { buckets := if l.sum = 0 then [] else 0 :: l, since := at_ }

/-- The length of a bucket of window `w` ms, in core cycles. -/
def bucketLen (w : Nat) : Nat := max ((w + 127) / 128) 1 * cycMs

/-- The window of an accumulator, in ms. -/
def State.accWindow (s : State) (bd : Band) : AccId → Nat
  | .dwell _ => (s.rgn bd 1).toNat
  | .duty g => (s.rgn bd (11 + 4 * g.val)).toNat

def State.accum (s : State) (bd : Band) : AccId → Accum
  | .dwell c => accAt (s.radio bd).dwell c.toNat
  | .duty g => accAt (s.radio bd).duty g.val

def State.setAccum (s : State) (bd : Band) (i : AccId) (x : Accum) : State :=
  s.modRadio bd (fun r =>
    match i with
    | .dwell c => { r with dwell := mapPut (fun _ => {}) r.dwell c.toNat x }
    | .duty g => { r with duty := mapPut (fun _ => {}) r.duty g.val x })

/-- DUTY of a group. -/
def State.dutyLimit (s : State) (bd : Band) (g : Nat) : Nat := (s.rgn bd (10 + 4 * g)).toNat

/-- A duty sum is past 90 % of its limit. -/
def State.dutyHigh (s : State) (bd : Band) (g : Fin 8) : Bool :=
  decide (s.dutyLimit bd g.val ≠ 0) && decide (9 * s.dutyLimit bd g.val < 10 * (s.accum bd (.duty g)).sum)

/-- Events 314 and 315, once per crossing (Table 03-14). -/
def State.dutyCross (s : State) (bd : Band) (g : Fin 8) : State :=
  let told := mapGet (fun _ => false) (s.radio bd).dutyTold g.val
  let high := s.dutyHigh bd g
  let t := s.modRadio bd (fun r => { r with dutyTold := mapPut (fun _ => false) r.dutyTold g.val high })
  if high && !told then t.raise (314 + bd.idx) else t

/-! ### Loading the record -/

/-- A band takes its part of the record; accumulators whose window changes gather (R168). -/
def State.loadRegion (s : State) (bd : Band) : State :=
  let old := s.radio bd
  let part := match s.bestCopy with
    | some k => s.partOf bd k
    | none => []
  let region := match s.bestCopy with
    | some k => fld (s.copyWord k 0) 23 20
    | none => 0
  let same := fun (o : Nat) => decide (mapGet zeroWord old.part o = mapGet zeroWord part o)
  let r : Radio :=
    { old with
        part := part, region := region, regionOk := s.bestCopy.isSome,
        dwell := if same 1 then old.dwell else old.dwell.map (fun e => (e.1, e.2.gather)),
        duty := old.duty.map (fun e => if same (11 + 4 * e.1) then e else (e.1, e.2.gather)) }
  let w := s.reg (aFER 0xF000)
  (s.setRadio bd r).setReg (aFER 0xF000)
    (wd (b2n s.bestCopy.isSome * 2 ^ 23 + fld w 22 20 * 2 ^ 20 + region * 2 ^ 16 +
      (match s.bestCopy with
        | some k => s.copySeq k % 2 ^ 16
        | none => 0)))

/-- A committed record takes effect on the bands that are powered (R167). -/
def State.regionInForce (s : State) : State :=
  let t := s.modFe (fun f => { f with rgnPend := false })
  [Band.a, Band.b].foldl (fun u bd => if u.on (dRX bd) || u.on (dTX bd) then u.loadRegion bd else u) t

/-- The older copy (R166). -/
def State.olderCopy (s : State) : Nat :=
  match s.bestCopy with
  | some k => 1 - k
  | none => 0

/-- The words a commit writes: staging words with SEQ + 1, the CRC last. -/
def State.commitWords (s : State) : List Word :=
  let seq := match s.bestCopy with
    | some k => s.copySeq k + 1
    | none => 1
  let f := fun (i : Nat) => if i = 1 then wd seq else mapGet zeroWord s.fe.staging i
  let c := recordCrc f
  (upTo 126).map f ++ [crcHi c, crcLo c]

/-- A commit completes (R166, R167). -/
def State.commitDone (s : State) : State :=
  let k := s.olderCopy
  let t := ((upTo 128).zip s.commitWords).foldl
    (fun (u : State) e => u.modFe (fun f => { f with copies := mapPut zeroWord f.copies (128 * k + e.1) e.2 })) s
  let t1 := (t.modFe (fun f => { f with committing := false })).setRegFld (aFER 0xF000) 22 21 0
  if t1.sbRuns then t1.modFe (fun f => { f with rgnPend := true }) else t1.regionInForce

/-- A commit ignored (R165, R166). -/
def State.commitRefused (s : State) : State := (s.setRegFld (aFER 0xF000) 21 21 1).occur 0x29

/-- A write of FE_RGN_COMMIT. -/
def State.rgnCommit (s : State) (v : Word) : State :=
  if !bit v 0 then s
  else if s.fe.committing then s.commitRefused
  else if s.kv.life = 1 ∨ s.kv.life = 2 ∨ s.kv.life = 4 then
    (s.modFe (fun f => { f with committing := true })).setRegFld (aFER 0xF000) 22 22 1
  else s.commitRefused

def State.rgnAddr (s : State) : Nat := fld (s.reg (aFER 0xF001)) 6 0
def State.rgnNext (s : State) : State := s.setReg (aFER 0xF001) (wd ((s.rgnAddr + 1) % 128))

end Sys2Proof.Machine
end

