-- ==== Sys2Proof/Machine/YardSched.lean ====
section
/-! DEFINITION. Credit shapers and gate lists (R408–R418). -/

namespace Sys2Proof.Machine

/-! ### Shapers -/

def State.shaper (s : State) (n : Nat) : Shaper := mapGet (fun _ => {}) s.yd.shapers n
def State.setShaper (s : State) (n : Nat) (x : Shaper) : State :=
  s.modYd (fun y => { y with shapers := mapPut (fun _ => {}) y.shapers n x })

/-- The shaper a queue is bound to (R411). -/
def State.boundShaper (s : State) (q : Nat) : Option Nat :=
  let c := s.qctl q
  if bit c 20 then some (fld c 19 6) else none

/-- The shaper allows the queue's head: SHEN = 0, or credit at or above 0. -/
def State.shaperOpen (s : State) (q : Nat) : Bool :=
  match s.boundShaper q with
  | none => true
  | some n => decide (0 ≤ (s.shaper n).credit)

/-- One refill tick of a shaper, in the order of R413; `busy` says that a frame bound to it was being sent during
the interval (R411). -/
def Shaper.tick (x : Shaper) (busy : Bool) : Shaper :=
  let idle := x.newIdle.getD x.idle
  let send := x.newSend.getD x.send
  let burst := x.newBurst.getD x.burst
  let c0 := x.newCredit.getD x.credit
  let c1 := min c0 (burst : Int)
  let c2 := if busy then c1 - (send : Int) else min (c1 + (idle : Int)) (burst : Int)
  { idle := idle, send := send, burst := burst, credit := max c2 (-8388608) }

/-- A frame of a queue begins to be sent (R412). -/
def State.sendBegins (s : State) (q : Nat) : State :=
  s.modYd (fun y => { y with sending := q :: y.sending, sentSince := q :: y.sentSince })

/-- A frame of a queue has been sent. -/
def State.sendEnds (s : State) (q : Nat) : State := s.modYd (fun y => { y with sending := y.sending.erase q })

/-! ### Gate lists -/

/-- Short-time units of a refill tick as a fraction: 1.024 µs is 2^33 / 1,953,125 units of 2^-32 s. -/
def tickNum : Nat := 2 ^ 33
def tickDen : Nat := 1953125

def State.gate (s : State) (e : Nat) : GateList := mapGet (fun _ => {}) s.yd.gates e
def State.setGate (s : State) (e : Nat) (g : GateList) : State :=
  s.modYd (fun y => { y with gates := mapPut (fun _ => {}) y.gates e g })

/-- The interval of an entry, in refill ticks (R414). -/
def gateLen (w : Word) : Nat := fld w 19 0

/-- Is the gate of class `c` open in an entry? -/
def gateBit (w : Word) (c : Nat) : Bool := bit w (23 - c)

/-- The entries of a list. -/
def listWords (m : SMap Word) (n : Nat) : List Word := (upTo n).map (fun i => mapGet zeroWord m i)

/-- A list's cycle, in refill ticks. -/
def cycleOf (l : List Word) : Nat := (l.map gateLen).sum

/-- Whole refill ticks in a span of short time. -/
def ticksIn (d : Nat) : Nat := d * tickDen / tickNum

/-- The index of the entry in force `p` ticks into the cycle, with the ticks left of it. -/
def entryAt : List Word → Nat → Nat → Nat × Nat
  | [], i, _ => (i, 0)
  | w :: r, i, p => if p < gateLen w then (i, gateLen w - p) else entryAt r (i + 1) (p - gateLen w)

/-- The entry of list `l` with base `t0` in force at short time `t`, and the ticks left of it (R417). -/
def inForce (l : List Word) (t0 t : Long) : Nat × Nat :=
  entryAt l 0 (ticksIn (t - t0).toNat % max (cycleOf l) 1)

/-- The gate of class `c` at an egress is open at short time `t`, by the active list. -/
def GateList.openAt (g : GateList) (c : Nat) (t : Long) : Bool :=
  let l := listWords g.active g.entries
  if l.isEmpty then true else gateBit (l.getD (inForce l g.start t).1 0) c

/-- As `openAt`, an armed take-over whose T falls at or before `t` counted (R410). -/
def GateList.openAtArmed (g : GateList) (nent : Nat) (c : Nat) (t : Long) : Bool :=
  match g.armed with
  | some a =>
    if after a t then g.openAt c t
    else
      let l := listWords g.pend nent
      if l.isEmpty then true else gateBit (l.getD (inForce l a t).1 0) c
  | none => g.openAt c t

/-- Ticks of the run of consecutive open entries after entry `i`, at most `n` entries on. -/
def openRun (l : List Word) (c i : Nat) : Nat → Nat
  | 0 => 0
  | n + 1 =>
    let w := l.getD ((i + 1) % max l.length 1) 0
    if gateBit w c then gateLen w + openRun l c (i + 1) n else 0

/-- How long from short time `t` until the gate of class `c` closes, by its list or by an armed T, in units of
1/tickDen of a short-time unit (R418); none when it never does. -/
def GateList.closesIn (g : GateList) (c : Nat) (t : Long) : Option Nat :=
  let l := listWords g.active g.entries
  let byArm := g.armed.map (fun a => if after a t then (a - t).toNat * tickDen else 0)
  let byList :=
    if l.isEmpty || l.all (fun w => gateBit w c) then none
    else
      let e := inForce l g.start t
      some ((e.2 + openRun l c e.1 l.length) * tickNum - (t - g.start).toNat * tickDen % tickNum)
  match byArm, byList with
  | none, b => b
  | a, none => a
  | some a, some b => some (min a b)

/-- The least whole k ≥ 0 with base + k × cycle at least 2 refill ticks after now, all in units of 1/tickDen of a
short-time unit; `d` is base − now (R416). -/
def takeSteps (d : Int) (cycle : Nat) : Nat :=
  let need : Int := 2 * (tickNum : Int) - d
  if need ≤ 0 then 0 else ((need + (cycle : Int) - 1) / (cycle : Int)).toNat

/-- The take-over time of a list committed with base `base` at short time `now`: a list without entries and with a
base that has passed has a cycle of 0, and its T is a free value (DESIGN CHOICE, log 14). -/
def takeTime (base now : Long) (cycle : Nat) (free : Nat) : Long :=
  let d : Int := signed 48 (base - now).toNat * (tickDen : Int)
  if 2 * (tickNum : Int) ≤ d then base
  else if cycle = 0 then ln free
  else
    let k := takeSteps d (cycle * tickNum)
    base + ln (k * cycle * tickNum / tickDen)

end Sys2Proof.Machine
end

