-- ==== Sys2Proof/Machine/Radio.lean ====
section
/-! DEFINITION. The front ends and transmit chains: synthesiser, AGC, predistorter, antenna switch and their registers
(R138–R163, R174–R176). -/

namespace Sys2Proof.Machine

/-! ### Transmit slots (Tables 05-3 and 05-4) -/

/-- Word `o` of slot `k`. -/
def aTS (bd : Band) (k o : Nat) : Nat := aTX bd (0x100 + 0x10 * k + o)

/-- STATE of a slot: 0 IDLE, 1 ARMED, 2 ONAIR, 3 DONE. -/
def State.slotState (s : State) (bd : Band) (k : Nat) : Nat := fld (s.reg (aTS bd k 1)) 23 22
def State.slotStatus (s : State) (bd : Band) (k : Nat) : Nat := fld (s.reg (aTS bd k 1)) 21 18

def State.setSlot (s : State) (bd : Band) (k st : Nat) (x : Status) : State :=
  s.setReg (aTS bd k 1) (wd (st * 2 ^ 22 + stCode x * 2 ^ 18))

def State.slotFrame (s : State) (bd : Band) (k : Nat) : SlotFrame := mapGet (fun _ => {}) (s.radio bd).slots k
def State.setSlotFrame (s : State) (bd : Band) (k : Nat) (x : SlotFrame) : State :=
  s.modRadio bd (fun r => { r with slots := mapPut (fun _ => {}) r.slots k x })

/-- TS_TACT. -/
def State.slotTact (s : State) (bd : Band) (k : Nat) : Long := long (s.reg (aTS bd k 8)) (s.reg (aTS bd k 9))

/-- The slots in a state. -/
def State.slotsIn (s : State) (bd : Band) (st : Nat) : List Nat := (upTo 16).filter (fun k => decide (s.slotState bd k = st))

/-- The signal box's frame in a slot. -/
def SbFrame.inSlot (f : SbFrame) (bd : Band) (k : Nat) : Bool :=
  decide (f.band = bd) && decide (f.slot.map (fun (i : Fin 16) => i.val) = some k) &&
    (decide (f.stage = .armed) || decide (f.stage = .checked))

/-- The signal box sees how a slot's frame ended. -/
def State.sbSlotEnd (s : State) (bd : Band) (k : Nat) (st : Status) : State :=
  let upd := fun (f : SbFrame) =>
    if f.inSlot bd k then { f with stage := .ended, slot := none, status := if st = .ok then f.status else some st } else f
  s.modSb (fun b => { b with frames := b.frames.map upd })

/-- A slot reaches DONE (Table 05-1); a frame on air has then been sent. -/
def State.slotDone (s : State) (bd : Band) (k : Nat) (st : Status) : State :=
  let onAir := decide (s.slotState bd k = 2)
  let t := (s.setSlot bd k 3 st).sbSlotEnd bd k st
  if !onAir then t
  else
    let c := fld (s.reg (aTS bd k 0)) 15 8
    let t1 := t.modRadio bd (fun r => { r with lastEnd := mapPut (fun _ => none) r.lastEnd c (some s.now) })
    let t2 := match (s.slotFrame bd k).queue with
      | some q => t1.sendEnds q
      | none => t1
    t2.setSlotFrame bd k {}

/-- Every armed slot of a band ends with STATE (Table 05-1). -/
def State.dropArmed (s : State) (bd : Band) : State := (s.slotsIn bd 1).foldl (fun t k => t.slotDone bd k .state) s

/-- Every frame of a band on air ends (R148). -/
def State.dropOnAir (s : State) (bd : Band) : State :=
  (s.slotsIn bd 2).foldl (fun t k => ((t.slotDone bd k .state).count (aTX bd 0x11)).occur 0x2A) s

/-! ### The synthesiser (R142–R148) -/

/-- D of a band (Table 03-1). -/
def divOf : Band → Nat
  | .a => 4
  | .b => 2

def State.synthLocked (s : State) (bd : Band) : Bool := s.on (dRX bd) && bit (s.reg (aFE bd 2)) 23

/-- NINT and NFRAC: FE_WIN × D / (50 MHz × (1 + e)) in units of 2^-24, to the nearest (R142). -/
def synthRatio (win : Nat) (bd : Band) (e : Int) : Nat :=
  let n : Int := (win * divOf bd * 2 ^ 60 : Nat)
  let d : Int := 50000 * (2 ^ 36 + e)
  ((2 * n + d) / (2 * d)).toNat

/-- FE_REFOFS as a number. -/
def State.refOfs (s : State) (bd : Band) : Int := signed 24 (s.reg (aFE bd 5)).toNat

/-- The ratio of the present window and e. -/
def State.setRatio (s : State) (bd : Band) : State :=
  let r := synthRatio (s.reg (aFE bd 1)).toNat bd (s.refOfs bd)
  (s.setReg (aFE bd 3) (wd (r / 2 ^ 24))).setReg (aFE bd 4) (wd (r % 2 ^ 24))

/-- A delivered e is applied (R144): #23. -/
def State.applyE (s : State) (bd : Band) (e : Word) : State :=
  let t := (s.setReg (aFE bd 5) e).modRadio bd (fun r => { r with ePend := none })
  (if s.synthLocked bd then t.setRatio bd else t).occurV 0x23 e

/-- e reaches a band (R144, R146). -/
def State.deliverE (s : State) (bd : Band) (e : Word) : State :=
  if !s.on (dRX bd) || bit (s.reg (aFE bd 6)) 0 then s
  else if s.sbRuns then s.modRadio bd (fun r => { r with ePend := some e })
  else s.applyE bd e

/-- A locked synthesiser loses lock (R148, R217, Table 05-1). -/
def State.loseLock (s : State) (bd : Band) : State :=
  let t := s.setRegFld (aFE bd 2) 23 23 0
  let t1 := ((t.modRadio bd (fun r => { r with paEn := false })).dropOnAir bd).dropArmed bd
  ((t1.endLanes bd 4).raise (312 + bd.idx)).occur 0x20

/-- A tune begins; `retune` is FE_SYN_STAT.RETUNE. A synthesiser that was locked loses lock (DEDUCED, log 24). -/
def State.startTune (s : State) (bd : Band) (retune : Bool) : State :=
  let t := if s.synthLocked bd then s.loseLock bd else s
  (t.setRegFld (aFE bd 2) 22 22 (b2n retune)).modRadio bd (fun r => { r with tuneAt := some s.now })

/-- The permitted window centres (Table 03-1). -/
def winOk (bd : Band) (v : Nat) : Bool :=
  match bd with
  | .a => decide (830000 ≤ v ∧ v ≤ 880000)
  | .b => decide (2405500 ≤ v ∧ v ≤ 2478000)

/-- A write of FE_WIN (R139, R147). -/
def State.winWrite (s : State) (bd : Band) (v : Word) : Status × State :=
  if !winOk bd v.toNat then (.badarg, s.setRegFld (aFE bd 2) 21 21 1)
  else
    let t := (s.setReg (aFE bd 1) v).setRegFld (aFE bd 2) 21 21 0
    (.ok, if bit (s.reg (aFE bd 0)) 23 then t.startTune bd true else t)

/-- A write of FE_CTL: SYNEN starts a tune or stops the synthesiser (R147). -/
def State.feCtl (s : State) (bd : Band) (v : Word) : State :=
  let t := s.plainWrite (aFE bd 0) v
  let old := bit (s.reg (aFE bd 0)) 23
  if bit v 23 && !old then t.startTune bd false
  else if !bit v 23 && old then
    let t1 := if s.synthLocked bd then t.loseLock bd else t
    (t1.setRegFld (aFE bd 2) 22 22 0).modRadio bd (fun r => { r with tuneAt := none })
  else t

/-- The synthesiser locks (R147). -/
def State.lockSynth (s : State) (bd : Band) : State :=
  ((s.setRegFld (aFE bd 2) 23 22 2).modRadio bd (fun r => { r with tuneAt := none })).setRatio bd

/-! ### Gain (R150–R154, Table 03-2) -/

/-- DESENS at a gain, by the lines of Table 03-2, rounded to the nearest dB; none below 10 dB. -/
def desensOf (g : Nat) : Option Nat :=
  if 60 ≤ g then some 0
  else if 50 ≤ g then some ((2 * (60 - g) * 2 + 10) / 20)
  else if 40 ≤ g then some ((20 + 6 * (50 - g) + 5) / 10)
  else if 10 ≤ g then some (8 + (40 - g))
  else none

/-- A chain takes a gain: GAIN, DESENS (a free value below 10 dB) and #22; above 0 dB there is no OVERLOAD. -/
def State.setGain (s : State) (bd : Band) (k g : Nat) : State :=
  let a := aFE bd (0x10 + k)
  let f := s.take
  let r : Nat × State := match desensOf g with
    | some d => (d, s)
    | none => (f.1 % 64, f.2)
  let t := (r.2.setRegFld a 21 16 g).setRegFld a 13 8 r.1
  (if g = 0 then t else t.setRegFld a 23 23 0).occurV 0x22 (wd r.1)

def State.gain (s : State) (bd : Band) (k : Nat) : Nat := fld (s.reg (aFE bd (0x10 + k))) 21 16

/-- FE_AGC_CTL.MANUAL. -/
def State.manualGain (s : State) (bd : Band) : Bool := bit (s.reg (aFE bd 8)) 23

/-- The manual gain of a chain; above 60 acts as 60 (DEDUCED, log 24). -/
def State.gainReg (s : State) (bd : Band) (k : Nat) : Nat := min (fld (s.reg (aFE bd (0x14 + k))) 5 0) 60

/-- Clipping (R150, R152). -/
def State.clip (s : State) (bd : Band) (k : Nat) : State :=
  let g := s.gain bd k
  let a := aFE bd (0x10 + k)
  if g = 0 then
    if bit (s.reg a) 23 then s else ((s.setRegFld a 23 23 1).raise (316 + bd.idx)).occur 0x21
  else if s.manualGain bd then s
  else s.setGain bd k (g - 6)

/-- A write of FE_AGC_CTL: MANUAL takes the gains of FE_AGC_GAIN (R154). -/
def State.agcCtl (s : State) (bd : Band) (v : Word) : State :=
  let t := s.plainWrite (aFE bd 8) v
  if bit v 23 && !s.manualGain bd then (upTo 4).foldl (fun (u : State) k => u.setGain bd k (u.gainReg bd k)) t else t

/-- A write of FE_AGC_GAIN (R154). -/
def State.agcGain (s : State) (bd : Band) (k : Nat) (v : Word) : State :=
  let t := s.plainWrite (aFE bd (0x14 + k)) v
  if t.manualGain bd then t.setGain bd k (t.gainReg bd k) else t

/-! ### Predistortion (R158–R160) -/

/-- The reset value of a coefficient word. -/
def coefReset (i : Nat) : Word := if i = 0 then 0x400000 else 0

def State.coefWord (s : State) (bd : Band) (i : Nat) : Word := mapGet coefReset (s.radio bd).coef i

/-- The band is on air: PA_EN is high, or a slot is ONAIR. -/
def State.onAir (s : State) (bd : Band) : Bool := (s.radio bd).paEn || !(s.slotsIn bd 2).isEmpty

/-- Written coefficients come into force (R159). -/
def State.coefInForce (s : State) (bd : Band) : State :=
  s.modRadio bd (fun r =>
    { r with coef := r.coefNew.foldl (fun m e => mapPut coefReset m e.1 e.2) r.coef, coefNew := [] })

/-- TX_DPD_IDX, and its advance. -/
def State.dpdIdx (s : State) (bd : Band) : Nat := fld (s.reg (aTX bd 9)) 5 0
def State.dpdNext (s : State) (bd : Band) : State := s.setReg (aTX bd 9) (wd ((s.dpdIdx bd + 1) % 64))

/-- A write of TX_DPD_DATA. -/
def State.dpdWrite (s : State) (bd : Band) (v : Word) : Status × State :=
  if bit (s.reg (aTX bd 0)) 21 then (.state, s)
  else
    let i := s.dpdIdx bd
    let t := if 56 ≤ i then s
      else s.modRadio bd (fun r => { r with coefNew := mapSet r.coefNew i v })
    (.ok, (if s.onAir bd then t else t.coefInForce bd).dpdNext bd)

/-- A read of TX_DPD_DATA: the word last written, in force or not. -/
def State.dpdRead (s : State) (bd : Band) : Word × State :=
  let i := s.dpdIdx bd
  (if 56 ≤ i then 0 else mapGet (fun j => s.coefWord bd j) (s.radio bd).coefNew i, s.dpdNext bd)

/-- An update sets every coefficient word to a free value (R158). -/
def State.adapt (s : State) (bd : Band) : Nat → State
  | 0 => s
  | n + 1 =>
    let f := s.take
    (f.2.modRadio bd (fun r => { r with coef := mapPut coefReset r.coef n (wd f.1) })).adapt bd n

/-! ### Antenna switch (R161–R163, Table 03-3) -/

/-- The code a request acts as: b'000 and b'111 as b'101; b'110 only under R162. -/
def State.antCode (s : State) (bd : Band) (req : Nat) : Option Nat :=
  if req = 0 ∨ req = 7 then some 5
  else if req = 6 then
    if (s.pw.mode = .provision ∨ s.pw.mode = .maintenance) ∧ bit (s.reg (aTX bd 0)) 19 = true then some 6 else none
  else some req

def State.setCur (s : State) (bd : Band) (c : Nat) : State := (s.setRegFld (aTX bd 3) 18 16 c).setRegFld (aTX bd 3) 23 23 0

/-- A request for a code: at once off air, else it waits. -/
def State.antRequest (s : State) (bd : Band) (req : Nat) : State :=
  let t := s.setRegFld (aTX bd 3) 2 0 req
  match s.antCode bd req with
  | none => t
  | some c => if s.onAir bd then t.setRegFld (aTX bd 3) 23 23 1 else t.setCur bd c

/-- PALEAD, PALAG and SWLEAD in 0.1 µs. -/
def State.paLead (s : State) (bd : Band) : Nat :=
  let n := fld (s.reg (aTX bd 4)) 15 8
  if 5 ≤ n ∧ n ≤ 100 then n else 20
def State.paLag (s : State) (bd : Band) : Nat := fld (s.reg (aTX bd 4)) 7 0
def State.swLead (s : State) (bd : Band) : Nat := fld (s.reg (aTX bd 4)) 23 16

/-- A span of short time (signed) as compared with `n` tenths of a microsecond: at most that long? -/
def withinTenths (d : Long) (n : Nat) : Bool := decide (signed 48 d.toNat * 10000000 ≤ ((n * 2 ^ 32 : Nat) : Int))

/-- An armed slot is due within `n` tenths of a microsecond. -/
def State.dueWithin (s : State) (bd : Band) (n : Nat) : Bool :=
  (s.slotsIn bd 1).any (fun k => withinTenths (s.slotTact bd k - s.tcap) n)

/-- The band goes on air (Table 03-4, steps 1 and 2). -/
def State.goOnAir (s : State) (bd : Band) : State :=
  let t := match s.antCode bd (fld (s.reg (aTX bd 3)) 2 0) with
    | some c => s.setCur bd c
    | none => s
  t.modRadio bd (fun r => { r with paEn := true })

/-- The band goes off air (Table 03-4, steps 5 and 6): written coefficients come into force. -/
def State.goOffAir (s : State) (bd : Band) : State :=
  let w := s.reg (aTX bd 3)
  let c := if bit w 23 then (s.antCode bd (fld w 2 0)).getD 5 else 5
  ((s.modRadio bd (fun r => { r with paEn := false })).setCur bd c).coefInForce bd

/-- A write of TX_CTL: clearing EN ends armed frames (Table 05-1). -/
def State.txCtl (s : State) (bd : Band) (v : Word) : State :=
  let t := s.plainWrite (aTX bd 0) v
  if bit (s.reg (aTX bd 0)) 23 && !bit v 23 then t.dropArmed bd else t

/-! ### The FE block -/

/-- The band of an offset in the FE or TX block, and the offset in it. -/
def bandOf (o : Nat) : Band × Nat := if o < 0x8000 then (.a, o) else (.b, o - 0x8000)

/-- A store to the FE block. -/
def State.feWrite (s : State) (a : Nat) (v : Word) : Status × State :=
  let o := a - blk 2
  if o = 0xF002 then
    (.ok, (s.modFe (fun f => { f with staging := mapPut zeroWord f.staging s.rgnAddr v })).rgnNext)
  else if o = 0xF003 then (.ok, s.rgnCommit v)
  else if 0xF000 ≤ o then (.ok, s.plainWrite a v)
  else
    let b := bandOf o
    if b.2 = 0 then (.ok, s.feCtl b.1 v)
    else if b.2 = 1 then s.winWrite b.1 v
    else if b.2 = 8 then (.ok, s.agcCtl b.1 v)
    else if 0x14 ≤ b.2 ∧ b.2 < 0x18 then (.ok, s.agcGain b.1 (b.2 - 0x14) v)
    else (.ok, s.plainWrite a v)

/-- FE_ED: the level is a free value (log 9); BUSY is check 6 of Table 03-7 at that level. -/
def State.energy (s : State) (bd : Band) : Word × State :=
  let f := s.take
  let lv := f.1 % 256
  let busy := bit (s.rgn bd 4) 23 && decide (signed 8 (fld (s.rgn bd 5) 7 0) ≤ signed 8 lv)
  (wd (b2n busy * 2 ^ 23 + lv), f.2)

/-- A load from the FE block. TXHOLD follows the antenna switch (R156); RMS and the suppression measured are free
values. -/
def State.feRead (s : State) (a : Nat) : Word × State :=
  let o := a - blk 2
  if o = 0xF002 then (mapGet zeroWord s.fe.staging s.rgnAddr, s.rgnNext)
  else if 0xF000 ≤ o then s.plainRead a
  else
    let b := bandOf o
    let k := b.2
    if 0x10 ≤ k ∧ k < 0x14 then
      let f := s.take
      (setFld (setBit (s.reg a) 22 (decide (fld (s.reg (aTX b.1 3)) 18 16 = 1 + (k - 0x10)))) 7 0 f.1, f.2)
    else if k = 0x18 then
      let f := s.take
      (wd (f.1 % 256), f.2)
    else if 0x100 ≤ k ∧ k < 0x200 then (wd (min (s.accum b.1 (.dwell (BitVec.ofNat 8 (k - 0x100)))).sum (2 ^ 24 - 1)), s)
    else if 0x200 ≤ k ∧ k < 0x208 then (wd (min (s.accum b.1 (.duty (Fin.ofNat 8 (k - 0x200)))).sum (2 ^ 24 - 1)), s)
    else if 0x300 ≤ k ∧ k < 0x400 then s.energy b.1
    else s.plainRead a

/-- TX_STAT. -/
def State.txStat (s : State) (bd : Band) : Word :=
  setFld (setBit (s.reg (aTX bd 5)) 23 (s.radio bd).paEn) 4 0 (s.slotsIn bd 2).length

/-- TX_ANT: in BLANK and DECOMMISSIONED the band holds b'000 (R169). -/
def State.txAnt (s : State) (bd : Band) : Word :=
  let w := s.reg (aTX bd 3)
  if s.silenced then setFld w 18 16 0 else w

/-- A load from the TX block. -/
def State.txRead (s : State) (a : Nat) : Word × State :=
  let b := bandOf (a - blk 4)
  if b.2 = 3 then (s.txAnt b.1, s)
  else if b.2 = 5 then (s.txStat b.1, s)
  else if b.2 = 6 then
    let f := s.take
    (wd (f.1 % 256), f.2)
  else if b.2 = 0xA then s.dpdRead b.1
  else s.plainRead a

end Sys2Proof.Machine
end

