-- ==== Sys2Proof/Machine/Transmit.lean ====
section
/-! DEFINITION. Transmit slots: arming, the overlap check, the launch checks and the end of a frame (R170–R173,
R228–R247). -/

namespace Sys2Proof.Machine

/-! ### Modes (TXM as report W0[6:1]) -/

def famOf (txm : Nat) : Nat := txm / 16 % 4

/-- The lowest MCS of a SUN-OFDM option (PRESUMED from IEEE 802.15.4-2020, log 25). -/
def mcsMin (opt : Nat) : Nat :=
  match opt with
  | 1 => 0 | 2 => 0 | 3 => 1 | _ => 2

/-- TXM names a mode allowed in the band on a channel of this width code; SUN-OFDM's option is the channel's
(DEDUCED, log 25). -/
def modeOk (bd : Band) (txm width : Nat) : Bool :=
  let m := txm % 16
  match famOf txm with
  | 0 => decide (m % 8 ≠ 7)
  | 1 =>
    match widthOfdm width with
    | some o => decide (m < 7) && decide (mcsMin o ≤ m)
    | none => false
  | 2 => decide (m = 0) && decide (bd = .b)
  | _ => decide (m / 4 ≠ 3)

/-- The width of a mode in units of 10 Hz (Table 04-1). -/
def modeWidth (txm width : Nat) : Nat :=
  match famOf txm with
  | 0 =>
    match txm % 8 with
    | 0 | 1 => 20000
    | 2 | 3 | 4 => 40000
    | _ => 60000
  | 1 => widthOf width
  | _ => 200000

/-! ### Airtime (PRESUMED from IEEE 802.15.4-2020 but for LW-OFDM, log 25) -/

/-- Symbols per second and bits per symbol of a SUN-FSK mode (Table 04-2). -/
def fskRate (m : Nat) : Nat × Nat :=
  match m % 8 with
  | 0 => (50000, 1) | 1 => (100000, 1) | 2 => (150000, 1) | 3 => (200000, 1)
  | 4 => (100000, 2) | 5 => (300000, 1) | _ => (200000, 2)

/-- SUN-FSK: 64 preamble and 16 SFD symbols, then PHR and PSDU, doubled by FEC with 3 tail bits. -/
def fskNs (m len : Nat) : Nat :=
  let r := fskRate m
  let bits := 16 + 8 * len
  let coded := if 8 ≤ m then 2 * (bits + 3) else bits
  ceilDiv ((80 + ceilDiv coded r.2) * 1000000000) r.1

/-- Data bits of a SUN-OFDM symbol, in eighths of the option's data subcarriers. -/
def mcsEighths (mcs : Nat) : Nat :=
  match mcs with
  | 0 => 1 | 1 => 2 | 2 => 4 | 3 => 8 | 4 => 12 | 5 => 16 | _ => 24

/-- Data subcarriers of a SUN-OFDM option. -/
def ofdmTones (opt : Nat) : Nat :=
  match opt with
  | 1 => 96 | 2 => 48 | 3 => 24 | _ => 12

/-- SUN-OFDM: 6 symbols before the PHR, the PHR in the lowest MCS, then the PSDU with 6 tail bits; 120 µs each. -/
def ofdmNs (opt mcs len : Nat) : Nat :=
  let phr := if opt = 1 then 3 else 6
  let bits := max (ofdmTones opt * mcsEighths mcs / 8) 1
  (6 + phr + (8 * len + 6 + bits - 1) / bits) * 120000

/-- LW-OFDM: 7 symbols of preamble and PHR, then the codewords (Table 04-4, R204). -/
def lwNs (cl rate : Nat) (map : BitVec 72) (len : Nat) : Nat :=
  let b := max (symbolBits map) 1
  (7 + (codewordsOf len cl rate * codeBits cl + b - 1) / b) * 144000

/-- The airtime of a frame in ns. -/
def airNs (txm width len : Nat) (map : BitVec 72) : Nat :=
  match famOf txm with
  | 0 => fskNs (txm % 16) len
  | 1 => ofdmNs ((widthOfdm width).getD 1) (txm % 16) len
  | 2 => (6 + len) * 32000
  | _ => lwNs (txm / 4 % 4) (txm % 4) map len

/-! ### A slot's fields -/

def State.slotChan (s : State) (bd : Band) (k : Nat) : Nat := fld (s.reg (aTS bd k 0)) 15 8
def State.slotTxm (s : State) (bd : Band) (k : Nat) : Nat := fld (s.reg (aTS bd k 0xA)) 23 18
def State.slotLen (s : State) (bd : Band) (k : Nat) : Nat := fld (s.reg (aTS bd k 0xA)) 11 0
def State.slotFofs (s : State) (bd : Band) (k : Nat) : Int := signed 24 (s.reg (aTS bd k 2)).toNat
def State.slotMap (s : State) (bd : Band) (k : Nat) : BitVec 72 :=
  s.reg (aTS bd k 0xC) ++ s.reg (aTS bd k 0xD) ++ s.reg (aTS bd k 0xE)

/-- WIDTH of the slot's channel. -/
def State.slotWidth (s : State) (bd : Band) (k : Nat) : Nat := fld (s.chCfg bd (s.slotChan bd k)) 22 20

def State.slotNs (s : State) (bd : Band) (k : Nat) : Nat :=
  airNs (s.slotTxm bd k) (s.slotWidth bd k) (s.slotLen bd k) (s.slotMap bd k)

/-- The occupied band of a slot: its lower and upper edge in units of 10 Hz. -/
def State.slotBand (s : State) (bd : Band) (k : Nat) : Int × Int :=
  let f : Int := ((s.reg (aFE bd 1)).toNat * 100 : Nat) + s.slotFofs bd k
  let h : Nat := modeWidth (s.slotTxm bd k) (s.slotWidth bd k) / 2
  (f - h, f + h)

/-- Two bands overlap. -/
def overlaps (x y : Int × Int) : Bool := decide (x.1 < y.2) && decide (y.1 < x.2)

/-! ### Arming (R232, R239, R241, Table 05-2) -/

/-- Rounding division, halves away from zero. -/
def roundDiv (n : Int) (d : Nat) : Int :=
  if 0 ≤ n then ((2 * n + d) / (2 * (d : Int))) else -((2 * -n + d) / (2 * (d : Int)))

/-- TS_TACT of a slot (R241). -/
def State.tactOf (s : State) (bd : Band) (k : Nat) : Long :=
  let nom := long (s.reg (aTS bd k 6)) (s.reg (aTS bd k 7))
  if bit (s.reg (aTS bd k 3)) 23 && bit (s.reg (aTS bd k 0)) 20 then
    nom - BitVec.ofInt 48 (roundDiv (signed 24 (s.reg (aTS bd k 5)).toNat * 2 ^ 32) 1000000000)
  else nom

/-- TS_NCO of a slot (R239). -/
def State.ncoOf (s : State) (bd : Band) (k : Nat) : Int :=
  if bit (s.reg (aTS bd k 3)) 23 && bit (s.reg (aTS bd k 0)) 21 then
    let f : Int := ((s.reg (aFE bd 1)).toNat * 1000 : Nat) + s.slotFofs bd k * 10
    roundDiv (f * signed 20 (s.reg (aTS bd k 4)).toNat) 500000000
  else 0

/-- Check 2 of Table 05-2 fails. -/
def State.modeBad (s : State) (bd : Band) (k : Nat) : Bool :=
  let txm := s.slotTxm bd k
  let len := s.slotLen bd k
  !modeOk bd txm (s.slotWidth bd k) || decide (len = 0) || decide (2047 < len) ||
    (decide (famOf txm = 2) && decide (127 < len)) || (decide (famOf txm = 3) && !mapOk (s.slotMap bd k))

/-- The lead in 0.1 µs. -/
def State.lead (s : State) (bd : Band) : Nat := s.swLead bd + s.paLead bd + 100

/-- The first arming check that fails. -/
def State.armCheck (s : State) (bd : Band) (k : Nat) : Status :=
  let d := signed 48 (s.tactOf bd k - s.tcap).toNat
  if !bit (s.reg (aTX bd 0)) 23 || !s.synthLocked bd then .state
  else if s.modeBad bd k then .badarg
  else if !inWindow (s.slotFofs bd k) (modeWidth (s.slotTxm bd k) (s.slotWidth bd k)) then .badarg
  else if ((2 ^ 32 : Nat) : Int) < 10 * d then .badarg
  else if d * 10000000 < ((s.lead bd * 2 ^ 32 : Nat) : Int) then .late
  else .ok

/-- ARM of a slot in IDLE or DONE. -/
def State.armSlot (s : State) (bd : Band) (k : Nat) : Status × State :=
  match s.armCheck bd k with
  | .ok =>
    let t := s.tactOf bd k
    let n := BitVec.ofInt 24 (s.ncoOf bd k)
    (.ok, ((((s.setSlotFrame bd k {}).setReg (aTS bd k 8) (hiWord t)).setReg (aTS bd k 9) (loWord t)).setReg (aTS bd k 0xF) n).setReg (aTS bd k 1)
      (wd (2 ^ 22 + s.slotStatus bd k * 2 ^ 18)))
  | st => (st, s.setSlot bd k 3 st)

/-! ### Launch checks (R170–R172, Table 03-7) -/

/-- The edges of group `g` in units of 10 Hz; F_HI = 0 is unused. -/
def State.groupBand (s : State) (bd : Band) (g : Nat) : Option (Int × Int) :=
  let hi := (s.rgn bd (9 + 4 * g)).toNat
  if hi = 0 then none else some (((s.rgn bd (8 + 4 * g)).toNat * 100 : Nat), (hi * 100 : Nat))

/-- The groups a band overlaps, and group 0. -/
def State.groupsOf (s : State) (bd : Band) (x : Int × Int) : List (Fin 8) :=
  0 :: ([1, 2, 3, 4, 5, 6, 7] : List (Fin 8)).filter (fun g =>
    match s.groupBand bd g.val with
    | some y => overlaps x y
    | none => false)

/-- The band lies wholly within one used group. -/
def State.inGroup (s : State) (bd : Band) (x : Int × Int) : Bool :=
  ([1, 2, 3, 4, 5, 6, 7] : List Nat).any (fun g =>
    match s.groupBand bd g with
    | some y => decide (y.1 ≤ x.1) && decide (x.2 ≤ y.2)
    | none => false)

/-- What a launch is checked for. -/
structure Launch where
  chan : BitVec 8
  edges : Int × Int
  /-- Airtime in 100 µs units, rounded up. -/
  air : Nat
deriving DecidableEq, Repr

def airUnits (ns : Nat) : Nat := (ns + 99999) / 100000

/-- PAUSE has not passed since the channel's last frame (check 3). -/
def State.pausing (s : State) (bd : Band) (c : Nat) : Bool :=
  match mapGet (fun _ => none) (s.radio bd).lastEnd c with
  | some t => decide (s.now < t + (s.rgn bd 3).toNat * 10 * cycUs)
  | none => false

/-- The first check of Table 03-7 that fails: the refusal counter and the occurrence. `busy` is the listen check's
measurement (R172). -/
def State.launchCheck (s : State) (bd : Band) (l : Launch) (busy : Bool) : Option (Nat × Nat) :=
  let txmax := (s.rgn bd 2).toNat
  let dwell := (s.rgn bd 0).toNat
  if s.silenced || decide ((s.radio bd).region = 0) || !s.inGroup bd l.edges then some (0x23, 0x28)
  else if txmax ≠ 0 ∧ txmax < l.air then some (0x20, 0x25)
  else if s.pausing bd l.chan.toNat then some (0x20, 0x25)
  else if dwell ≠ 0 ∧ dwell < (s.accum bd (.dwell l.chan)).sum + l.air then some (0x20, 0x24)
  else if (s.groupsOf bd l.edges).any (fun g =>
      decide (s.dutyLimit bd g.val ≠ 0) && decide (s.dutyLimit bd g.val < (s.accum bd (.duty g)).sum + l.air)) then
    some (0x21, 0x25)
  else if bit (s.rgn bd 4) 23 && busy then some (0x22, 0x26)
  else none

/-- A launch that passes adds its airtime (R171). -/
def State.addAirtime (s : State) (bd : Band) (l : Launch) : State :=
  let t := s.setAccum bd (.dwell l.chan) ((s.accum bd (.dwell l.chan)).plus l.air)
  (s.groupsOf bd l.edges).foldl (fun u g =>
    (u.setAccum bd (.duty g) ((u.accum bd (.duty g)).plus l.air)).dutyCross bd g) t

/-- A launch refused by R170: the counter and the occurrence. -/
def State.refuseLaunch (s : State) (bd : Band) (e : Nat × Nat) : State := (s.count (aFE bd e.1)).occur e.2

/-! ### Launch (R228, R233, Table 05-1) -/

/-- The overlap check fails: another slot on air, or one of a lower number with the same TS_TACT that is armed or was
until that time (R233). -/
def State.overlapping (s : State) (bd : Band) (k : Nat) : Bool :=
  let x := s.slotBand bd k
  (upTo 16).any (fun j =>
    decide (j ≠ k) && overlaps x (s.slotBand bd j) &&
    (decide (s.slotState bd j = 2) ||
      (decide (j < k) && decide (s.slotTact bd j = s.slotTact bd k) &&
        (decide (s.slotState bd j = 1) || (decide (s.slotState bd j = 3) &&
          (decide (s.slotStatus bd j = 1) || decide (s.slotStatus bd j = 10)))))))

/-- The PSDU of a slot: octets from its first cell; cells outside a chain follow each other (R4, R296). -/
def State.psdu (s : State) (bd : Band) (k : Nat) : List Byte :=
  let c := fld (s.reg (aTS bd k 0xB)) 17 0
  let n := s.slotLen bd k
  if s.managed c then s.chainOctets c 0 n else s.mainOctets (cellAddr c) n

/-- The LW-OFDM scrambler seed runs through 1 to 127. -/
def State.nextSeed (s : State) (bd : Band) : State := s.modRadio bd (fun r => { r with seed := r.seed % 127 + 1 })

/-- A beacon is on air (R289). -/
def State.beaconOnAir (s : State) : State :=
  s.modSb (fun b => { b with lastBeacon := some s.now, meshAlive := b.meshAlive || decide (b.state = .running) })

/-- The slot goes on air. -/
def State.slotOnAir (s : State) (bd : Band) (k : Nat) (l : Launch) : State :=
  let f := s.slotFrame bd k
  let t := ((s.addAirtime bd l).setReg (aTS bd k 1) (wd (2 * 2 ^ 22 + s.slotStatus bd k * 2 ^ 18))).count (aTX bd 0x10)
  let t1 := (t.setSlotFrame bd k { f with endAt := s.now + 3 * s.slotNs bd k }).modRadio bd (fun r => { r with paEn := true })
  let t2 := if famOf (s.slotTxm bd k) = 3 then t1.nextSeed bd else t1
  let t3 := match f.queue with
    | some q => t2.sendBegins q
    | none => t2
  let t4 := if f.beacon then t3.beaconOnAir else t3
  let upd := fun (x : SbFrame) => if x.inSlot bd k then { x with launched := true } else x
  { t4.modSb (fun b => { b with frames := b.frames.map upd }) with out := .octets (f.sec.getD (s.psdu bd k)) }

/-- A slot's launch as R170 sees it. -/
def State.slotLaunch (s : State) (bd : Band) (k : Nat) : Launch :=
  { chan := BitVec.ofNat 8 (s.slotChan bd k), edges := s.slotBand bd k, air := airUnits (s.slotNs bd k) }

/-- The signal box's frame in a slot awaits its key check. -/
def State.unready (s : State) (bd : Band) (k : Nat) : Bool :=
  s.sb.frames.any (fun f => f.inSlot bd k && decide (f.stage = .armed))

/-- A frame of a STALLED signal box is not launched (R298). -/
def State.stalledFrame (s : State) (bd : Band) (k : Nat) : Bool :=
  decide (s.sb.state = .stalled) && s.sb.frames.any (fun f => f.inSlot bd k)

/-- Station time has reached TS_TACT of an armed slot. -/
def State.launch (s : State) (bd : Band) (k : Nat) (busy : Bool) : State :=
  if s.stalledFrame bd k then s.slotDone bd k .late
  else if s.overlapping bd k then s.slotDone bd k .busy
  else
    match s.launchCheck bd (s.slotLaunch bd k) busy with
    | some e => (s.refuseLaunch bd e).slotDone bd k .dwell
    | none => s.slotOnAir bd k (s.slotLaunch bd k)

/-! ### Slot registers (R230–R232) -/

/-- A write of TS_CTL with its requests. -/
def State.tsCtl (s : State) (bd : Band) (k : Nat) (v : Word) : Status × State :=
  let t := s.plainWrite (aTS bd k 0) v
  match s.slotState bd k with
  | 1 =>
    if bit v 22 then (.ok, t.setReg (aTS bd k 1) (wd (s.slotStatus bd k * 2 ^ 18)))
    else if bit v 23 then (.busy, s)
    else (.ok, t)
  | 2 => (.ok, t)
  | 3 =>
    if bit v 22 then (.ok, t.setReg (aTS bd k 1) (wd (s.slotStatus bd k * 2 ^ 18)))
    else if bit v 23 then (.ok, (t.armSlot bd k).2)
    else (.ok, t)
  | _ => if bit v 23 && !bit v 22 then (.ok, (t.armSlot bd k).2) else (.ok, t)

/-- A store to a slot word. -/
def State.tsWrite (s : State) (bd : Band) (k o : Nat) (v : Word) : Status × State :=
  if s.sbRuns ∨ (s.pw.mode ≠ .provision ∧ s.pw.mode ≠ .maintenance) then (.state, s)
  else if o = 0 then s.tsCtl bd k v
  else if s.slotState bd k = 1 ∨ s.slotState bd k = 2 then (.busy, s)
  else (.ok, s.plainWrite (aTS bd k o) v)

/-- A store to the TX block. -/
def State.txWrite (s : State) (a : Nat) (v : Word) : Status × State :=
  let b := bandOf (a - blk 4)
  if 0x100 ≤ b.2 then s.tsWrite b.1 ((b.2 - 0x100) / 16) (b.2 % 16) v
  else if b.2 = 0 then (.ok, s.txCtl b.1 v)
  else if b.2 = 3 then (.ok, s.antRequest b.1 (fld v 2 0))
  else if b.2 = 0xA then s.dpdWrite b.1 v
  else (.ok, s.plainWrite a v)

end Sys2Proof.Machine
end

