-- ==== Sys2Proof/Machine/Crypto.lean ====
section
/-! DEFINITION. The ciphers, hashes and signatures the spec cites by their standards: AES (FIPS 197), GCM (SP 800-38D),
CCM* (IEEE 802.15.4-2020 Annex B), SHA-384 (FIPS 180-4), HMAC (FIPS 198-1), the counter-mode KDF of SP 800-108r1 as
R480 fixes it, and ECDSA P-384 (FIPS 186-5). ML-DSA-65 is opaque (log 32). -/

namespace Sys2Proof.Machine

/-- Exclusive OR of two octet strings, as long as the shorter. -/
def xorOctets (a b : List Byte) : List Byte := List.zipWith (fun x y => x ^^^ y) a b

/-- Octet strings in pieces of `n`, with fuel. -/
def pieces (n : Nat) : Nat → List Byte → List (List Byte)
  | 0, _ => []
  | _, [] => []
  | f + 1, l => l.take n :: pieces n f (l.drop n)

/-- Pad with zeros to a multiple of 16. -/
def pad16 (l : List Byte) : List Byte := l ++ List.replicate ((16 - l.length % 16) % 16) 0

def blocks16 (l : List Byte) : List (List Byte) := pieces 16 l.length (pad16 l)

/-! ### AES -/

/-- Times x in GF(2^8). -/
def xtime (a : Byte) : Byte := if a.getLsbD 7 then (a <<< 1) ^^^ 0x1B else a <<< 1

/-- Product in GF(2^8). -/
def gmul (a b : Byte) : Byte :=
  ((List.range 8).foldl (fun (p : Byte × Byte) i => (if b.getLsbD i then p.1 ^^^ p.2 else p.1, xtime p.2)) (0, a)).1

/-- The S-box: inverse, then the affine map. -/
def subByte (a : Byte) : Byte :=
  let sq := fun x => gmul x x
  let x2 := sq a
  let x4 := sq x2
  let x8 := sq x4
  let x16 := sq x8
  let x32 := sq x16
  let x64 := sq x32
  let b := gmul x2 (gmul x4 (gmul x8 (gmul x16 (gmul x32 (gmul x64 (sq x64))))))
  b ^^^ b.rotateLeft 1 ^^^ b.rotateLeft 2 ^^^ b.rotateLeft 3 ^^^ b.rotateLeft 4 ^^^ 0x63

/-- Word `i` of the expanded key follows words `w`, with `rc` the next round constant. -/
def expandStep (nk : Nat) (p : List (List Byte) × Byte) (i : Nat) : List (List Byte) × Byte :=
  let w := p.1
  let prev := w.getD (i - 1) []
  let old := w.getD (i - nk) []
  if i % nk = 0 then
    let t := (prev.drop 1 ++ prev.take 1).map subByte
    (w ++ [xorOctets old (xorOctets t [p.2, 0, 0, 0])], xtime p.2)
  else if 6 < nk ∧ i % nk = 4 then (w ++ [xorOctets old (prev.map subByte)], p.2)
  else (w ++ [xorOctets old prev], p.2)

/-- The round keys of a 16- or 32-octet key. -/
def roundKeys (key : List Byte) : List (List Byte) :=
  let nk := key.length / 4
  let w := ((List.range (4 * (nk + 7))).drop nk).foldl (expandStep nk) (pieces 4 nk key, 1)
  pieces 16 (nk + 7) w.1.flatten

def shiftRows (s : List Byte) : List Byte := (List.range 16).map (fun i => s.getD ((i + 4 * (i % 4)) % 16) 0)

def mixColumn (c : List Byte) : List Byte :=
  (List.range 4).map (fun i =>
    xtime (c.getD i 0) ^^^ gmul 3 (c.getD ((i + 1) % 4) 0) ^^^ c.getD ((i + 2) % 4) 0 ^^^ c.getD ((i + 3) % 4) 0)

def mixColumns (s : List Byte) : List Byte := ((pieces 4 4 s).map mixColumn).flatten

/-- The rounds of the cipher after the first key. -/
def aesRounds : List (List Byte) → List Byte → List Byte
  | [], s => s
  | [k], s => xorOctets (shiftRows (s.map subByte)) k
  | k :: r, s => aesRounds r (xorOctets (mixColumns (shiftRows (s.map subByte))) k)

/-- One block under a key of 16 or 32 octets. -/
def aes (key block : List Byte) : List Byte :=
  match roundKeys key with
  | [] => block
  | k :: r => aesRounds r (xorOctets block k)

/-! ### GCM -/

/-- Product in GF(2^128), first bit most significant. -/
def ghashMul (x y : BitVec 128) : BitVec 128 :=
  ((List.range 128).foldl (fun (p : BitVec 128 × BitVec 128) i =>
    (if x.getLsbD (127 - i) then p.1 ^^^ p.2 else p.1,
     if p.2.getLsbD 0 then (p.2 >>> 1) ^^^ (0xE1#128 <<< 120) else p.2 >>> 1)) (0, y)).1

def blockVal (l : List Byte) : BitVec 128 := BitVec.ofNat 128 (octetsToNat l)

def ghash (h : BitVec 128) (l : List Byte) : BitVec 128 :=
  (blocks16 l).foldl (fun y b => ghashMul (y ^^^ blockVal b) h) 0

/-- Counter-mode octets: `f k` gives the `k`-th counter block. -/
def ctrXor (key : List Byte) (f : Nat → List Byte) (l : List Byte) : List Byte :=
  ((pieces 16 l.length l).zipIdx.map (fun p => xorOctets p.1 (aes key (f p.2)))).flatten

/-- The GCM counter block `k` of a 12-octet IV. -/
def gcmBlock (iv : List Byte) (k : Nat) : List Byte := iv ++ natToOctets 4 k

/-- The 16-octet tag. -/
def gcmTag (key iv aad ct : List Byte) : List Byte :=
  let h := blockVal (aes key (List.replicate 16 0))
  let s := ghash h (pad16 aad ++ pad16 ct ++ natToOctets 8 (8 * aad.length) ++ natToOctets 8 (8 * ct.length))
  xorOctets (natToOctets 16 s.toNat) (aes key (gcmBlock iv 1))

/-- Encrypt: ciphertext and tag. -/
def gcmSeal (key iv aad pt : List Byte) : List Byte × List Byte :=
  let ct := ctrXor key (fun k => gcmBlock iv (k + 2)) pt
  (ct, gcmTag key iv aad ct)

/-- Decrypt; none where the tag fails. -/
def gcmOpen (key iv aad ct tag : List Byte) : Option (List Byte) :=
  if gcmTag key iv aad ct = tag then some (ctrXor key (fun k => gcmBlock iv (k + 2)) ct) else none

/-! ### CCM* -/

/-- The CBC-MAC of header and message. -/
def ccmMac (key nonce a m : List Byte) (n : Nat) : List Byte :=
  let flags := (if a.length = 0 then 0 else 0x40) + 8 * ((n - 2) / 2) + 1
  let b0 := natToOctets 1 flags ++ nonce ++ natToOctets 2 m.length
  let body := b0 ++ (if a.length = 0 then [] else pad16 (natToOctets 2 a.length ++ a)) ++ pad16 m
  (blocks16 body).foldl (fun x b => aes key (xorOctets x b)) (List.replicate 16 0)

/-- Counter block `k`. -/
def ccmBlock (nonce : List Byte) (k : Nat) : List Byte := (1 : Byte) :: (nonce ++ natToOctets 2 k)

/-- Encrypted message and encrypted MIC. -/
def ccmSeal (key nonce a m : List Byte) (n : Nat) : List Byte × List Byte :=
  (ctrXor key (fun k => ccmBlock nonce (k + 1)) m,
   (xorOctets (ccmMac key nonce a m n) (aes key (ccmBlock nonce 0))).take n)

/-- The message; none where the MIC fails. -/
def ccmOpen (key nonce a c mic : List Byte) (n : Nat) : Option (List Byte) :=
  let m := ctrXor key (fun k => ccmBlock nonce (k + 1)) c
  if (xorOctets (ccmMac key nonce a m n) (aes key (ccmBlock nonce 0))).take n = mic then some m else none

/-! ### SHA-384, HMAC and the KDF -/

/-- The first 80 primes. -/
def primes80 : List Nat :=
  [ 2, 3, 5, 7, 11, 13, 17, 19, 23, 29, 31, 37, 41, 43, 47, 53, 59, 61, 67, 71, 73, 79, 83, 89, 97, 101, 103, 107, 109,
    113, 127, 131, 137, 139, 149, 151, 157, 163, 167, 173 ] ++
  [ 179, 181, 191, 193, 197, 199, 211, 223, 227, 229, 233, 239, 241, 251, 257, 263, 269, 271, 277, 281, 283, 293, 307,
    311, 313, 317, 331, 337, 347, 349, 353, 359, 367, 373, 379, 383, 389, 397, 401, 409 ]

/-- The largest r below 2^`n` whose power `e` does not exceed `v`. -/
def rootOf (e v : Nat) : Nat → Nat → Nat
  | 0, r => r
  | n + 1, r => if (r + 2 ^ n) ^ e ≤ v then rootOf e v n (r + 2 ^ n) else rootOf e v n r

/-- Round constants: the first 64 fraction bits of the cube roots. -/
def sha512K : List (BitVec 64) := primes80.map (fun p => BitVec.ofNat 64 (rootOf 3 (p * 2 ^ 192) 68 0))

/-- Initial value of SHA-384: fraction bits of the square roots of the 9th to the 16th prime. -/
def sha384Iv : List (BitVec 64) := ((primes80.drop 8).take 8).map (fun p => BitVec.ofNat 64 (rootOf 2 (p * 2 ^ 128) 70 0))

/-- The message schedule, newest word first. -/
def schedule : Nat → List (BitVec 64) → List (BitVec 64)
  | 0, w => w
  | n + 1, w =>
    let a := w.getD 1 0
    let b := w.getD 14 0
    let s1 := a.rotateRight 19 ^^^ a.rotateRight 61 ^^^ (a >>> 6)
    let s0 := b.rotateRight 1 ^^^ b.rotateRight 8 ^^^ (b >>> 7)
    schedule n ((s1 + w.getD 6 0 + s0 + w.getD 15 0) :: w)

/-- One round on the eight working words. -/
def shaRound (v : List (BitVec 64)) (kw : BitVec 64 × BitVec 64) : List (BitVec 64) :=
  match v with
  | [a, b, c, d, e, f, g, h] =>
    let t1 := h + (e.rotateRight 14 ^^^ e.rotateRight 18 ^^^ e.rotateRight 41) + ((e &&& f) ^^^ (~~~e &&& g)) + kw.1 + kw.2
    let t2 := (a.rotateRight 28 ^^^ a.rotateRight 34 ^^^ a.rotateRight 39) + ((a &&& b) ^^^ (a &&& c) ^^^ (b &&& c))
    [t1 + t2, a, b, c, d + t1, e, f, g]
  | v => v

def shaBlock (h : List (BitVec 64)) (b : List Byte) : List (BitVec 64) :=
  let w := (pieces 8 16 b).map (fun x => BitVec.ofNat 64 (octetsToNat x))
  let ws := (schedule 64 w.reverse).reverse
  List.zipWith (fun x y => x + y) h ((sha512K.zip ws).foldl shaRound h)

/-- SHA-384. -/
def sha384 (m : List Byte) : List Byte :=
  let z := (239 - m.length % 128) % 128
  let p := m ++ [(0x80 : Byte)] ++ List.replicate (z) 0 ++ natToOctets 16 (8 * m.length)
  ((pieces 128 p.length p).foldl shaBlock sha384Iv |>.map (fun x => natToOctets 8 x.toNat)).flatten.take 48

/-- HMAC-SHA-384. -/
def hmac384 (key m : List Byte) : List Byte :=
  let k0 := if 128 < key.length then sha384 key else key
  let k := k0 ++ List.replicate (128 - k0.length) 0
  sha384 (k.map (fun b => b ^^^ 0x5C) ++ sha384 (k.map (fun b => b ^^^ 0x36) ++ m))

/-- KDF(K, L, C) of R480, `bits` bits. -/
def kdf384 (key label ctx : List Byte) (bits : Nat) : List Byte :=
  ((List.range ((bits + 383) / 384)).flatMap (fun i =>
    hmac384 key (natToOctets 4 (i + 1) ++ label ++ [(0 : Byte)] ++ ctx ++ natToOctets 4 bits))).take (bits / 8)

/-- The octets of an ASCII label, each given by its code. -/
def ascii (l : String) : List Byte := l.toList.map (fun c => BitVec.ofNat 8 c.toNat)

/-! ### ECDSA P-384 -/

def p384 : Nat := 2 ^ 384 - 2 ^ 128 - 2 ^ 96 + 2 ^ 32 - 1
def n384 : Nat :=
  0xFFFFFFFFFFFFFFFFFFFFFFFFFFFFFFFFFFFFFFFFFFFFFFFFC7634D81F4372DDF581A0DB248B0A77AECEC196ACCC52973
def b384 : Nat :=
  0xB3312FA7E23EE7E4988E056BE3F82D19181D9C6EFE8141120314088F5013875AC656398D8A2ED19D2A85C8EDD3EC2AEF
def gx384 : Nat :=
  0xAA87CA22BE8B05378EB1C71EF320AD746E1D3B628BA79B9859F741E082542A385502F25DBF55296C3A545E3872760AB7
def gy384 : Nat :=
  0x3617DE4A96262C6F5D9E98BF9292DC29F8F41DBD289A147CE9DA3113B5F0B8C00A60B1CE1D7E819D7A431D7C90EA0E5F

/-- `n` bits of modular exponentiation. -/
def powMod (m : Nat) : Nat → Nat → Nat → Nat
  | 0, _, _ => 1 % m
  | n + 1, b, e =>
    let h := powMod m n (b * b % m) (e / 2)
    if e % 2 = 1 then h * b % m else h

/-- Inverse modulo a prime of 384 bits. -/
def invMod (m a : Nat) : Nat := powMod m 384 (a % m) (m - 2)

/-- A point; none is the point at infinity. -/
abbrev EcPoint := Option (Nat × Nat)

def ecAdd (p q : EcPoint) : EcPoint :=
  match p, q with
  | none, q => q
  | p, none => p
  | some (x1, y1), some (x2, y2) =>
    let m := p384
    if x1 = x2 ∧ (y1 + y2) % m = 0 then none
    else
      let l := if x1 = x2 then (3 * x1 * x1 + (m - 3)) * invMod m (2 * y1) % m
        else (y2 + m - y1) * invMod m (x2 + m - x1) % m
      let x3 := (l * l + 2 * m - x1 - x2) % m
      some (x3, (l * (x1 + m - x3) + m - y1) % m)

/-- `n` bits of scalar multiplication. -/
def ecMul : Nat → Nat → EcPoint → EcPoint
  | 0, _, _ => none
  | n + 1, k, p =>
    let h := ecMul n (k / 2) (ecAdd p p)
    if k % 2 = 1 then ecAdd h p else h

def ecG : EcPoint := some (gx384, gy384)

/-- The uncompressed public point of a private key, 97 octets. -/
def ecPublic (d : Nat) : List Byte :=
  match ecMul 384 d ecG with
  | some (x, y) => (4 : Byte) :: (natToOctets 48 x ++ natToOctets 48 y)
  | none => List.replicate 97 0

/-- An uncompressed point of 97 octets that lies on the curve. -/
def ecPoint (l : List Byte) : Option (Nat × Nat) :=
  let x := octetsToNat ((l.drop 1).take 48)
  let y := octetsToNat ((l.drop 49).take 48)
  if l.getD 0 0 = 4 ∧ x < p384 ∧ y < p384 ∧ y * y % p384 = (x * x * x + (p384 - 3) * x + b384) % p384 then some (x, y)
  else none

/-- ECDSA of a digest with the per-signature number k: r then s, 96 octets; none where k does not serve. -/
def ecSign (d k : Nat) (digest : List Byte) : Option (List Byte) :=
  let z := octetsToNat digest
  match ecMul 384 (k % n384) ecG with
  | none => none
  | some (x, _) =>
    let r := x % n384
    let s := invMod n384 k * (z + r * d) % n384
    if r = 0 ∨ s = 0 then none else some (natToOctets 48 r ++ natToOctets 48 s)

/-- Does the signature of 96 octets verify against the public point of 97 octets? -/
def ecVerify (pub digest sig : List Byte) : Bool :=
  let r := octetsToNat (sig.take 48)
  let s := octetsToNat ((sig.drop 48).take 48)
  match ecPoint pub with
  | none => false
  | some q =>
    if r = 0 ∨ n384 ≤ r ∨ s = 0 ∨ n384 ≤ s then false
    else
      let w := invMod n384 s
      match ecAdd (ecMul 384 (octetsToNat digest * w % n384) ecG) (ecMul 384 (r * w % n384) (some q)) with
      | some (x, _) => decide (x % n384 = r)
      | none => false

end Sys2Proof.Machine
end

