-- ==== Sys2Proof/Machine/Mac.lean ====
section
/-! DEFINITION. The MAC frame of IEEE 802.15.4-2020 as far as the vault and the signal box read and write it: frame
control, addressing, auxiliary security header and header IEs (PRESUMED from that standard, log 34). -/

namespace Sys2Proof.Machine

/-- A MAC address. -/
inductive MacAddr where
  | absent
  | short (a : Nat)
  | ext (a : Nat)
deriving DecidableEq, Repr

/-- The auxiliary security header: level, key identifier mode, frame counter (none where suppressed), key source and
index, and the offset of the counter. -/
structure AuxHdr where
  level : Nat
  kim : Nat
  counter : Option Nat
  source : Nat
  index : Nat
  ctrAt : Nat
deriving DecidableEq, Repr

/-- A header IE: element id and contents. -/
structure HdrIe where
  id : Nat
  data : List Byte
deriving DecidableEq, Repr

/-- A parsed MAC header; `len` octets from the frame's first to the end of its header IEs. -/
structure MacHdr where
  typ : Nat
  ver : Nat
  ackReq : Bool
  seq : Option Byte
  dstPan : Option Nat
  dst : MacAddr
  srcPan : Option Nat
  src : MacAddr
  aux : Option AuxHdr
  ies : List HdrIe
  len : Nat
deriving DecidableEq, Repr

/-- `n` octets from offset `i`, least significant first; none past the end. -/
def leAt (l : List Byte) (i n : Nat) : Option Nat :=
  if i + n ≤ l.length then some (octetsToNat ((l.drop i).take n).reverse) else none

/-- The `n` octets of a number, least significant first. -/
def leOctets (n v : Nat) : List Byte := (natToOctets n v).reverse

/-- Header IEs from offset `i`: the elements and the offset after them. -/
def parseIes (l : List Byte) : Nat → Nat → Option (List HdrIe × Nat)
  | 0, _ => none
  | f + 1, i =>
    if i = l.length then some ([], i)
    else
      match leAt l i 2 with
      | none => none
      | some d =>
        let n := d % 128
        let id := d / 128 % 256
        if 32768 ≤ d ∨ l.length < i + 2 + n then none
        else if id = 0x7E ∨ id = 0x7F then some ([], i + 2)
        else
          match parseIes l f (i + 2 + n) with
          | none => none
          | some (r, e) => some (⟨id, (l.drop (i + 2)).take n⟩ :: r, e)

/-- An address field of mode `m` (0 none, 2 short, 3 extended) and the offset after it. -/
def parseAddr (l : List Byte) (m i : Nat) : Option (MacAddr × Nat) :=
  match m with
  | 0 => some (.absent, i)
  | 2 => (leAt l i 2).map (fun a => (.short a, i + 2))
  | 3 => (leAt l i 8).map (fun a => (.ext a, i + 8))
  | _ => none

/-- A PAN identifier field that is there or not. -/
def parsePan (l : List Byte) (there : Bool) (i : Nat) : Option (Option Nat × Nat) :=
  if there then (leAt l i 2).map (fun a => (some a, i + 2)) else some (none, i)

/-- Which PAN identifier fields a frame has: destination, source. -/
def panFields (ver dm sm : Nat) (pc : Bool) : Bool × Bool :=
  if ver < 2 then (decide (dm ≠ 0), decide (sm ≠ 0) && !(pc && decide (dm ≠ 0)))
  else if dm = 0 ∧ sm = 0 then (pc, false)
  else if sm = 0 then (!pc, false)
  else if dm = 0 then (false, !pc)
  else if dm = 3 ∧ sm = 3 then (!pc, false)
  else (true, !pc)

/-- The auxiliary security header at offset `i` and the offset after it. -/
def parseAux (l : List Byte) (i : Nat) : Option (AuxHdr × Nat) :=
  match leAt l i 1 with
  | none => none
  | some c =>
    let kim := c / 8 % 4
    let sup := decide (c / 32 % 2 = 1)
    let j := if sup then i + 1 else i + 5
    let sl := if kim = 2 then 4 else if kim = 3 then 8 else 0
    let e := j + sl + (if kim = 0 then 0 else 1)
    if l.length < e then none
    else
      some (⟨c % 8, kim, if sup then none else leAt l (i + 1) 4, (leAt l j sl).getD 0,
        if kim = 0 then 0 else (l.getD (j + sl) 0).toNat, i + 1⟩, e)

/-- Octets of the MIC by an auxiliary header. -/
def micOf (lv : Nat) : Nat :=
  match lv % 4 with
  | 0 => 0
  | 1 => 4
  | 2 => 8
  | _ => 16

/-- The header of a frame given without its FCS; with `mic` its last octets are those of the MIC. -/
def parseMac (withMic : Bool) (l : List Byte) : Option MacHdr :=
  match leAt l 0 2 with
  | none => none
  | some f =>
    let sec := decide (f / 8 % 2 = 1)
    let pc := decide (f / 64 % 2 = 1)
    let noSeq := decide (f / 256 % 2 = 1)
    let iesOn := decide (f / 512 % 2 = 1)
    let dm := f / 1024 % 4
    let ver := f / 4096 % 4
    let sm := f / 16384 % 4
    if ver = 3 then none
    else
      let skip := decide (ver = 2) && noSeq
      let pf := panFields ver dm sm pc
      do
        let sq ← if skip then some 0 else leAt l 2 1
        let i0 := if skip then 2 else 3
        let (dp, i1) ← parsePan l pf.1 i0
        let (da, i2) ← parseAddr l dm i1
        let (sp, i3) ← parsePan l pf.2 i2
        let (sa, i4) ← parseAddr l sm i3
        let (ax, i5) ← if sec then (parseAux l i4).map (fun p => (some p.1, p.2)) else some (none, i4)
        let mic := match ax with
          | some a => if withMic then micOf a.level else 0
          | none => 0
        let body := l.take (l.length - mic)
        let (es, i6) ← if decide (ver = 2) && iesOn then parseIes body (l.length + 1) i5 else some ([], i5)
        if body.length < i6 then none
        else
          some { typ := f % 8, ver := ver, ackReq := decide (f / 32 % 2 = 1),
                 seq := if skip then none else some (BitVec.ofNat 8 sq),
                 dstPan := dp, dst := da, srcPan := sp, src := sa, aux := ax, ies := es, len := i6 }

/-- The PAN that a frame's source address belongs to, if the frame carries one. -/
def MacHdr.pan (h : MacHdr) : Option Nat :=
  match h.srcPan with
  | some p => some p
  | none => h.dstPan

/-! ### FCS -/

/-- Octets of the FCS (PRESUMED 2, log 34). -/
def fcsLen : Nat := 2

/-- One octet into the reflected CRC-16 of the FCS. -/
def fcsOctet (c : BitVec 16) (b : Byte) : BitVec 16 :=
  (List.range 8).foldl (fun (x : BitVec 16) _ => if x.getLsbD 0 then (x >>> 1) ^^^ 0x8408 else x >>> 1)
    (c ^^^ b.setWidth 16)

/-- The FCS of a frame, low octet first. -/
def fcsOf (l : List Byte) : List Byte := leOctets 2 (l.foldl fcsOctet 0).toNat

/-- The frame with its FCS. -/
def withFcs (l : List Byte) : List Byte := l ++ fcsOf l

/-- A PSDU without its FCS. -/
def noFcs (l : List Byte) : List Byte := l.take (l.length - fcsLen)

end Sys2Proof.Machine
end

