-- ==== Sys2Proof/Machine/Cuckoo.lean ====
section
/-! DEFINITION. The two-choice cuckoo tables of points (R347–R351). -/

namespace Sys2Proof.Machine

def cuckooBuckets : Nat := 81920

/-- CRC-32C of the seed and the key, as a bucket. -/
def bucketOf (seed : List Byte) (key : List Byte) : Nat := (crc32cOf (seed ++ key)).toNat % cuckooBuckets

/-- The two buckets of a key (R348). -/
def bucketsOf (seed : Word) (key : List Byte) : Nat × Nat :=
  let b1 := bucketOf (octets seed) key
  let b2 := bucketOf (octets (~~~seed)) key
  (b1, if b2 = b1 then (b1 + 1) % cuckooBuckets else b2)

/-- What a slot holds: key and value. -/
def Cuckoo.slot (c : Cuckoo) (b w : Nat) : Option (Nat × Nat) := mapGet (fun _ => none) c.slots (4 * b + w)

def Cuckoo.setSlot (c : Cuckoo) (b w : Nat) (x : Option (Nat × Nat)) : Cuckoo :=
  { c with slots := mapPut (fun _ => none) c.slots (4 * b + w) x }

/-- The way of a bucket that holds a key. -/
def Cuckoo.wayOf (c : Cuckoo) (b k : Nat) : Option Nat :=
  (upTo 4).find? (fun w => decide ((c.slot b w).map Prod.fst = some k))

/-- The lowest free way of a bucket. -/
def Cuckoo.freeWay (c : Cuckoo) (b : Nat) : Option Nat := (upTo 4).find? (fun w => (c.slot b w).isNone)

/-- Keys in a bucket. -/
def Cuckoo.load (c : Cuckoo) (b : Nat) : Nat := ((upTo 4).filter (fun w => (c.slot b w).isSome)).length

/-- The value of a key: both buckets and the stash, as one probe (R351). -/
def Cuckoo.find (c : Cuckoo) (b : Nat × Nat) (k : Nat) : Option Nat :=
  match c.wayOf b.1 k with
  | some w => (c.slot b.1 w).map Prod.snd
  | none =>
    match c.wayOf b.2 k with
    | some w => (c.slot b.2 w).map Prod.snd
    | none => (c.stash.find? (fun e => decide (e.1 = k))).map Prod.snd

/-- Remove a key. -/
def Cuckoo.erase (c : Cuckoo) (b : Nat × Nat) (k : Nat) : Cuckoo :=
  match c.wayOf b.1 k with
  | some w => c.setSlot b.1 w none
  | none =>
    match c.wayOf b.2 k with
    | some w => c.setSlot b.2 w none
    | none => { c with stash := c.stash.filter (fun e => decide (e.1 ≠ k)) }

/-- Rewrite the value of a key that is present. -/
def Cuckoo.rewrite (c : Cuckoo) (b : Nat × Nat) (k v : Nat) : Cuckoo :=
  match c.wayOf b.1 k with
  | some w => c.setSlot b.1 w (some (k, v))
  | none =>
    match c.wayOf b.2 k with
    | some w => c.setSlot b.2 w (some (k, v))
    | none => { c with stash := c.stash.map (fun e => if e.1 = k then (k, v) else e) }

/-- The displacement path from bucket `b` (R349): its slots in order, and the free slot at its end. `d` is the number
of the next move and `n` the moves left. -/
def Cuckoo.path (c : Cuckoo) (bs : Nat → Nat × Nat) (b d : Nat) : Nat → Option (List (Nat × Nat))
  | 0 => none
  | n + 1 =>
    let w := d % 4
    match c.slot b w with
    | none => none
    | some (k, _) =>
      let p := bs k
      let o := if p.1 = b then p.2 else p.1
      match c.freeWay o with
      | some f => some [(b, w), (o, f)]
      | none =>
        match c.path bs o (d + 1) n with
        | none => none
        | some l => some ((b, w) :: l)

/-- Move keys along a path from its end backwards (R350). -/
def Cuckoo.shift (c : Cuckoo) : List (Nat × Nat) → Cuckoo
  | [] => c
  | [_] => c
  | a :: b :: r =>
    let t := c.shift (b :: r)
    (t.setSlot b.1 b.2 (t.slot a.1 a.2)).setSlot a.1 a.2 none

/-- The result of an insertion: the table, the moves made, and whether the key went to the stash. -/
structure Inserted where
  table : Cuckoo
  moves : Nat
  stashed : Bool
deriving DecidableEq, Repr

/-- Insert a key (R349); none when the stash is full too. `bs` gives the buckets of a key. The path begins at b1 with
move 1 (DEDUCED, log 26). -/
def Cuckoo.insert (c : Cuckoo) (bs : Nat → Nat × Nat) (k v : Nat) : Option Inserted :=
  let b := bs k
  match c.find b k with
  | some _ => some ⟨c.rewrite b k v, 0, false⟩
  | none =>
    let t := if c.load b.2 < c.load b.1 then b.2 else b.1
    match c.freeWay t with
    | some w => some ⟨c.setSlot t w (some (k, v)), 0, false⟩
    | none =>
      match c.path bs b.1 1 64 with
      | some ((b0, w0) :: r) => some ⟨(c.shift ((b0, w0) :: r)).setSlot b0 w0 (some (k, v)), r.length, false⟩
      | _ =>
        if c.stash.length < 64 then some ⟨{ c with stash := c.stash ++ [(k, v)] }, 0, true⟩ else none

/-- No key is held. -/
def Cuckoo.isEmpty (c : Cuckoo) : Bool := c.slots.isEmpty && c.stash.isEmpty

/-- Keys held. -/
def Cuckoo.size (c : Cuckoo) : Nat := c.slots.length + c.stash.length

end Sys2Proof.Machine
end

