-- ==== Sys2Proof/Machine/PointsOps.lean ====
section
/-! DEFINITION. Node entries, indexes, routes and learning (R341–R359, R368–R373). -/

namespace Sys2Proof.Machine

/-! ### Node entries (Table 08-3) -/

def State.nodeWord (s : State) (h w : Nat) : Word := mapGet zeroWord s.pt.nodes (16 * h + w)

/-- The sixteen words of an entry. -/
def State.nodeEntry (s : State) (h : Nat) : List Word := (upTo 16).map (s.nodeWord h)

/-- Write words of an entry from word `w` on. -/
def State.putNode (s : State) (h : Nat) : Nat → List Word → State
  | _, [] => s
  | w, v :: r => State.putNode (s.modPt (fun p => { p with nodes := mapPut zeroWord p.nodes (16 * h + w) v })) h (w + 1) r

/-- A word of an entry given as a list. -/
def ew (e : List Word) (w : Nat) : Word := e.getD w 0

def enState (e : List Word) : Nat := fld (ew e 2) 7 5
def enEui (e : List Word) : Nat := ((ew e 0).toNat * 2 ^ 24 + (ew e 1).toNat) * 2 ^ 16 + fld (ew e 2) 23 8
def enSv (e : List Word) : Bool := bit (ew e 2) 0
def enDirty (e : List Word) : Bool := bit (ew e 2) 3
def enStatic (e : List Word) : Bool := bit (ew e 2) 4
def enShort (e : List Word) : Nat := fld (ew e 3) 23 8 * 2 ^ 16 + fld (ew e 4) 23 8
def enIng (e : List Word) : Nat := fld (ew e 3) 7 4
def enParent (e : List Word) : Nat := fld (ew e 4) 7 0 * 2 ^ 10 + fld (ew e 5) 23 14
def enLast (e : List Word) : Nat := (ew e 10).toNat * 2 ^ 8 + fld (ew e 11) 23 16

/-- The short address of an entry's key, by PAN and SHORT. -/
def shortKey (pan sh : Nat) : Nat := pan * 2 ^ 16 + sh

/-- The octets of a key (R348). -/
def euiOctets (k : Nat) : List Byte := natToOctets 8 k
def shortOctets (k : Nat) : List Byte := natToOctets 4 k
def hashOctets (k : Nat) : List Byte := natToOctets 17 k

def State.hseed (s : State) : Word := s.reg (aPT 0x21)
def State.euiBs (s : State) (k : Nat) : Nat × Nat := bucketsOf s.hseed (euiOctets k)
def State.shortBs (s : State) (k : Nat) : Nat × Nat := bucketsOf s.hseed (shortOctets k)
def State.hashBs (s : State) (k : Nat) : Nat × Nat := bucketsOf s.hseed (hashOctets k)

def State.findEui (s : State) (k : Nat) : Option Nat := s.pt.eui.find (s.euiBs k) k
def State.findShort (s : State) (k : Nat) : Option Nat := s.pt.short.find (s.shortBs k) k

/-- The handles of valid entries, rising, with their LSTATE. -/
def State.validNodes (s : State) : List (Nat × Nat) :=
  (s.pt.nodes.filter (fun e => decide (e.1 % 16 = 2) && decide (fld e.2 7 5 ≠ 0))).map (fun e => (e.1 / 16, fld e.2 7 5))

/-- The first number from `b` on that a rising list leaves out. -/
def firstGap (b : Nat) : List Nat → Nat
  | [] => b
  | x :: r => if x = b then firstGap (b + 1) r else b

/-- The lowest free handle of a half. -/
def State.freeHandle (s : State) (upper : Bool) : Option Nat :=
  let lo := if upper then 131072 else 0
  let h := firstGap lo ((s.validNodes.map Prod.fst).filter (fun h => decide (lo ≤ h ∧ h < lo + 131072)))
  if h < lo + 131072 then some h else none

/-- LEARNED entries of an ingress (PT_INGCNT). -/
def State.ingCount (s : State) (i : Nat) : Nat :=
  (s.validNodes.filter (fun e => decide (e.2 = 3) && decide (fld (s.nodeWord e.1 3) 7 4 = i))).length

/-! ### Events and counters (Table 08-14) -/

/-- Event `e` at the first occurrence since its counter was read. -/
def State.ptTold (s : State) (e : Nat) : State :=
  if mapGet (fun _ => false) s.pt.told e then s
  else (s.modPt (fun p => { p with told := mapPut (fun _ => false) p.told e true })).raise e

def State.ptUntold (s : State) (e : Nat) : State :=
  s.modPt (fun p => { p with told := mapPut (fun _ => false) p.told e false })

/-- A corrected error (R375). -/
def State.ptEcc1 (s : State) : State := (s.count (aPT 0x2C)).occur 0x60

/-- An uncorrectable error has been met (R375). -/
def State.ptEcc2 (s : State) : State := ((s.count (aPT 0x2D)).occur 0x61).ptTold 451

/-- What an insertion leaves in the records: moves and stash occupancy, and event 454. -/
def State.inserted (s : State) (old : Cuckoo) (r : Inserted) : State :=
  let t := (s.occurV 0x6A (wd r.moves)).occurV 0x6B (wd r.table.stash.length)
  if old.stash.length < 48 ∧ 48 ≤ r.table.stash.length then t.raise 454 else t

/-! ### Uncorrectable errors -/

def State.badStable (s : State) (h : Nat) : Bool := mapGet (fun _ => false) s.pt.eccStable h
def State.badLive (s : State) (h : Nat) : Bool := mapGet (fun _ => false) s.pt.eccLive h
def State.badDirect (s : State) (x : Nat) : Bool := mapGet (fun _ => false) s.pt.eccDirect x
def State.badFilter (s : State) (x : Nat) : Bool := mapGet (fun _ => false) s.pt.eccFilter x

/-- The words of an entry have been rewritten whole. -/
def State.soundNode (s : State) (h : Nat) : State :=
  s.modPt (fun p => { p with eccStable := mapDel p.eccStable h, eccLive := mapDel p.eccLive h })

/-- An uncorrectable live part is cleared (R376). -/
def State.clearLive (s : State) (h : Nat) : State :=
  (s.putNode h 10 (List.replicate 6 0)).modPt (fun p => { p with eccLive := mapDel p.eccLive h })

/-- An access to an entry meets its errors: FAULT with ECC where it does. -/
def State.nodeEcc (s : State) (h : Nat) : Option State :=
  if s.badLive h then some (s.ptEcc2.clearLive h)
  else if s.badStable h then some s.ptEcc2
  else none

/-! ### Answers of commands (Table 08-13) -/

/-- What a command writes to its port. -/
structure PtAns where
  status : Status := .ok
  detail : Nat := 0
  disp : Nat := 0
  handle : Option Nat := none
  /-- Data words from word 0 on. -/
  data : List Word := []
  /-- DATA1 alone (LEARN). -/
  data1 : Option Word := none
deriving DecidableEq, Repr

def ptOk : PtAns := {}
def ptRef (st : Status) (d : Nat) : PtAns := { status := st, detail := d }

/-! ### Writing an entry (NWRITE, NINSERT, R342, R347, R349) -/

/-- The new entry as stored: DIRTY and RET 0 (R344). -/
def cleanEntry (e : List Word) : List Word := e.set 2 (setFld (ew e 2) 3 2 0)

/-- Keys of the indexes after entry `h` changes from `old` to `new`; none when an insertion fails. -/
def State.reindex (s : State) (h : Nat) (old new : List Word) : Option (State × Nat × Bool) :=
  let oe := enState old ≠ 0
  let ne := enState new ≠ 0
  let i1 : Option Inserted :=
    if ne then s.pt.eui.insert s.euiBs (enEui new) h else some ⟨s.pt.eui, 0, false⟩
  let i2 : Option Inserted :=
    if ne ∧ enSv new = true then s.pt.short.insert s.shortBs (enShort new) h else some ⟨s.pt.short, 0, false⟩
  match i1, i2 with
  | some a, some b =>
    let eui := if oe ∧ ¬(ne ∧ enEui new = enEui old) then a.table.erase (s.euiBs (enEui old)) (enEui old) else a.table
    let short :=
      if oe ∧ enSv old = true ∧ ¬(ne ∧ enSv new = true ∧ enShort new = enShort old) then
        b.table.erase (s.shortBs (enShort old)) (enShort old)
      else b.table
    let t := s.modPt (fun p => { p with eui := eui, short := short })
    let t1 := if ne then (t.inserted s.pt.eui a) else t
    let t2 := if ne ∧ enSv new = true then t1.inserted s.pt.short b else t1
    some (t2, a.moves + b.moves, a.stashed || b.stashed)
  | _, _ => none

/-- Reserved fields of the words of an entry from W0 on. -/
def entryRsvd (e : List Word) : Bool := bit (ew e 3) 2 || decide (fld (ew e 6) 1 0 ≠ 0) || bit (ew e 15) 0

/-- LSTATE against the half of a handle (R342). -/
def halfBad (h : Nat) (st : Nat) : Bool :=
  if h < 131072 then decide (st = 3) || decide (st = 4) else decide (st = 1) || decide (st = 2)

/-- A key of the entry is held by another valid entry. -/
def State.dupKey (s : State) (h : Option Nat) (e : List Word) : Bool :=
  let other := fun (o : Option Nat) => o.isSome && decide (o ≠ h)
  other (s.findEui (enEui e)) || (enSv e && other (s.findShort (enShort e)))

/-- PARENT is 0–131,071 or #3_FFFF. -/
def parentBad (e : List Word) : Bool := decide (131072 ≤ enParent e) && decide (enParent e ≠ 0x3FFFF)

/-- The entry becomes FREE (NDELETE, NWRITE of FREE, ageing). -/
def State.deleteNode (s : State) (h : Nat) : State :=
  let old := s.nodeEntry h
  let t := match s.reindex h old [] with
    | some r => r.1
    | none => s
  (t.putNode h 0 (List.replicate 16 0)).soundNode h

/-- A whole entry written at handle `h` (NWRITE and NINSERT) after its checks. -/
def State.storeNode (s : State) (h : Nat) (e : List Word) : PtAns × State :=
  match s.reindex h (s.nodeEntry h) e with
  | none => (ptRef .full 0x14, s)
  | some (t, m, st) => ({ detail := if st then 9 else 0, disp := m, handle := some h }, (t.putNode h 0 e).soundNode h)

/-- NWRITE. -/
def State.nwrite (s : State) (h : Nat) (e : List Word) : PtAns × State :=
  let st := enState e
  if entryRsvd e then (ptRef .badarg 0x12, s)
  else if halfBad h st then (ptRef .badarg 0x10, s)
  else if 4 < st then (ptRef .badarg 0x12, s)
  else if st = 0 then (ptOk, s.deleteNode h)
  else if parentBad e then (ptRef .badarg 0x12, s)
  else if s.dupKey (some h) e then (ptRef .badarg 0x11, s)
  else
    let r := s.storeNode h (cleanEntry e)
    ({ r.1 with handle := none }, r.2)

/-- NINSERT in a half. -/
def State.ninsert (s : State) (upper : Bool) (e : List Word) : PtAns × State :=
  let st := enState e
  if entryRsvd e then (ptRef .badarg 0x12, s)
  else if halfBad (if upper then 131072 else 0) st then (ptRef .badarg 0x10, s)
  else if 4 < st ∨ st = 0 ∨ parentBad e = true then (ptRef .badarg 0x12, s)
  else if s.dupKey none e then (ptRef .badarg 0x11, s)
  else
    match s.freeHandle upper with
    | none => (ptRef .full 0x14, s)
    | some h => s.storeNode h (cleanEntry e)

/-- The signal box's insertion of a provisional entry (R369): an NINSERT with DIRTY then set. -/
def State.sbInsert (s : State) (eui : Nat) : PtAns × State :=
  let e : List Word :=
    [wd (eui / 2 ^ 40), wd (eui / 2 ^ 16), wd (eui % 2 ^ 16 * 2 ^ 8 + 1 * 2 ^ 5), 0, wd 0xFF, wd (0x3FF * 2 ^ 14)] ++
      List.replicate 10 0
  let r := s.ninsert false e
  match r.1.status, r.1.handle with
  | .ok, some h => (r.1, r.2.putNode h 2 [setBit (r.2.nodeWord h 2) 3 true])
  | _, _ => r

/-! ### Node commands -/

/-- The short time as LAST holds it: [47:16]. -/
def State.lastNow (s : State) : Nat := s.shortTime.toNat / 2 ^ 16

/-- NREAD. -/
def State.nread (s : State) (h : Nat) : PtAns × State :=
  match s.nodeEcc h with
  | some t => (ptRef .fault 0x17, t)
  | none =>
    let e := s.nodeEntry h
    if enState e = 0 then (ptRef .absent 0, s) else ({ data := e }, s)

/-- NDELETE. -/
def State.ndelete (s : State) (h : Nat) : PtAns × State :=
  match s.nodeEcc h with
  | some t => (ptRef .fault 0x17, t)
  | none => if enState (s.nodeEntry h) = 0 then (ptRef .absent 0, s) else (ptOk, s.deleteNode h)

/-- NFIND by EUI-64 or by (PAN, SHORT). -/
def State.nfind (s : State) (kt : Bool) (key : Nat) : PtAns × State :=
  match (if kt then s.findShort key else s.findEui key) with
  | none => (ptRef .absent 0, s)
  | some h =>
    match s.nodeEcc h with
    | some t => (ptRef .fault 0x17, t)
    | none => ({ handle := some h, data := s.nodeEntry h }, s)

/-- NUPDL: the live part, and RET clears (R345). -/
def State.nupdl (s : State) (h : Nat) (live : List Word) : PtAns × State :=
  if bit (live.getD 5 0) 0 then (ptRef .badarg 0x12, s)
  else if s.badStable h then (ptRef .fault 0x17, s.ptEcc2)
  else if enState (s.nodeEntry h) = 0 then (ptRef .absent 0, s)
  else
    (ptOk, ((s.putNode h 10 live).putNode h 2 [setBit (s.nodeWord h 2) 2 false]).modPt
      (fun p => { p with eccLive := mapDel p.eccLive h }))

/-- The stable part with DIRTY and RET masked. -/
def maskStable (e : List Word) : List Word := (e.take 10).set 2 (setFld (ew e 2) 3 2 0)

/-- NSYNC (R380). -/
def State.nsync (s : State) (h : Nat) (e : List Word) : PtAns × State :=
  if bit (ew e 3) 2 || decide (fld (ew e 6) 1 0 ≠ 0) then (ptRef .badarg 0x12, s)
  else
    match s.nodeEcc h with
    | some t => (ptRef .fault 0x17, t)
    | none =>
      let old := s.nodeEntry h
      if enState old = 0 then (ptRef .absent 0, s)
      else if maskStable old ≠ maskStable e then (ptRef .busy 0x15, s)
      else (ptOk, s.putNode h 2 [setBit (ew old 2) 3 false])

/-! ### Learning (R370) -/

/-- The entry with ING and PARENT. -/
def enPlace (e : List Word) (ing parent : Nat) : List Word :=
  ((e.set 3 (setFld (ew e 3) 7 4 ing)).set 4 (setFld (ew e 4) 7 0 (parent / 2 ^ 10))).set 5 (setFld (ew e 5) 23 14 parent)

/-- The entry with LAST. -/
def enSetLast (e : List Word) (t : Nat) : List Word :=
  (e.set 10 (wd (t / 2 ^ 8))).set 11 (setFld (ew e 11) 23 16 t)

/-- PT_FLOODQ of an ingress. -/
def State.floodQ (s : State) (i : Nat) : Word := wd (fld (s.reg (aPT (0xA0 + i))) 17 0)

/-- POLICY is ROAMING. -/
def State.roaming (s : State) : Bool := bit (s.reg (aPT 0x20)) 23

/-- LEARN finds an entry. -/
def State.learnFound (s : State) (h ing parent : Nat) : PtAns × State :=
  let e0 := s.nodeEntry h
  let e := e0.set 2 (setBit (ew e0 2) 2 false)
  let learned := decide (enState e = 3)
  let stamp := fun (x : List Word) => if learned then enSetLast x s.lastNow else x
  let done := fun (d : Nat) (x : List Word) => (({ detail := d, handle := some h } : PtAns), s.putNode h 0 x)
  if enIng e = ing ∧ enParent e = parent then done 1 (stamp e)
  else if enStatic e then
    let r := done 5 e
    (r.1, (r.2.count (aPT 0x2B)).occur 0x65)
  else if !s.roaming then
    let r := done 4 e
    (r.1, (r.2.count (aPT 0x2B)).occur 0x65)
  else
    let x := enPlace e ing parent
    let r := done 3 (stamp (x.set 2 (setBit (ew x 2) 3 true)))
    (r.1, (r.2.count (aPT 0x2A)).occur 0x64)

/-- LEARN fails for lack of room: the frame is flooded. -/
def State.learnFull (s : State) (ing : Nat) : PtAns × State :=
  ({ status := .full, detail := 7, data1 := some (s.floodQ ing) }, ((s.count (aPT 0x28)).occur 0x62).ptTold 452)

/-- LEARN (R370). -/
def State.learn (s : State) (kt : Bool) (key ing parent : Nat) : PtAns × State :=
  match (if kt then s.findShort key else s.findEui key) with
  | some h =>
    match s.nodeEcc h with
    | some t => (ptRef .fault 0x17, t)
    | none => s.learnFound h ing parent
  | none =>
    let cfg := s.reg (aPT (0x60 + ing))
    if kt then ({ status := .absent, data1 := some (s.floodQ ing) }, s)
    else if !s.roaming && decide (fld cfg 17 0 ≤ s.ingCount ing) then
      let t := ((s.count (aPT 0x29)).occur 0x63).ptTold 453
      if bit cfg 23 then ({ status := .full, detail := 7, data1 := some (s.floodQ ing) }, t)
      else ({ status := .full, detail := 6 }, t)
    else
      match s.freeHandle true with
      | none => s.learnFull ing
      | some h =>
        let e0 : List Word :=
          [wd (key / 2 ^ 40), wd (key / 2 ^ 16), wd (key % 2 ^ 16 * 2 ^ 8 + 3 * 2 ^ 5 + 2 ^ 3)] ++ List.replicate 13 0
        match s.storeNode h (enSetLast (enPlace e0 ing parent) s.lastNow) with
        | (⟨.ok, _, m, _, _, _⟩, t) => ({ detail := 2, disp := m, handle := some h }, t)
        | _ => s.learnFull ing

/-! ### Routes (R353–R359) -/

/-- The prefix masked to its length. -/
def maskPfx (len a : Nat) : Nat := a / 2 ^ (128 - len) * 2 ^ (128 - len)

/-- The key of the hash memory. -/
def hashKey (len a : Nat) : Nat := len * 2 ^ 128 + maskPfx len a

/-- A result as one number, R0 and R1. -/
def routeVal (r0 r1 : Word) : Nat := r0.toNat * 2 ^ 24 + r1.toNat

def State.findRoute (s : State) (len a : Nat) : Option Nat := s.pt.hash.find (s.hashBs (hashKey len a)) (hashKey len a)

def State.directWord (s : State) (x w : Nat) : Word := mapGet zeroWord s.pt.direct (2 * x + w)
def State.filterWord (s : State) (x w : Nat) : Word := mapGet zeroWord s.pt.filter (5 * x + w)

def State.setDirect (s : State) (x : Nat) (r0 r1 : Word) : State :=
  s.modPt (fun p =>
    { p with direct := mapPut zeroWord (mapPut zeroWord p.direct (2 * x) r0) (2 * x + 1) r1, eccDirect := mapDel p.eccDirect x })

def State.setFilter (s : State) (x w : Nat) (v : Word) : State :=
  s.modPt (fun p => { p with filter := mapPut zeroWord p.filter (5 * x + w) v })

/-- The filter bit of length `l` at index `x` (R355). -/
def State.filterBit (s : State) (x l : Nat) : Bool := bit (s.filterWord x ((l - 17) / 24)) (23 - (l - 17) % 24)

/-- Set it. -/
def State.setFilterBit (s : State) (x l : Nat) : State :=
  s.setFilter x ((l - 17) / 24) (setBit (s.filterWord x ((l - 17) / 24)) (23 - (l - 17) % 24) true)

/-- The route count. -/
def State.routeCount (s : State) : Nat := s.pt.hash.size

/-- KIND is reserved, or R0's reserved field is set. -/
def routeBad (r0 : Word) : Bool := decide (5 < fld r0 23 21) || decide (fld r0 20 18 ≠ 0)

/-- The insertion of a route: its answer, REPLACED or STASH, with the filter bit set (R356). -/
def State.putRoute (s : State) (len a : Nat) (r0 r1 : Word) : PtAns × State :=
  let k := hashKey len a
  let was := (s.findRoute len a).isSome
  match s.pt.hash.insert s.hashBs k (routeVal r0 r1) with
  | none => (ptRef .full 0x14, s)
  | some r =>
    let t := (s.modPt (fun p => { p with hash := r.table })).inserted s.pt.hash r
    ({ detail := if was then 8 else if r.stashed then 9 else 0, disp := r.moves },
      if was then t else t.setFilterBit (a / 2 ^ 112) len)

/-- RADD. -/
def State.radd (s : State) (len a : Nat) (r0 r1 : Word) : PtAns × State :=
  if len < 17 ∨ 128 < len ∨ routeBad r0 = true then (ptRef .badarg 0x12, s)
  else if s.badFilter (a / 2 ^ 112) then (ptRef .fault 0x17, s.ptEcc2)
  else if (s.findRoute len a).isNone && decide (262144 ≤ s.routeCount) then (ptRef .full 0x13, s)
  else s.putRoute len a r0 r1

/-- RDEL: the filter is unchanged. A length outside 17–128 is held by no key. -/
def State.rdel (s : State) (len a : Nat) : PtAns × State :=
  let k := hashKey (min len 128) a
  if len < 17 ∨ 128 < len ∨ (s.findRoute len a).isNone = true then (ptRef .absent 0, s)
  else (ptOk, s.modPt (fun p => { p with hash := p.hash.erase (s.hashBs k) k }))

/-- RFIND. -/
def State.rfind (s : State) (len a : Nat) : PtAns × State :=
  if len < 17 ∨ 128 < len then (ptRef .absent 0, s)
  else
    match s.findRoute len a with
    | none => (ptRef .absent 0, s)
    | some v => ({ data := [wd (v / 2 ^ 24), wd v] }, s)

/-- The probes of LOOKUP from length `l + 16` down to 17: the value and length found, and P (R358). -/
def State.probeDown (s : State) (a : Nat) : Nat → Nat → Option (Nat × Nat) × Nat
  | 0, p => (none, p)
  | l + 1, p =>
    let len := l + 17
    if s.filterBit (a / 2 ^ 112) len then
      match s.findRoute len a with
      | some v => (some (v, len), p + 1)
      | none => s.probeDown a l (p + 1)
    else s.probeDown a l p

/-- Node resolution of LOOKUP (R359): DATA3. -/
def State.resolve (s : State) (a : Nat) (r0 r1 : Word) : Word :=
  if fld r0 23 21 ≠ 1 then 0
  else
    let iid := a % 2 ^ 64
    let short := decide (iid / 2 ^ 16 = 0x000000FFFE00)
    let h := if short then s.findShort (shortKey (fld r1 15 0) (iid % 2 ^ 16))
      else s.findEui (BitVec.ofNat 64 iid ^^^ (0x0200000000000000 : BitVec 64)).toNat
    match h with
    | none => 0
    | some h => wd (2 ^ 23 + b2n short * 2 ^ 22 + h)

/-- LOOKUP. -/
def State.lookup (s : State) (a : Nat) (resolve : Bool) : PtAns × State :=
  let x := a / 2 ^ 112
  if s.badFilter x then (ptRef .fault 0x17, s.ptEcc2)
  else
    let r := s.probeDown a 112 0
    if r.1.isNone && s.badDirect x then (ptRef .fault 0x17, s.ptEcc2)
    else
      let t := ((s.count (aPT 0x26)).countBy (aPT 0x27) r.2).occurV 0x69 (wd r.2)
      let (r0, r1, ml) : Word × Word × Nat := match r.1 with
        | some (v, len) => (wd (v / 2 ^ 24), wd v, len)
        | none => (s.directWord x 0, s.directWord x 1, fld (s.directWord x 1) 23 16)
      ({ data := [r0, r1, wd (ml * 2 ^ 16 + r.2 * 2 ^ 8), if resolve then s.resolve a r0 r1 else 0] }, t)

/-- DSET. -/
def State.dset (s : State) (x : Nat) (r0 r1 : Word) : PtAns × State :=
  if 16 < fld r1 23 16 ∨ routeBad r0 = true then (ptRef .badarg 0x12, s) else (ptOk, s.setDirect x r0 r1)

/-- DGET. -/
def State.dget (s : State) (x : Nat) : PtAns × State :=
  if s.badDirect x then (ptRef .fault 0x17, s.ptEcc2) else ({ data := [s.directWord x 0, s.directWord x 1] }, s)

/-- The five words of a filter entry. -/
def State.filterEntry (s : State) (x : Nat) : List Word := (upTo 5).map (s.filterWord x)

/-- FGET. -/
def State.fget (s : State) (x : Nat) : PtAns × State :=
  if s.badFilter x then (ptRef .fault 0x17, s.ptEcc2) else ({ data := s.filterEntry x }, s)

/-- FCLR. -/
def State.fclr (s : State) (x : Nat) (l : List Word) : PtAns × State :=
  if s.badFilter x then (ptRef .fault 0x17, s.ptEcc2)
  else if fld (ew l 4) 7 0 ≠ 0 then (ptRef .badarg 0x12, s)
  else
    let t := (upTo 5).foldl (fun u w => u.setFilter x w (u.filterWord x w &&& ~~~(ew l w))) s
    ({ data := t.filterEntry x }, t)

end Sys2Proof.Machine
end

