-- ==== Sys2Proof/Machine/VaultOps.lean ====
section
/-! DEFINITION. Roots, blobs and the key cache of the vault (R471–R501), with the entropy source's limits (R505–R509). -/

namespace Sys2Proof.Machine

/-- Word `o` of request window `w` (Table 11-15). -/
def aWin (w o : Nat) : Nat := aKV (0x40 * w + o)

/-! ### Roots (R471, R477–R481) -/

def rootD : List Byte := natToOctets 32 Config.deviceRoot.toNat
def devsn : List Byte := natToOctets 16 Config.deviceSerial.toNat

/-- Owner record `e`, 4,102 octets where one is stored. -/
def State.ownerRec (s : State) (e : Nat) : List Byte := mapGet (fun _ => []) s.kv.owners e

/-- The life-cycle state that the fuses give, with E the fuses burnt (Table 11-1). -/
def Vault.fuseLife (v : Vault) : Fin 6 :=
  if v.fDecom then 5
  else if v.fReturn then 4
  else if 1 ≤ v.fEpoch ∧ v.fDepl.getLsbD v.fEpoch = true then 3
  else if 1 ≤ v.fEpoch ∧ v.fProv.getLsbD v.fEpoch = true then 2
  else if v.fManuf then 1
  else 0

/-- The owner-record key (Table 11-5). -/
def ownerKey : List Byte := kdf384 rootD (ascii "K16-OKR") devsn 384

/-- The root R_M, R_O or R_R of the present life cycle. -/
def State.rootKey (s : State) : List Byte :=
  match s.kv.life.val with
  | 1 => kdf384 rootD (ascii "K16-ROOT-MFG") devsn 256
  | 4 => kdf384 rootD (ascii "K16-ROOT-RET") devsn 256
  | _ => kdf384 rootD (ascii "K16-ROOT-OWN")
      (devsn ++ natToOctets 1 s.kv.epoch ++ sha384 (s.ownerRec s.kv.epoch)) 256

def State.kwk (s : State) : List Byte := kdf384 s.rootKey (ascii "K16-KWK") [] 256

/-- A private scalar from 448 bits (Table 11-5). -/
def scalarOf (l : List Byte) : Nat := octetsToNat l % (n384 - 1) + 1

def State.attEc (s : State) : Nat := scalarOf (kdf384 s.rootKey (ascii "K16-ATT-EC") [] 448)
def State.attMl (s : State) : List Byte := kdf384 s.rootKey (ascii "K16-ATT-ML") [] 256

/-- What a request that needs a root meets (R477, R478, R481, R585); none where the root is there. -/
def State.rootCheck (s : State) : Option Status :=
  if s.kv.life = 0 ∨ s.kv.life = 5 ∨ s.kv.test = true then some .state
  else if s.kv.ready then none
  else if s.kv.rootf then some .fault
  else some .state

/-! ### Free octets -/

/-- `n` octets that nothing constrains: random values and masks. -/
def State.freeOctets (s : State) (n : Nat) : List Byte × State :=
  let f := s.take
  (natToOctets n f.1, f.2)

/-- The octets of an opaque function of an index. -/
def octetsBy (f : Nat → Byte) (n : Nat) : List Byte := (upTo n).map f

/-! ### Blobs (R482–R485) -/

def State.blobCnt (s : State) : Nat := fld (s.reg (aKV 0x242)) 22 0
def State.blobAddr (s : State) (i : Nat) : Nat := fld (s.reg (aKV 0x241)) 21 0 * 4096 + 128 * i

/-- A word in DRAM in the manner of freight word mode: four bytes, the first 0. -/
def State.dramWord (s : State) (a : Nat) : Word := s.dramByte (a + 1) ++ s.dramByte (a + 2) ++ s.dramByte (a + 3)

/-- The 32 words of blob `i` in DRAM. -/
def State.blobWords (s : State) (i : Nat) : List Word := (upTo 32).map (fun k => s.dramWord (s.blobAddr i + 4 * k))

def State.putBlobWords (s : State) (i : Nat) (l : List Word) : State :=
  s.putDram (s.blobAddr i) (l.flatMap (fun w => (0 : Byte) :: octets w))

/-- Key octets of a TYPE (Table 11-7). -/
def keyLen (t : Nat) : Nat :=
  match t with
  | 1 => 16 | 2 => 32 | 3 => 48 | 4 => 32 | 5 => 48 | _ => 0

/-- DEST bits that a TYPE permits. -/
def destMask (t : Nat) : BitVec 6 :=
  match t with
  | 1 => 0x20 | 2 => 0x1B | 3 => 4 | 4 => 4 | 5 => 9 | _ => 0

/-- TYPE is one of Table 11-7 and permits DEST (R485). -/
def destFits (t : Nat) (d : BitVec 6) : Bool := decide (1 ≤ t) && decide (t ≤ 5) && decide (d &&& ~~~(destMask t) = 0)

def dCcm : Nat := 5
def dGcm : Nat := 4
def dKdf : Nat := 3
def dSign : Nat := 2
def dWrap : Nat := 1
def dHmac : Nat := 0

def padTo (n : Nat) (l : List Byte) : List Byte := l.take n ++ List.replicate (n - l.length) 0

/-- The 54-octet plaintext. -/
def KeyRec.plain (k : KeyRec) : List Byte :=
  if k.typ = 1 then
    padTo 54 (padTo 16 k.key ++ natToOctets 8 k.eui.toNat ++ [k.index, 0] ++ natToOctets 4 k.tx.toNat ++ natToOctets 4 k.rx.toNat)
  else padTo 54 k.key

/-- The key a plaintext carries. -/
def keyOfPlain (t : BitVec 4) (d : BitVec 6) (l : List Byte) : KeyRec :=
  if t = 1 then
    { typ := t, dest := d, key := l.take 16, eui := BitVec.ofNat 64 (octetsToNat ((l.drop 16).take 8)), index := l.getD 24 0,
      tx := BitVec.ofNat 32 (octetsToNat ((l.drop 26).take 4)), rx := BitVec.ofNat 32 (octetsToNat ((l.drop 30).take 4)) }
  else { typ := t, dest := d, key := l.take (keyLen t.toNat) }

/-- The tombstone of a key (R496). -/
def KeyRec.tomb (k : KeyRec) : KeyRec :=
  { typ := 1, dest := 0, key := List.replicate 16 0, eui := k.eui, index := k.index, tx := k.tx, rx := k.rx }

/-- ROOT of a blob under the present root. -/
def State.rootCode (s : State) : Nat := if s.kv.life.val = 1 then 0 else if s.kv.life.val = 4 then 2 else 1

def State.blobEpoch (s : State) : Nat := if s.rootCode = 1 then s.kv.epoch else 0

def blobW0 (t : BitVec 4) (d : BitVec 6) (root epoch : Nat) : Word :=
  wd (2 ^ 20 + t.toNat * 2 ^ 16 + d.toNat * 2 ^ 10 + root * 2 ^ 8 + epoch * 2 ^ 3)

/-- A fresh IV: the wrap prefix, then the counter, which is reserved in blocks (R483). -/
def State.nextIv (s : State) : List Byte × State :=
  let n := s.kv.wrapNext
  let iv := kdf384 s.rootKey (ascii "K16-WIV") [] 32 ++ natToOctets 8 n
  (iv, s.modKv (fun v => { v with wrapNext := n + 1, wrapKept := if v.wrapKept ≤ n then v.wrapKept + 2 ^ 20 else v.wrapKept }))

/-- Seal a blob under `key` (R483). -/
def sealBlob (key iv : List Byte) (w0 w1 w2 : Word) (k : KeyRec) : List Word :=
  let c := gcmSeal key iv ([w0, w1, w2, 0].flatMap octets) k.plain
  [w0, w1, w2, 0] ++ packOctets iv ++ packOctets c.1 ++ packOctets (c.2 ++ [0, 0])

/-- Open a blob under `key`. -/
def openBlob (key : List Byte) (b : List Word) : Option (List Byte) :=
  let o := fun (i n : Nat) => ((b.drop i).take n).flatMap octets
  gcmOpen key (o 4 4) (o 0 4) (o 8 18) ((o 26 6).take 16)

/-- What a record in DRAM is (R484). -/
inductive BlobRes where
  | none
  | bad
  | tomb (k : KeyRec)
  | key (k : KeyRec)
deriving DecidableEq, Repr

def blobTyp (b : List Word) : BitVec 4 := BitVec.ofNat 4 (fld (b.getD 0 0) 19 16)
def blobDest (b : List Word) : BitVec 6 := BitVec.ofNat 6 (fld (b.getD 0 0) 15 10)

/-- Read and check blob `i`. -/
def State.readBlob (s : State) (i : Nat) : BlobRes :=
  let b := s.blobWords i
  if fld (b.getD 0 0) 23 20 = 0 then .none
  else if b.getD 0 0 ≠ blobW0 (blobTyp b) (blobDest b) s.rootCode s.blobEpoch ∨ (b.getD 1 0).toNat ≠ i then .bad
  else
    match openBlob s.kwk b with
    | Option.none => .bad
    | some p =>
      let k := keyOfPlain (blobTyp b) (blobDest b) p
      if bit (b.getD 2 0) 7 then .tomb k else .key k

/-- Write blob `i` afresh: new IV, GEN + 1 (R490). -/
def State.putBlob (s : State) (i : Nat) (k : KeyRec) (tomb : Bool) : State :=
  let gen := fld ((s.blobWords i).getD 2 0) 23 8 + 1
  let iv := s.nextIv
  iv.2.putBlobWords i
    (sealBlob s.kwk iv.1 (blobW0 k.typ k.dest s.rootCode s.blobEpoch) (wd i) (wd (gen % 65536 * 2 ^ 8 + b2n tomb * 2 ^ 7)) k)

/-- A refused blob is counted (R484). -/
def State.blobFail (s : State) : State := (s.count (aKV 0x253)).occur 0x92

/-! ### Slots (R486–R501) -/

def State.keySlot (s : State) (k : Nat) : KeySlot := mapGet (fun _ => {}) s.kv.slots k
def State.setKeySlot (s : State) (k : Nat) (x : KeySlot) : State :=
  s.modKv (fun v => { v with slots := mapPut (fun _ => {}) v.slots k x })

/-- The key octets of a slot. -/
def KeySlot.octets (x : KeySlot) : List Byte := xorOctets x.shareA x.shareB

/-- The slot's key whole. -/
def KeySlot.whole (x : KeySlot) : KeyRec := { x.info with key := x.octets }

/-- Split a key into two shares with a mask (R486, R500). -/
def KeySlot.split (x : KeySlot) (key mask : List Byte) : KeySlot := { x with shareA := mask, shareB := xorOctets key mask }

/-- A slot that holds, or loads, blob `i`. -/
def SlotState.has (x : SlotState) (i : Nat) : Bool :=
  match x with
  | .resident j => decide (i = j)
  | .loading j => decide (i = j)
  | _ => false

/-- Blob `i` is resident, or is being loaded, in another slot than `k` (R487). -/
def State.elsewhere (s : State) (i k : Nat) : Bool := s.kv.slots.any (fun e => decide (e.1 ≠ k) && e.2.state.has i)

/-- The slot in whose states blob `i` appears. -/
def State.slotOf (s : State) (i : Nat) : Option Nat :=
  (s.kv.slots.find? (fun e => e.2.state.has i || decide (e.2.state = .revoking i))).map Prod.fst

/-- A write-back of blob `i` is in flight. -/
def State.inFlight (s : State) (i : Nat) : Bool := s.kv.wb.any (fun x => decide (x.blob = i))

/-- KV_LEASE. -/
def State.leaseLen (s : State) : Nat :=
  let n := (s.reg (aKV 0x245)).toNat
  if 256 ≤ n ∧ n ≤ 8388608 then n else 65536

/-- A write-back joins the queue. -/
def State.queueWb (s : State) (x : WriteBack) : State := s.modKv (fun v => { v with wb := v.wb ++ [x] })

/-- The counter a further lease reaches (R491). -/
def State.raised (s : State) (tx : BitVec 32) : BitVec 32 := BitVec.ofNat 32 (min (tx.toNat + s.leaseLen) (2 ^ 32 - 1))

/-- A lease write-back of a slot's TYPE 1 key begins (R491). -/
def State.leaseWb (s : State) (k blob : Nat) : State :=
  let x := s.keySlot k
  (s.setKeySlot k { x with leasing := true }).queueWb
    { blob := blob, slot := k, info := { x.whole with tx := s.raised x.info.tx }, lease := true }

/-- A blob has been accepted: the slot becomes RESIDENT. -/
def State.makeResident (s : State) (k blob : Nat) (r : KeyRec) : State :=
  let x := s.keySlot k
  let m := s.freeOctets r.key.length
  let y : KeySlot :=
    { state := .resident blob, info := { r with key := [] }, lease := r.tx.toNat, pin := x.pinNext, hold := x.hold,
      holdQ := x.holdQ }
  let t := m.2.setKeySlot k (y.split r.key m.1)
  if r.typ = 1 then t.leaseWb k blob else t

/-- The slot begins to load a blob. -/
def State.startLoad (s : State) (k blob : Nat) (w : Option (Fin 9)) (pin hold : Bool) : State :=
  (s.setKeySlot k
    { state := .loading blob, since := s.now, window := w, pinNext := pin, hold := hold, holdQ := (s.keySlot k).holdQ }).count
    (aKV 0x251)

/-- The write-back of a slot that gives up its key, if DIRTY. -/
def State.evictWb (s : State) (k : Nat) : State :=
  let x := s.keySlot k
  match x.state, x.dirty with
  | .resident i, true => s.queueWb { blob := i, slot := k, info := x.whole, lease := false }
  | _, _ => s

/-- An uncorrectable error empties a slot (R523). -/
def State.eccSlot (s : State) (k : Nat) : State :=
  (((s.setKeySlot k { holdQ := (s.keySlot k).holdQ }).count (aKV 0x25D)).raise 592).occur 0x9F

/-- A key can be loaded now: DRAM in service, a root present. -/
def State.canLoad (s : State) : Bool := s.on dVAULT && s.on dDRAM && decide (s.rootCheck = none)

/-- A hold of slot `k` for a blob, or for whatever key it has (Table 11-8, R493). -/
def State.applyHold (s : State) (k : Nat) (b : Option Nat) : State :=
  let x := s.keySlot k
  let load := fun (t : State) (i : Nat) =>
    if !s.canLoad ∨ s.blobCnt ≤ i ∨ s.elsewhere i k = true then s.occur 0x91 else t.startLoad k i none false true
  match x.state, b with
  | .empty, none => s.setKeySlot k { x with hold := true }
  | .empty, some i => load s i
  | .loading _, _ => s.setKeySlot k { x with holdQ := x.holdQ ++ [b] }
  | .revoking _, _ => s.setKeySlot k { x with holdQ := x.holdQ ++ [b] }
  | .resident _, none => (s.setKeySlot k { x with hold := true }).count (aKV 0x250)
  | .resident j, some i =>
    if i = j then (s.setKeySlot k { x with hold := true }).count (aKV 0x250)
    else if x.hold ∨ x.pin then s.occur 0x91
    else load (s.evictWb k) i

/-- Holds that waited for the slot proceed. -/
def State.runHolds (s : State) (k : Nat) : State :=
  let x := s.keySlot k
  x.holdQ.foldl (fun t b => t.applyHold k b) (s.setKeySlot k { x with holdQ := [] })

/-- The end of a hold (R493). -/
def State.endHold (s : State) (k : Nat) : State := s.setKeySlot k { s.keySlot k with hold := false, holdQ := [] }

/-- A LOAD or an EVICT meets a slot that is REVOKING: no write-back of its blob follows (R498). -/
def State.skipWb (s : State) (k : Nat) : State :=
  let x := s.keySlot k
  if x.dirty then ((s.setKeySlot k { x with dirty := false }).count (aKV 0x25B)).occur 0x9A else s

/-- A slot's TXCTR has moved: event 587 once, and a further lease where the value written is reached (R491, R492). -/
def State.counterMoved (s : State) (k blob : Nat) : State :=
  let x := s.keySlot k
  let s1 := if 0xFFF00000 ≤ x.info.tx.toNat ∧ x.warned = false then
      ((s.setKeySlot k { x with warned := true }).raise 587).occur 0x9B
    else s
  if x.lease ≤ x.info.tx.toNat ∧ x.leasing = false then s1.leaseWb k blob else s1

/-- A frame counter may be sent (R491, R492). -/
def KeySlot.maySend (x : KeySlot) : Bool := decide (x.info.tx.toNat < x.lease) && decide (x.info.tx ≠ 0xFFFFFFFF)

/-- Assign a frame counter of a resident slot: TXCTR before its increment. -/
def State.assignCtr (s : State) (k blob : Nat) : Nat × State :=
  let x := s.keySlot k
  (x.info.tx.toNat, (s.setKeySlot k { x with info := { x.info with tx := x.info.tx + 1 }, dirty := true }).counterMoved k blob)

/-- RXCTR becomes the frame counter + 1. -/
def State.acceptCtr (s : State) (k ctr : Nat) : State :=
  let x := s.keySlot k
  s.setKeySlot k { x with info := { x.info with rx := BitVec.ofNat 32 (ctr + 1) }, dirty := true }

/-! ### Securing and opening frames (R502, R503) -/

/-- The K16's own EUI-64. -/
def State.ownEui (s : State) : Nat :=
  ((s.reg (aKV 0x248)).toNat * 2 ^ 24 + (s.reg (aKV 0x249)).toNat) * 2 ^ 16 + fld (s.reg (aKV 0x24A)) 23 8

/-- The CCM* nonce. -/
def ccmNonce (eui ctr lv : Nat) : List Byte := natToOctets 8 eui ++ natToOctets 4 ctr ++ natToOctets 1 lv

/-- A security level that the lanes apply. -/
def levelOk (lv : Nat) : Bool := decide (lv ≠ 0) && decide (lv ≠ 4)

/-- Levels 5 to 7 encrypt. -/
def encrypts (lv : Nat) : Bool := decide (4 < lv)

/-- Secure a frame of header `h`, given without MIC and FCS: the counter goes into the auxiliary header, the payload is
encrypted and the MIC appended. -/
def secureFrame (key : List Byte) (eui ctr : Nat) (h : MacHdr) (a : AuxHdr) (l : List Byte) : List Byte :=
  let hdr := l.take a.ctrAt ++ leOctets 4 ctr ++ (l.take h.len).drop (a.ctrAt + 4)
  let pay := l.drop h.len
  let n := micOf a.level
  let nonce := ccmNonce eui ctr a.level
  if encrypts a.level then
    let c := ccmSeal key nonce hdr pay n
    hdr ++ c.1 ++ c.2
  else hdr ++ pay ++ (ccmSeal key nonce (hdr ++ pay) [] n).2

/-- Open a frame given without its FCS: the frame less its MIC, in clear. -/
def openFrame (key : List Byte) (eui : Nat) (h : MacHdr) (a : AuxHdr) (l : List Byte) : Option (List Byte) :=
  let n := micOf a.level
  let body := l.take (l.length - n)
  let mic := l.drop (l.length - n)
  let nonce := ccmNonce eui (a.counter.getD 0) a.level
  let hdr := body.take h.len
  let pay := body.drop h.len
  if encrypts a.level then (ccmOpen key nonce hdr pay mic n).map (fun m => hdr ++ m)
  else (ccmOpen key nonce body [] mic n).map (fun _ => body)

/-- The auxiliary header suits the lanes: level, mode 0 to 2 and a counter, with the blob's index where it has one. -/
def AuxHdr.fits (a : AuxHdr) (index : Nat) : Bool :=
  levelOk a.level && decide (a.kim ≤ 2) && a.counter.isSome && (decide (a.kim = 0) || decide (a.index = index))

/-! ### Entropy (R505–R509) -/

def State.reseedLimit (s : State) : Nat := max (fld (s.reg (aKV 0x247)) 15 0) 1 * 1024

/-- The DRBG's reseed is due (R507). -/
def State.reseedDue (s : State) : Bool :=
  decide (s.reseedLimit ≤ s.kv.drbgReqs) || decide (s.kv.drbgAt + 600 * cycS ≤ s.now)

/-- Seven-eighths of a limit have passed. -/
def State.reseedEarly (s : State) : Bool :=
  decide (7 * s.reseedLimit ≤ 8 * s.kv.drbgReqs) || decide (s.kv.drbgAt + 525 * cycS ≤ s.now)

/-- A request ends for want of randomness (R509). -/
def State.noEntropy (s : State) : State :=
  let t := (s.count (aKV 0x258)).occur 0x98
  if t.kv.told586 then t else (t.modKv (fun v => { v with told586 := true })).raise 586

/-- The DRBG is instantiated or reseeded. -/
def Vault.seeded (v : Vault) (now : Nat) : Vault := { v with ent := .ok, entAt := now, drbgReqs := 0, drbgAt := now }

/-- FAILCNT reaches 3, or does not (Table 11-11). -/
def State.failed (s : State) (next : Entropy) : State :=
  let n := s.kv.failcnt + 1
  if 3 ≤ n then ((s.modKv (fun v => { v with failcnt := 3, ent := .failed, entAt := s.now })).raise 585).occur 0x97
  else s.modKv (fun v => { v with failcnt := n, ent := next, entAt := s.now })

end Sys2Proof.Machine
end

