-- ==== Sys2Proof/Machine/SbStop.lean ====
section
/-! DEFINITION. How the signal box stops and stalls (R297–R300, Tables 06-12 and 06-13). -/

namespace Sys2Proof.Machine

/-- The ACTIVE store becomes FREE (Table 06-3). -/
def State.freeStores (s : State) : State :=
  let f := fun (x : StoreState) => if x = .active then StoreState.free else x
  s.modSb (fun b => { b with st0 := f b.st0, st1 := f b.st1 })

/-- The wagon of a queue's head is no longer taken; a flushed one leaves (R407). -/
def State.untake (s : State) (q : Nat) : State :=
  (s.wagonsOf q).foldl (fun t w =>
    if !w.taken then t
    else if w.flushed then t.endWagon q { w with taken := false } false
    else t.modWagon q w.id (fun v => { v with taken := false })) s

/-- The holds until the paths that `p` names end (R277, R493). -/
def State.dropHolds (s : State) (p : Nat → Bool) : State :=
  let keep := s.sb.holds.filter (fun h => !p h.2)
  let gone := (s.sb.holds.filter (fun h => p h.2 && !keep.any (fun k => decide (k.1 = h.1)))).map Prod.fst
  gone.foldl (fun t k => t.endHold k) (s.modSb (fun b => { b with holds := keep }))

/-- Entry to IDLE: event 66, and MESH_ALIVE falls (R289). -/
def State.sbIdle (s : State) (cause : Nat) : State :=
  ((s.dropHolds (fun _ => true)).modSb (fun b =>
    { b with state := .idle, drain := false, cause := cause, begun := false, meshAlive := false, frames := [], acks := [],
             stales := [], acked := [], holds := [], prevEdn := none, prevStore := none })).raise 66

/-- Every armed slot of both bands is disarmed. -/
def State.disarmAll (s : State) : State :=
  [Band.a, Band.b].foldl (fun t bd =>
    (t.slotsIn bd 1).foldl (fun u k => u.setReg (aTS bd k 1) (wd (u.slotStatus bd k * 2 ^ 18))) t) s

/-- The claims of every node are cancelled (R300). -/
def State.cancelClaims (s : State) : State :=
  let t := s.sb.ledger.foldl (fun u e =>
    (u.postItem { status := .late, final := true, kind := 3, handle := e.1, asn := s.sb.asn }).occur 0x56) s
  t.modSb (fun b => { b with ledger := [] })

/-- An abrupt stop, or the end of WAIT, with its CAUSE. -/
def State.sbStop (s : State) (cause : Nat) : State :=
  match s.sb.state with
  | .idle => s
  | .wait => s.sbIdle cause
  | .running | .stalled =>
    let t := (s.disarmAll.cancelClaims).freeStores
    let t1 := t.sb.frames.foldl (fun u f => if f.kind = .beacon then u else u.untake f.queue) t
    t1.sbIdle cause

/-- The domains whose loss stalls the signal box, by their bits in SB_STALL. -/
def stallDomains : List (Nat × Nat) := [(5, dTABLES), (4, dYARD), (3, dMSTORE0), (2, dMSTORE1), (1, dVAULT), (0, 25)]

/-- SB_STALL. -/
def State.sbStallWord (s : State) : Nat := (stallDomains.map (fun p => if s.on p.2 then 0 else 2 ^ p.1)).sum

/-- A domain the signal box needs is off (R298). -/
def State.sbStall (s : State) : State :=
  if s.sb.state = .running ∧ s.sbStallWord ≠ 0 then
    ((s.modSb (fun b => { b with state := .stalled, meshAlive := false })).raise 66).occur 0x55
  else s

end Sys2Proof.Machine
end

