-- ==== Sys2Proof/Machine/Clock.lean ====
section
/-! DEFINITION. The station clock: rate and slew, steps, the lock state, compare units and its registers
(R307–R340). -/

namespace Sys2Proof.Machine

/-! ### Rate (R311, R313, R315) -/

/-- The integer nearest to A_nom × (1 + r) / (1 + e), with e in 2^-36 and r in 2^-32 (R311). -/
def addend (e r : Int) : Nat :=
  let n : Int := 2 ^ 69 * (2 ^ 32 + r)
  let d : Int := 1953125 * (2 ^ 36 + e)
  ((2 * n + d) / (2 * d)).toNat

/-- The slew term in force: SC_SLEW while a slew runs. -/
def State.slewTerm (s : State) : Int := if s.sc.slewing then signed 24 (s.reg (aSC 0x13)).toNat else 0

/-- A change of rate waits for its first tick at least 1 µs later. -/
def State.rateChanged (s : State) : State :=
  s.modSc (fun c => { c with addPend := some (c.addPend.getD s.now) })

/-- A change of rate applies. -/
def State.rateApply (s : State) : State :=
  s.modSc (fun c => { c with add := addend (signed 24 (s.reg (aSC 0x12)).toNat) s.slewTerm, addPend := none })

/-- A slew ends: r is 0, event 18 (R313). -/
def State.endSlew (s : State) : State :=
  ((s.modSc (fun c => { c with slewing := false, slewTicks := 0, slewEnd := some s.now })).rateChanged).raise 18

/-- A write of SC_FREQ: the new rate, and the offset for the synthesisers once EVER is set (R315). -/
def State.freqWrite (s : State) (v : Word) : State :=
  let t := (s.setReg (aSC 0x12) v).rateChanged
  if t.sc.ever then t.modSc (fun c => { c with refPend := true }) else t

/-- A write of SC_SLEW (R312). -/
def State.slewWrite (s : State) (v : Word) : Status × State :=
  if 2147483 < (signed 24 v.toNat).natAbs then (.badarg, s.occur 0x19)
  else (.ok, (s.setReg (aSC 0x13) v).rateChanged)

/-- A write of SC_SLEWLEN (R313). -/
def State.slewlenWrite (s : State) (v : Word) : State :=
  if v = 0 then (if s.sc.slewing then s.endSlew else s)
  else (s.modSc (fun c => { c with slewing := true, slewTicks := 1024 * v.toNat })).rateChanged

/-! ### Lock state (R321–R323) -/

/-- A field of LOCKCFG or LOCKCFG2; 0 acts as 1. -/
def State.lockFld (s : State) (o hi lo : Nat) : Nat := max (fld (s.reg (aSC o)) hi lo) 1
def State.lockCnt (s : State) : Nat := s.lockFld 0x1A 23 16
def State.lockTh (s : State) : Nat := s.lockFld 0x1A 15 0
def State.lockSpan (s : State) : Nat := s.lockFld 0x1B 23 16
def State.holdTo (s : State) : Nat := s.lockFld 0x1B 15 8
def State.unlockN (s : State) : Nat := s.lockFld 0x1B 7 0

/-- Whole seconds since entry to HOLDOVER, saturating (R335). -/
def State.holdt (s : State) : Word := wd (min ((s.now - s.sc.entered) / cycS) (2 ^ 24 - 1))

/-- The lock state becomes `l`: event 16 on a change, and #1A on leaving HOLDOVER. -/
def State.setLock (s : State) (l : LockState) : State :=
  if s.sc.lock = l then s
  else
    let s1 := if s.sc.lock = .holdover then (s.setReg (aSC 0x1C) s.holdt).occurV 0x1A s.holdt else s
    (s1.modSc (fun c => { c with lock := l, entered := s.now, taken := [], outRun := 0 })).raise 16

/-- Entry to LOCKED from FREE or LOCKING: EVER, and the offset for the synthesisers at the first (R315). -/
def State.lockIn (s : State) : State :=
  ((s.setLock .locked).modSc (fun c => { c with ever := true, refPend := c.refPend || !c.ever })).occur 0x10

/-- The row into LOCKED is complete with the measurements `l`. -/
def State.lockDone (s : State) (l : List (Nat × Nat)) : Bool :=
  let span := s.lockSpan * cycS
  let w := l.filter (fun p => decide (s.now ≤ p.1 + span))
  decide (s.sc.entered + span ≤ s.now) && decide (s.lockCnt ≤ w.length) && w.all (fun p => decide (p.2 ≤ s.lockTh))

/-- A measurement that the lock state takes (R322, R323). -/
def State.takeMeas (s : State) (m : Nat) : State :=
  let out := decide (4 * s.lockTh < m)
  let s1 := if out then
      let t := s.count (aSC 0x1E)
      if t.sc.outTold then t else (t.modSc (fun c => { c with outTold := true })).raise 19
    else s
  let l := (s.now, m) :: s.sc.taken.filter (fun p => decide (s.now ≤ p.1 + s.lockSpan * cycS))
  let s2 := s1.modSc (fun c => { c with taken := l, lastTaken := s.now, outRun := if out then c.outRun + 1 else 0 })
  match s.sc.lock with
  | .free => if s2.lockDone l then s2.lockIn else s2.setLock .locking
  | .locking => if s2.lockDone l then s2.lockIn else s2
  | .locked => if s.unlockN ≤ s2.sc.outRun then (s2.setLock .locking).occur 0x11 else s2
  | .holdover => if m ≤ s.lockTh then s2.setLock .locked else (s2.setLock .locking).occur 0x11
  | .lead => s

/-- A slew runs, or ended less than 1 s ago (R321). -/
def State.slewMasks (s : State) : Bool :=
  s.sc.slewing || (match s.sc.slewEnd with
    | some t => decide (s.now < t + cycS)
    | none => false)

/-- A write of SC_MEAS. -/
def State.measWrite (s : State) (v : Word) : State :=
  let m := (signed 24 v.toNat).natAbs
  let s1 := (((s.setReg (aSC 0x19) v).count (aSC 0x1D)).occurV 0x15 (wd m)).occurV 0x16 v
  if s1.slewMasks ∨ s.sc.lock = .lead then s1 else s1.takeMeas m

/-- A write of SC_CTL: LEADER (R322). -/
def State.leaderWrite (s : State) (v : Word) : State :=
  let t := s.plainWrite (aSC 0) v
  if bit v 23 then t.setLock .lead
  else if s.sc.lock = .lead then t.setLock (if s.sc.ever then .holdover else .free)
  else t

/-! ### Compare units (R328–R330) -/

def aCMP (c k : Nat) : Nat := aSC (0x40 + 4 * c + k)

def State.cmpTarget (s : State) (c : Nat) : Long := long (s.reg (aCMP c 1)) (s.reg (aCMP c 2))
def State.cmpPeriod (s : State) (c : Nat) : Nat := (s.reg (aCMP c 3)).toNat * 2 ^ 16
def State.cmpArmed (s : State) (c : Nat) : Bool := bit (s.reg (aCMP c 0)) 23
def State.cmpSkips (s : State) (c : Nat) : Bool := mapGet (fun _ => false) s.sc.cmpSkip c
def State.setSkip (s : State) (c : Nat) (b : Bool) : State :=
  s.modSc (fun k => { k with cmpSkip := mapPut (fun _ => false) k.cmpSkip c b })

/-- A write of a compare register. -/
def State.cmpWrite (s : State) (a : Nat) (v : Word) : Status × State :=
  let c := (a - aSC 0x40) / 4
  if (a - aSC 0x40) % 4 = 0 then
    let t := s.plainWrite a v
    if bit v 23 then (.ok, (t.setReg a (setBit (t.reg a) 22 false)).setSkip c (!after (s.cmpTarget c) s.shortTime))
    else (.ok, t.setSkip c false)
  else if s.cmpArmed c then (.busy, s)
  else (.ok, s.plainWrite a v)

/-- The next target of a periodic unit that has fired (R328, R329). -/
def nextTarget (t now : Long) (per : Nat) (skip : Bool) : Long :=
  if skip then t + ln (((now - t).toNat / max per 1 + 1) * per) else t + ln per

/-- Unit `c` fires. -/
def State.cmpFire (s : State) (c : Nat) : State :=
  let skip := s.cmpSkips c
  let per := s.cmpPeriod c
  let w := setBit (setBit (s.reg (aCMP c 0)) 22 true) 21 skip
  let s1 := ((s.setReg (aCMP c 0) (if per = 0 then setBit w 23 false else w)).setSkip c false).raise c
  let s2 := if per = 0 then s1
    else
      let t := nextTarget (s.cmpTarget c) s.shortTime per skip
      (s1.setReg (aCMP c 1) (hiWord t)).setReg (aCMP c 2) (loWord t)
  if skip then s2.occur 0x17 else s2

/-! ### Steps (R316–R320) -/

/-- Network time as 96 bits in units of 2^-48 s. -/
def State.fullTime (s : State) : Nat := s.sc.time / 2 ^ 24 % 2 ^ 96

/-- Network time after LOAD, or after STEP of signed ns. -/
def State.stepped (s : State) (load : Bool) : Nat :=
  if load then
    ((s.reg (aSC 8) ++ s.reg (aSC 9) ++ s.reg (aSC 0xA) ++ s.reg (aSC 0xB)).toNat) * 2 ^ 24
  else
    let ns := signed 48 (long (s.reg (aSC 0xC)) (s.reg (aSC 0xD))).toNat
    (((s.sc.time : Int) + (ns * 2 ^ 72).fdiv 1000000000) % 2 ^ 120).toNat

/-- Armed units whose target a forward step passes fire with SKIP (R329). -/
def State.skipPassed (s : State) (old : Long) : State :=
  (upTo 16).foldl (fun u c =>
    let t := u.cmpTarget c
    if u.cmpArmed c && after t old && !after t u.shortTime && after u.shortTime old then u.setSkip c true else u) s

/-- The lock state after a step (Table 07-1). -/
def State.stepLock (s : State) : State :=
  match s.sc.lock with
  | .locked => s.setLock .locking
  | .holdover => s.setLock .locking
  | .free => s.modSc (fun c => { c with entered := s.now, taken := [] })
  | .locking => s.modSc (fun c => { c with entered := s.now, taken := [] })
  | .lead => s

/-- A step is performed (R317, R318). -/
def State.performStep (s : State) (load : Bool) : State :=
  let old := s.shortTime
  let s1 := if s.sc.slewing then s.endSlew else s
  let s2 := s1.modSc (fun c => { c with time := s.stepped load, refused := false })
  let s3 := (((s2.count (aSC 0x1F)).raise 17).occur 0x13).stepLock.skipPassed old
  if s3.sb.state = .idle then s3 else s3.sbStop 3

/-- Modes in which a step is performed (R316). -/
def State.stepMode (s : State) : Bool :=
  decide (s.pw.mode = .start ∨ s.pw.mode = .provision ∨ s.pw.mode = .maintenance)

/-- A write of SC_CMD (R316). -/
def State.scCmd (s : State) (v : Word) : Status × State :=
  if bit v 23 && bit v 22 then (.badarg, s)
  else if !bit v 23 && !bit v 22 then (.ok, s)
  else if s.stepMode then (.ok, s.performStep (bit v 23))
  else (.state, ((s.modSc (fun c => { c with refused := true })).raise 20).occur 0x14)

/-! ### Registers (Tables 07-5 and 07-6) -/

/-- The code of a lock state. -/
def LockState.code : LockState → Nat
  | .free => 0 | .locking => 1 | .locked => 2 | .holdover => 3 | .lead => 4

/-- The reader of a latch: a shunter's id, 64 for the host. -/
def readerOf : Src → Nat
  | .shunter sh => sh.val
  | .host => 64

def fullTimeWord (t k : Nat) : Word := wd (t / 2 ^ (24 * (3 - k)) % 2 ^ 24)

/-- A store to the SC block. -/
def State.scWrite (s : State) (a : Nat) (v : Word) : Status × State :=
  let o := a - blk 1
  if o = 0 then (.ok, s.leaderWrite v)
  else if o = 2 then s.scCmd v
  else if o = 0x12 then (.ok, s.freqWrite v)
  else if o = 0x13 then s.slewWrite v
  else if o = 0x14 then (.ok, s.slewlenWrite v)
  else if o = 0x18 then (.ok, s.measWrite v)
  else if 0x40 ≤ o then s.cmpWrite a v
  else (.ok, s.plainWrite a v)

/-- A load from the SC block. -/
def State.scRead (s : State) (src : Src) (a : Nat) : Word × State :=
  let o := a - blk 1
  let k := readerOf src
  if o = 1 then
    (wd (s.sc.lock.code * 2 ^ 21 + b2n s.sc.slewing * 2 ^ 20 + b2n s.sc.ever * 2 ^ 19 + b2n s.sc.refused * 2 ^ 18), s)
  else if o = 4 then
    (fullTimeWord s.fullTime 0, s.modSc (fun c => { c with latches := mapPut (fun _ => 0) c.latches k s.fullTime }))
  else if 5 ≤ o ∧ o < 8 then (fullTimeWord (mapGet (fun _ => 0) s.sc.latches k) (o - 4), s)
  else if o = 0x10 then (wd (s.sc.add / 2 ^ 24), s)
  else if o = 0x11 then (wd (s.sc.add % 2 ^ 24), s)
  else if o = 0x14 then (wd ((s.sc.slewTicks + 1023) / 1024), s)
  else if o = 0x1C then ((if s.sc.lock = .holdover then s.holdt else s.reg a), s)
  else if o = 0x1E then (s.plainRead a).map id (fun t => t.modSc (fun c => { c with outTold := false }))
  else s.plainRead a

/-- One core cycle of the station clock: every twelfth is a station tick (R311, R313). -/
def State.scTick (s : State) : State :=
  if !s.on dSC then s
  else if s.sc.phase < 11 then s.modSc (fun c => { c with phase := c.phase + 1 })
  else s.modSc (fun c => { c with phase := 0, time := (c.time + c.add) % 2 ^ 120, slewTicks := c.slewTicks - 1 })

/-- The SC domain powers up (R336). -/
def State.scPowerUp (s : State) : State :=
  { s with sc := { time := s.rtc.sec * 2 ^ 72 + s.rtc.sub * 2 ^ 57, entered := s.now } }

end Sys2Proof.Machine
end

