-- ==== Sys2Proof/Machine/Ether.lean ====
section
/-! DEFINITION. Ethernet frames at the backhaul ports: tags, EtherType, the IP and transport headers, checksums, the
R-TAG, padding and FCS (R439, R442, R445–R447, R463, R464). -/

namespace Sys2Proof.Machine

/-- Octet `i` of a frame, 0 beyond its end. -/
def octN (l : List Byte) (i : Nat) : Nat := (l.getD i 0).toNat

/-- The 16-bit number at octet `i`. -/
def be16 (l : List Byte) (i : Nat) : Nat := octN l i * 256 + octN l (i + 1)

/-- The 48-bit address at octet `i`. -/
def mac48 (l : List Byte) (i : Nat) : Nat := octetsToNat ((l.drop i).take 6)

/-- Where the EtherType stands after at most two VLAN tags, with the tags' VIDs (R445). -/
def vlanTags (l : List Byte) : Nat × List Nat :=
  let tag := fun (i : Nat) => decide (be16 l i = 0x8100) || decide (be16 l i = 0x88A8)
  let vid := fun (i : Nat) => be16 l (i + 2) % 4096
  if !tag 12 then (12, [])
  else if !tag 16 then (16, [vid 12])
  else (20, [vid 12, vid 16])

/-! ### The transport header -/

/-- A transport header: its protocol, its offset, its datagram's octets, IPv6 or IPv4, and whether R446 covers it. -/
structure L4 where
  proto : Nat
  at_ : Nat
  len : Nat
  v6 : Bool
  covered : Bool
deriving DecidableEq, Repr

/-- Follow IPv6 extension headers from one of type `nh` at octet `i`, `left` octets of payload on; `n` were passed. -/
def ipv6Ext (l : List Byte) : Nat → Nat → Nat → Nat → Nat → Bool → Option L4
  | 0, _, _, _, _, _ => none
  | fuel + 1, nh, i, left, n, ok =>
    let size := 8 * (octN l (i + 1) + 1)
    if nh = 0 ∨ nh = 60 ∨ nh = 43 then
      if left < size then none
      else ipv6Ext l fuel (octN l i) (i + size) (left - size) (n + 1) (ok && (decide (nh ≠ 43) || decide (octN l (i + 3) = 0)))
    else if nh = 6 ∨ nh = 17 ∨ nh = 58 then some ⟨nh, i, left, true, ok && decide (n ≤ 2)⟩
    else none

/-- The transport header of a frame whose EtherType at `k` is that of IPv4 or IPv6 (R445, R446). -/
def l4Of (l : List Byte) (k : Nat) : Option L4 :=
  let p := k + 2
  let r : Option L4 :=
    if be16 l k = 0x0800 ∧ octN l p / 16 = 4 ∧ 5 ≤ octN l p % 16 then
      let h := 4 * (octN l p % 16)
      let proto := octN l (p + 9)
      if be16 l (p + 6) % 16384 ≠ 0 ∨ be16 l (p + 2) < h ∨ (proto ≠ 6 ∧ proto ≠ 17) then none
      else some ⟨proto, p + h, be16 l (p + 2) - h, false, true⟩
    else if be16 l k = 0x86DD ∧ octN l p / 16 = 6 then ipv6Ext l 64 (octN l (p + 6)) (p + 40) (be16 l (p + 4)) 0 true
    else none
  match r with
  | some x => if l.length < x.at_ + x.len ∨ x.len < 8 then none else some { x with covered := x.covered && decide (x.at_ ≤ 256) }
  | none => none

/-! ### Checksums -/

/-- Fold a sum to 16 bits with end-around carry. -/
def foldSum (n : Nat) : Nat := if n = 0 then 0 else (n - 1) % 65535 + 1

/-- The sum of `n` octets from `i`, as 16-bit words, an odd one padded. -/
def sum16 (l : List Byte) (i n : Nat) : Nat :=
  (List.range ((n + 1) / 2)).foldl (fun a j => a + octN l (i + 2 * j) * 256 + (if 2 * j + 1 < n then octN l (i + 2 * j + 1) else 0)) 0

/-- Octets of the header's own checksum field. -/
def csumAt (proto : Nat) : Nat := if proto = 6 then 16 else if proto = 17 then 6 else 2

/-- The sum over pseudo-header and datagram; `k` is the EtherType's place. -/
def l4Sum (l : List Byte) (k : Nat) (x : L4) : Nat :=
  let p := k + 2
  let pseudo := if x.v6 then sum16 l (p + 8) 32 else sum16 l (p + 12) 8
  pseudo + x.len % 65536 + x.len / 65536 + x.proto + sum16 l x.at_ x.len

/-- The IPv4 header stands whole at the payload. -/
def ipv4Header (l : List Byte) (k : Nat) : Bool :=
  decide (be16 l k = 0x0800) && decide (octN l (k + 2) / 16 = 4) && decide (5 ≤ octN l (k + 2) % 16) &&
    decide (k + 2 + 4 * (octN l (k + 2) % 16) ≤ l.length)

/-- L3 of a report: 0 not checked, 1 correct, 2 incorrect (Table 10-2). -/
def l3Check (l : List Byte) (k : Nat) : Nat :=
  if !ipv4Header l k then 0
  else if foldSum (sum16 l (k + 2) (4 * (octN l (k + 2) % 16))) = 0xFFFF then 1 else 2

/-- L4 of a report. -/
def l4Check (l : List Byte) (k : Nat) : Nat :=
  match l4Of l k with
  | none => 0
  | some x =>
    if !x.covered then 0
    else if x.proto = 17 ∧ x.v6 = false ∧ be16 l (x.at_ + 6) = 0 then 0
    else if foldSum (l4Sum l k x) = 0xFFFF then 1 else 2

/-- Write a 16-bit number at octet `i`. -/
def put16 (l : List Byte) (i v : Nat) : List Byte := (l.set i (BitVec.ofNat 8 (v / 256))).set (i + 1) (BitVec.ofNat 8 v)

/-- Insert the IPv4 header checksum (R447). -/
def insertL3 (l : List Byte) (k : Nat) : List Byte :=
  if !ipv4Header l k then l
  else
    let z := put16 l (k + 12) 0
    put16 z (k + 12) (65535 - foldSum (sum16 z (k + 2) (4 * (octN l (k + 2) % 16))))

/-- Insert the transport checksum; a UDP checksum of 0 is sent as all ones (R447). -/
def insertL4 (l : List Byte) (k : Nat) : List Byte :=
  match l4Of l k with
  | none => l
  | some x =>
    if !x.covered then l
    else
      let f := x.at_ + csumAt x.proto
      let z := put16 l f 0
      let c := 65535 - foldSum (l4Sum z k x)
      put16 z f (if c = 0 ∧ x.proto = 17 then 65535 else c)

/-! ### Whole frames -/

/-- The FCS octets of a frame body (R439; IEEE 802.3). -/
def etherFcs (l : List Byte) : List Byte := (natToOctets 4 (crc32Of l).toNat).reverse

/-- A body padded to 60 octets (R439). -/
def padTo60 (l : List Byte) : List Byte := l ++ List.replicate (60 - l.length) 0

/-- The FCS of a received frame is right. -/
def fcsGood (l : List Byte) : Bool := decide (4 ≤ l.length) && decide (etherFcs (l.take (l.length - 4)) = l.drop (l.length - 4))

/-- Insert an R-TAG after the source address and any VLAN tags (R463). -/
def addRtag (l : List Byte) (seq : Nat) : List Byte :=
  let k := (vlanTags l).1
  l.take k ++ natToOctets 2 0xF1C1 ++ [0, 0] ++ natToOctets 2 seq ++ l.drop k

/-- The destination port of a UDP frame (R442). -/
def udpPort (l : List Byte) (k : Nat) : Option Nat :=
  match l4Of l k with
  | some x => if x.proto = 17 then some (be16 l (x.at_ + 2)) else none
  | none => none

end Sys2Proof.Machine
end

