-- ==== Sys2Proof/Machine/ModeOps.lean ====
section
/-! DEFINITION. A change of mode, and the one that BH_PSTAT.ISL makes (R626, R627, R650). -/

namespace Sys2Proof.Machine

/-- The confirm window stops counting (R546). -/
def Update.holdWindow (u : Update) (now : Nat) : Update :=
  match u.confAt with
  | none => u
  | some t => { u with confLeft := u.confLeft - (now - t), confAt := none }

/-- The confirm window counts in SERVICE alone (R546). -/
def Update.window (u : Update) (now : Nat) (m : Mode) : Update :=
  let v := u.holdWindow now
  if m = .service ∧ v.boot = .trial ∧ v.confLeft ≠ 0 then { v with confAt := some now } else v

/-- Enter a mode: event 768; CORE_EN is cleared at entry to START, SERVICE and ISLAND (R626, R650). -/
def State.setMode (s : State) (m : Mode) : State :=
  if s.pw.mode = m then s
  else
    let t := ((s.modPw (fun p => { p with mode := m })).modUp (fun u => u.window s.now m)).raise 768
    if m = .start ∨ m = .service ∨ m = .island then t.setRegFld (aPW 6) 23 23 0 else t

/-- SERVICE and ISLAND follow ISL, but not while a requested transition runs (R627). -/
def State.followIsl (s : State) : State :=
  if s.pw.modeReq.isSome then s
  else
    match s.pw.mode with
    | .service => if s.bh.isl then s.setMode .island else s
    | .island => if s.bh.isl then s else s.setMode .service
    | _ => s

end Sys2Proof.Machine
end

