-- ==== Sys2Proof/Machine/BhOps.lean ====
section
/-! DEFINITION. The backhaul ports: paths, pauses, offers, sending, and the BH registers (R437–R470). -/

namespace Sys2Proof.Machine

/-! ### Registers, counters and notes -/

/-- EN of a port. -/
def State.bhEn (s : State) (p : Band) : Bool := s.on (dBH p) && bit (s.reg (aBH p 0)) 23

def PathState.code : PathState → Nat
  | .off => 0 | .down => 1 | .proving => 2 | .standby => 3 | .active => 4

/-- PROVING, STANDBY or ACTIVE. -/
def PathState.live (x : PathState) : Bool := decide (x ≠ .off) && decide (x ≠ .down)

/-- STANDBY or ACTIVE: the path carries PR. -/
def PathState.carries (x : PathState) : Bool := decide (x = .standby) || decide (x = .active)

def State.path (s : State) (p : Band) : PathState := (s.port p).path
def State.carries (s : State) (p : Band) : Bool := (s.path p).carries

/-- Raise event 512 + 16p + k if it is the first since its counter was read. -/
def State.bhTold (s : State) (p : Band) (k : Nat) : State :=
  if mapGet (fun _ => false) (s.port p).told k then s
  else (s.modPort p (fun x => { x with told := mapPut (fun _ => false) x.told k true })).raise (512 + 16 * p.idx + k)

/-- Raise a shared event if it is the first since its counter was read. -/
def State.bhToldShared (s : State) (e : Nat) : State :=
  if mapGet (fun _ => false) s.bh.told e then s
  else (s.modBh (fun y => { y with told := mapPut (fun _ => false) y.told e true })).raise e

def State.counter (s : State) (blk i : Nat) : Nat := mapGet (fun _ => 0) s.bh.counts (256 * blk + i)

/-- A receive drop for lack of cell, buffer or report room (R441, R443, R466). -/
def State.rxDrop (s : State) (p : Band) (i : Nat) : State := ((s.bhCount p.idx i 1).occur 0x88).bhTold p 4

/-- PSTAT.ISL follows the paths (R462); the mode follows it (R627). -/
def State.settleIsl (s : State) : State :=
  let isl := !s.carries .a && !s.carries .b
  if isl = s.bh.isl then s
  else
    let t := s.modBh (fun y => { y with isl := isl, islAt := if isl then some s.now else none })
    (if isl then t.raise 545 else t).followIsl

/-! ### Wagons of the ports (R456, R457, R459) -/

/-- Has the path of port `p` taken the wagon, and sent it? -/
def Wagon.takenBy (w : Wagon) : Band → Bool
  | .a => w.takenA
  | .b => w.takenB

def Wagon.sentBy (w : Wagon) : Band → Bool
  | .a => w.sentA
  | .b => w.sentB

def Wagon.setTaken (w : Wagon) (p : Band) (b : Bool) : Wagon :=
  match p with
  | .a => { w with takenA := b }
  | .b => { w with takenB := b }

def Wagon.setSent (w : Wagon) (p : Band) : Wagon :=
  match p with
  | .a => { w with sentA := true }
  | .b => { w with sentB := true }

/-- A PR wagon of a BACKHAUL queue. -/
def State.isPr (s : State) (q : Nat) (w : Wagon) : Bool := decide (s.qEgr q = 0x23) && decide (clsOf w.w2 = 1)

/-- The wagon numbered `id` of a queue. -/
def State.wagon (s : State) (q id : Nat) : Option Wagon := (s.wagonsOf q).find? (fun w => decide (w.id = id))

/-- A PR wagon is released once every path that carries PR has sent it (R457). -/
def State.prRelease (s : State) (q id : Nat) : State :=
  match s.wagon q id with
  | none => s
  | some w =>
    let done := fun (p : Band) => !s.carries p || w.sentBy p
    if (s.carries .a || s.carries .b) && done .a && done .b then s.endWagon q w true else s

/-- Every PR wagon that a path has sent is looked at again: a path has stopped counting. -/
def State.prReleaseAll (s : State) : State :=
  (s.yd.wagons.filter (fun e => decide (s.qEgr e.1 = 0x23))).foldl
    (fun (u : State) e => (e.2.filter (fun w => w.sentA || w.sentB)).foldl (fun (v : State) w => v.prRelease e.1 w.id) u) s

/-- A wagon that a port had taken stays in its queue (R459); a flush then has it (R407). -/
def State.putBack (s : State) (p : Band) (q id : Nat) : State :=
  match s.wagon q id with
  | none => s
  | some w =>
    if s.isPr q w then s.modWagon q id (fun x => x.setTaken p false)
    else if w.flushed then s.endWagon q w false
    else s.modWagon q id (fun x => { x with taken := false })

/-- The frame of a port is dropped: it does not count as sent (R459). -/
def State.cutFrame (s : State) (p : Band) : State :=
  match (s.port p).frame with
  | none => s
  | some f =>
    let t := s.modPort p (fun x => { x with frame := none })
    (if f.started then t.sendEnds f.queue else t).putBack p f.queue f.wagon

/-! ### Paths (R454–R462, Table 10-6) -/

/-- The path of port `p` takes a new state: the event, #81, the frame on the wire, ISL. -/
def State.setPath (s : State) (p : Band) (new : PathState) (bySwap : Bool) : State :=
  let old := s.path p
  if old = new then s
  else
    let t := (s.modPort p (fun x => { x with
      path := new,
      count := if new = .proving then 0 else x.count,
      misses := 0,
      intAt := if new = .proving ∨ (new = .down ∧ old = .off) then s.now else x.intAt,
      probeAt := if new = .proving then s.now else x.probeAt,
      link := x.link && decide (new ≠ .off) })).raise (512 + 16 * p.idx)
    let leaves := old.carries && !new.carries
    let t1 := if leaves && !bySwap then t.occur 0x81 else t
    let t2 := if leaves || !new.live then t1.cutFrame p else t1
    let t3 := if old = .active then t2.modBh (fun y => { y with swapPend := y.swapPend && bySwap }) else t2
    (if leaves then t3.prReleaseAll else t3).settleIsl

/-- A path leaves ACTIVE or another state; the other path takes over from STANDBY (R460). -/
def State.toPath (s : State) (p : Band) (new : PathState) : State :=
  let t := s.setPath p new false
  if s.path p = .active ∧ new ≠ .active ∧ s.path p.other = .standby then
    (((t.setPath p.other .active false).bhCount 2 3 1).raise 544).occur 0x82 |>.modBh (fun y => { y with failAt := some s.now })
  else t

/-- ERRCNT + 1, and its limit (R455). -/
def State.addError (s : State) (p : Band) : State :=
  let x := s.port p
  let n := min (x.errCnt + 1) 255
  let t := s.modPort p (fun y => { y with errCnt := n, decayAt := if y.errCnt = 0 then s.now else y.decayAt })
  let lim := fld (s.reg (aBH p 0xB)) 7 0
  if lim = 0 ∨ n < lim then t
  else if x.path = .proving then t.modPort p (fun y => { y with count := 0, errCnt := 0 })
  else if x.path.carries then ((t.raise (512 + 16 * p.idx + 2)).occur 0x86).toPath p .proving
  else t

/-- A probe source of a port is enabled. -/
def State.prbSrc (s : State) (p : Band) (i : Nat) : Word := s.reg (aBH p (0x40 + i))
def State.prbHeard (s : State) (p : Band) (i : Nat) : Heard := mapGet (fun _ => {}) (s.port p).heard i

/-- The present interval would pass (R455). -/
def State.intervalPasses (s : State) (p : Band) : Bool :=
  let on := (upTo 8).filter (fun i => bit (s.prbSrc p i) 23)
  let x := s.port p
  x.link && !x.linkBroke &&
    (on.isEmpty || (on.any (fun i => (s.prbHeard p i).now) && on.any (fun i => (s.prbHeard p i).listed)))

/-- The next interval begins. -/
def Port.nextInterval (x : Port) : Port :=
  { x with
    intAt := x.intAt + 10 * cycMs,
    linkBroke := !x.link,
    prbSent := [] :: x.prbSent.take 2,
    heard := x.heard.map (fun e => (e.1, { e.2 with rxok := e.2.now, txok := e.2.listed, now := false, listed := false })) }

/-- A path proven becomes ACTIVE or STANDBY (Table 10-6). -/
def State.promoteOne (s : State) (p : Band) : State :=
  if s.path p = .proving ∧ 100 ≤ (s.port p).count then
    (s.occur 0x84).toPath p (if s.path p.other = .active then .standby else .active)
  else s

/-- BH_PCTL.PREF. -/
def State.pref (s : State) : Band := if bit (s.reg (aBHC 0)) 22 then .b else .a

/-- The preferred path is judged first; it is waited for where its hundredth interval ends at this time too. -/
def State.promote (s : State) (p : Band) : State :=
  let o := p.other
  if s.pref = o ∧ s.path o = .proving ∧ (s.port o).count = 99 ∧ (s.port o).intAt + 10 * cycMs ≤ s.now ∧ s.intervalPasses o = true then s
  else (s.promoteOne s.pref).promoteOne s.pref.other

/-- An interval ends (R455). -/
def State.endInterval (s : State) (p : Band) : State :=
  let pass := s.intervalPasses p
  let t := s.modPort p Port.nextInterval
  if pass then
    if s.path p = .proving then
      (t.modPort p (fun x => { x with count := min (x.count + 1) 100 })).promote p
    else t.modPort p (fun x => { x with misses := 0 })
  else
    let t1 := (t.bhCount p.idx 17 1).bhTold p 5
    if s.path p = .proving then t1.modPort p (fun x => { x with count := 0, errCnt := 0 })
    else if s.carries p then
      let t2 := ((t1.occur 0x85).modPort p (fun x => { x with misses := x.misses + 1 })).addError p
      if t2.carries p && decide (max (fld (s.reg (aBHC 0xA)) 7 0) 1 ≤ (t2.port p).misses) then t2.toPath p .proving else t2
    else t1

/-- SWAP takes effect (R461). -/
def State.performSwap (s : State) (p : Band) : State :=
  let t := match (s.port p).frame with
    | some f => if f.started then s else s.cutFrame p
    | none => s
  let t1 := (t.setPath p .standby true).setPath p.other .active true
  (((t1.modBh (fun y => { y with swapPend := false })).bhCount 2 5 1).raise 548).occur 0x83

/-- A write of BH_PCTL: SWAP (R461). -/
def State.pctl (s : State) (v : Word) : Status × State :=
  let t := s.plainWrite (aBHC 0) v
  let go := fun (p : Band) =>
    match (s.port p).frame with
    | some f => if f.started then t.modBh (fun y => { y with swapPend := true }) else t.performSwap p
    | none => t.performSwap p
  if !bit v 23 then (.ok, t)
  else
    match s.path .a, s.path .b with
    | .active, .standby => (.ok, go .a)
    | .standby, .active => (.ok, go .b)
    | _, _ => (.state, s)

/-- Link up without a fault for 10 ms (R454). -/
def State.linkUp (s : State) (p : Band) (speed : BitVec 2) : State :=
  let t := s.modPort p (fun x => { x with link := true, lf := false, rf := false, speed := speed })
  if s.path p = .down then (t.setPath p .proving false).modPort p (fun x => { x with errCnt := 0 }) else t

/-- A port whose domain turns off, or whose EN clears (R454, R459). -/
def State.portOff (s : State) (p : Band) : State := s.toPath p .off

/-- A wagon is removed without being sent (R458, R462, Table 10-9). -/
def State.dropWagon (s : State) (q : Nat) (w : Wagon) (cause : Nat) : State :=
  let item := [ wd ((if cause = 1 then 11 else 2) * 2 ^ 20 + clsOf w.w2 * 2 ^ 14 + cause), wd q, w.w0, w.w2 ]
  ((((s.endWagon q w false).post (fld (s.reg (aBHC 4)) 17 0) item).bhCount 2 4 1).occur 0x8C).bhToldShared 546

/-- The hold has ended: PR and TT wagons of the BACKHAUL queues go (R462). -/
def State.holdEnds (s : State) : State :=
  (s.yd.wagons.filter (fun e => decide (s.qEgr e.1 = 0x23))).foldl
    (fun (u : State) e => (e.2.filter (fun w => decide (clsOf w.w2 < 2))).foldl (fun (v : State) w => v.dropWagon e.1 w 1) u) s

/-! ### Pauses (R448–R450) -/

def State.pause (s : State) (p : Band) (k : Nat) : Pause := mapGet (fun _ => {}) (s.port p).pauses k
def State.setPause (s : State) (p : Band) (k : Nat) (x : Pause) : State :=
  s.modPort p (fun y => { y with pauses := mapPut (fun _ => {}) y.pauses k x })

/-- Bits per second of a port (Table 10-1). -/
def State.bhRate (s : State) (p : Band) : Nat :=
  match fld (s.reg (aBH p 0)) 22 21 with
  | 0 => 10000000000
  | 1 => 2500000000
  | 2 => 1000000000
  | _ =>
    match (s.port p).speed with
    | 0 => 10000000
    | 1 => 100000000
    | _ => 1000000000

/-- Core cycles of `n` bits on the wire, rounded up. -/
def State.bitCycles (s : State) (p : Band) (n : Nat) : Nat := ceilDiv (n * cycS) (s.bhRate p)

/-- A pause of `quanta` for a priority, or the port (key 8), arrives. -/
def State.takePause (s : State) (p : Band) (k quanta : Nat) : State :=
  let x := s.pause p k
  if x.ignore.isSome then s
  else if quanta = 0 then s.setPause p k { x with stop := none }
  else
    s.setPause p k { x with stop := some (s.now + s.bitCycles p (512 * quanta)), since := if x.stop.isSome then x.since else s.now }

/-- A MAC control frame that the port consumes: PAUSE or PFC to this station or the reserved address (R440, R448). -/
def State.macControl (s : State) (p : Band) (l : List Byte) : Option State :=
  let dst := mac48 l 0
  let own := (long (s.reg (aBH p 2)) (s.reg (aBH p 3))).toNat
  if be16 l 12 = 0x8808 ∧ (dst = 0x0180C2000001 ∨ dst = own) then
    let t := s.bhCount p.idx 12 1
    if be16 l 14 = 1 then some (t.takePause p 8 (be16 l 16))
    else if be16 l 14 = 0x0101 then
      some ((upTo 8).foldl (fun (u : State) k =>
        if (octN l 17).testBit k then u.takePause p k (be16 l (18 + 2 * k)) else u) t)
    else none
  else none

/-- A priority's wagons are held at the port. -/
def State.paused (s : State) (p : Band) (cls : Nat) : Bool :=
  let pr := fld (s.reg (aBH p 5)) (11 - 3 * cls) (9 - 3 * cls)
  (s.pause p 8).stop.isSome || (s.pause p pr).stop.isSome

/-- A flow-control frame of the port, for `quanta` (R449; IEEE 802.3 Annex 31B, IEEE 802.1Qbb). -/
def State.fcFrame (s : State) (p : Band) (quanta : Nat) : List Byte :=
  let c := s.reg (aBH p 6)
  let head := natToOctets 6 0x0180C2000001 ++ natToOctets 6 (long (s.reg (aBH p 2)) (s.reg (aBH p 3))).toNat ++ natToOctets 2 0x8808
  let body := if bit c 22 then
      natToOctets 2 0x0101 ++ natToOctets 2 (fld c 7 0) ++
        ((upTo 8).map (fun k => natToOctets 2 (if bit c k then quanta else 0))).flatten
    else natToOctets 2 1 ++ natToOctets 2 quanta
  let f := padTo60 (head ++ body)
  f ++ etherFcs f

/-- BH_FCQUANTA. -/
def State.fcQuanta (s : State) (p : Band) : Nat := fld (s.reg (aBH p 7)) 15 0

/-! ### Offers (R408, R409, R418, R452, R456, R457) -/

/-- Sending of `n` octets, preamble and inter-frame gap included, in core cycles (R412). -/
def State.sendCycles (s : State) (p : Band) (n : Nat) : Nat := s.bitCycles p (8 * (n + 20))

/-- Octets on the wire of a wagon's frame. -/
def State.wireOctets (s : State) (q : Nat) (w : Wagon) : Nat :=
  max (wagonLen w.w1) 64 + (if s.isPr q w then 6 else 0)

/-- The class gate at the port's egress allows the frame now (R418). -/
def State.gateAllows (s : State) (p : Band) (q : Nat) (w : Wagon) : Bool :=
  let g := s.gate p.idx
  let t := s.tcap
  let c := clsOf w.w2
  g.openAt c t &&
    match g.closesIn c t with
    | none => true
    | some left => decide (s.sendCycles p (s.wireOctets q w) * 2 ^ 32 * tickDen ≤ left * cycS)

/-- BH_TLEAD in µs. -/
def State.tlead (s : State) (p : Band) : Nat :=
  let n := fld (s.reg (aBH p 0xD)) 9 0
  if 5 ≤ n ∧ n ≤ 1000 then n else 20

/-- TIMED counts: it is ignored in PR wagons (R452). -/
def Wagon.timedNow (w : Wagon) : Bool := w.timed && decide (clsOf w.w2 ≠ 1)

/-- `n` µs of short time, to the nearest unit. -/
def usShort (n : Nat) : Long := ln ((n * 2 ^ 32 + 500000) / 1000000)

/-- The time of a timed launch has come (R452). -/
def State.timeCome (s : State) (p : Band) (w : Wagon) : Bool :=
  !w.timedNow || !after (w.time - usShort (s.tlead p)) s.shortTime

/-- PRSKEW. -/
def State.prSkew (s : State) : Nat := max (fld (s.reg (aBHC 2)) 4 0) 1

/-- Wagons of a queue that path `p` has taken and the other path has not. -/
def skewOf (l : List Wagon) (p : Band) : Nat :=
  (l.filter (fun w => decide (clsOf w.w2 = 1) && w.takenBy p && !w.takenBy p.other)).length

/-- The wagon of queue `q` that path `p` may take next (R456, R457). -/
def State.headFor (s : State) (p : Band) (q : Nat) : Option Wagon :=
  let l := s.wagonsOf q
  let whole := match l with
    | w :: _ => if w.taken then none else some w
    | [] => none
  if s.qEgr q = (match p with | .a => 0x21 | .b => 0x22) then (if (s.path p).live then whole else none)
  else if s.qEgr q ≠ 0x23 then none
  else
    match l.find? (fun w => !(decide (clsOf w.w2 = 1) && w.takenBy p)) with
    | none => none
    | some w =>
      if clsOf w.w2 = 1 then
        if s.carries p && (!s.carries p.other || decide (skewOf l p < s.prSkew)) then some w else none
      else if s.path p = .active then (match whole with
        | some v => if v.id = w.id then some w else none
        | none => none)
      else none

/-- A head wagon that the port may take now (R409). -/
def State.eligible (s : State) (p : Band) (q : Nat) : Option Wagon :=
  match s.headFor p q with
  | none => none
  | some w =>
    if s.qLive q && decide (s.qKind q = 0) && s.shaperOpen q && s.gateAllows p q w && s.timeCome p w && !s.paused p (clsOf w.w2)
    then some w else none

/-- The wagons that the ports' queues offer: queue and wagon, rising. -/
def State.offers (s : State) (p : Band) : List (Nat × Wagon) :=
  (s.yd.wagons.filter (fun e => decide (131072 ≤ e.1))).filterMap (fun e => (s.eligible p e.1).map (fun w => (e.1, w)))

def State.passedOver (s : State) (p : Band) (q : Nat) : Nat := mapGet (fun _ => 0) s.yd.passed (queueCount * p.idx + q)
def State.setPassed (s : State) (p : Band) (q n : Nat) : State :=
  s.modYd (fun y => { y with passed := mapPut (fun _ => 0) y.passed (queueCount * p.idx + q) n })

/-- The wagon served at this offer (R33, R408). -/
def State.choose (s : State) (p : Band) : Option (Nat × Wagon × State) :=
  let l := s.offers p
  match ([0, 1, 2, 3] : List Nat).find? (fun c => l.any (fun e => decide (clsOf e.2.w2 = c))) with
  | none => none
  | some c =>
    let same := l.filter (fun (e : Nat × Wagon) => decide (clsOf e.2.w2 = c))
    let late := same.filter (fun (e : Nat × Wagon) => decide (8 ≤ s.passedOver p e.1))
    let pool := if late.isEmpty then same else late
    let key := 4 * p.idx + c
    let nxt := match mapGet (fun _ => none) s.yd.served key with
      | none => pool.head?
      | some q => (pool.find? (fun (e : Nat × Wagon) => decide (q < e.1))).or pool.head?
    match nxt with
    | none => none
    | some (q, w) =>
      let t := same.foldl (fun (u : State) (e : Nat × Wagon) => u.setPassed p e.1 (if e.1 = q then 0 else u.passedOver p e.1 + 1)) s
      some (q, w, t.modYd (fun y => { y with served := mapPut (fun _ => none) y.served key (some q) }))

/-- A probe is due and goes ahead of every wagon (R465). -/
def State.probeDue (s : State) (p : Band) : Bool := (s.path p).live && decide ((s.port p).probeAt ≤ s.now)

/-- The sequence number of a PR wagon: kept, or the stream's next (R463). -/
def State.numberPr (s : State) (q : Nat) (w : Wagon) : State :=
  match w.prSeq with
  | some _ => s
  | none =>
    let a := aBHC (0x40 + fld w.w2 7 2)
    let n := fld (s.reg a) 15 0
    (s.setReg a (wd ((n + 1) % 65536))).modWagon q w.id (fun x => { x with prSeq := some n })

/-- The port takes a wagon; a PR wagon too long or a wagon that cannot be read goes instead (R434, R457, R458). -/
def State.takeWagon (s : State) (p : Band) (q : Nat) (w : Wagon) : State :=
  if w.ecc ≠ .good then s.eccRemove q w
  else
    let f : PortFrame := { queue := q, wagon := w.id, started := false, octets := 0, launch := 0, dly := false }
    if s.isPr q w then
      if 9210 < wagonLen w.w1 then s.dropWagon q w 2
      else ((s.modWagon q w.id (fun x => x.setTaken p true)).numberPr q w).modPort p (fun x => { x with frame := some f })
    else (s.modWagon q w.id (fun x => { x with taken := true })).modPort p (fun x => { x with frame := some f })

/-- The first frame on a path that took over starts (R460). -/
def State.firstFrame (s : State) (p : Band) : State :=
  match s.bh.failAt with
  | some t =>
    if s.path p = .active then
      (s.modBh (fun y => { y with failAt := none })).occurV 0x8D (wd (min ((s.now - t) / cycUs) (2 ^ 24 - 1)))
    else s
  | none => s

/-! ### Elimination (R464) -/

def State.elimOf (s : State) (i : Nat) : Elim := mapGet (fun _ => {}) s.bh.elim i
def State.setElim (s : State) (i : Nat) (x : Elim) : State :=
  s.modBh (fun y => { y with elim := mapPut (fun _ => {}) y.elim i x })

/-- The vector recovery of stream `i` for sequence number `n`: is the frame accepted? -/
def State.eliminate (s : State) (i n : Nat) : Bool × State :=
  let x := s.elimOf i
  let lim := fld (s.reg (aBHC 5)) 15 0 * cycMs
  let q := BitVec.ofNat 16 n
  if x.valid = false ∨ (lim ≠ 0 ∧ x.last + lim ≤ s.now) then
    (true, s.setElim i { valid := true, rcv := q, hist := 1, last := s.now })
  else
    let d := signed 16 (q - x.rcv).toNat
    if 32 ≤ d ∨ d ≤ -32 then (false, ((s.bhCount 2 1 1).occur 0x8A).bhToldShared 547)
    else if 0 < d then (true, s.setElim i { x with rcv := q, hist := (x.hist <<< d.toNat) ||| 1, last := s.now })
    else if x.hist.getLsbD (-d).toNat then (false, s.bhCount 2 0 1)
    else (true, s.setElim i { x with hist := x.hist ||| ((1 : BitVec 32) <<< (-d).toNat), last := s.now })

/-- The stream entry that a source address and VID match. -/
def State.streamOf (s : State) (src vid : Nat) : Option Nat :=
  (upTo 64).find? (fun i =>
    let w := s.reg (aBHC (0x200 + 4 * i))
    bit w 23 && decide ((long (s.reg (aBHC (0x201 + 4 * i))) (s.reg (aBHC (0x202 + 4 * i)))).toNat = src) &&
      (bit w 22 || decide (fld w 11 0 = vid)))

/-! ### The BH block -/

/-- A write of BH_CTL (R437, R454). -/
def State.bhCtl (s : State) (p : Band) (v : Word) : Status × State :=
  let old := s.reg (aBH p 0)
  if bit old 23 && decide (fld old 22 20 ≠ fld v 22 20) then (.state, s)
  else
    let t := s.plainWrite (aBH p 0) v
    (.ok, if bit v 23 && !bit old 23 then t.setPath p .down false
      else if !bit v 23 && bit old 23 then t.portOff p
      else t)

/-- The port, and the offset in its registers, of an offset of the BH block; none for the shared block. -/
def bhPort (o : Nat) : Option (Band × Nat) :=
  if 0x2000 ≤ o ∧ o < 0x3000 then none else if o < 0x4000 then some (.a, o) else some (.b, o - 0x4000)

/-- A store to the BH block. -/
def State.bhWrite (s : State) (a : Nat) (v : Word) : Status × State :=
  let o := a - blk 8
  match bhPort o with
  | none =>
    if o = 0x2000 then s.pctl v
    else if 0x2200 ≤ o ∧ o < 0x2300 ∧ o % 4 = 0 then
      let i := (o - 0x2200) / 4
      (.ok, (s.plainWrite a v).setElim i { s.elimOf i with valid := false })
    else (.ok, s.plainWrite a v)
  | some (p, k) =>
    if k = 0 then s.bhCtl p v
    else if k = 6 ∨ k = 8 ∨ k = 9 then
      let t := s.plainWrite a v
      (.ok, if k = 6 ∧ bit v 23 = false then t.modPort p (fun x => { x with fcOn := false }) else t.flowControlAt p)
    else (.ok, s.plainWrite a v)

/-- BH_STAT. -/
def State.bhStat (s : State) (p : Band) : Word :=
  let x := s.port p
  let sp := if fld (s.reg (aBH p 0)) 22 21 = 3 then x.speed.toNat else 0
  wd (b2n x.link * 2 ^ 23 + b2n x.lf * 2 ^ 22 + b2n x.rf * 2 ^ 21 + x.path.code * 2 ^ 18 + sp * 2 ^ 16 + x.count)

/-- BH_PSTAT. -/
def State.pstat (s : State) : Word :=
  let act := decide (s.path .a = .active) || decide (s.path .b = .active)
  wd (b2n s.bh.isl * 2 ^ 23 + b2n act * 2 ^ 22 + b2n (decide (s.path .b = .active)) * 2 ^ 21 + b2n (s.carries .a) * 2 ^ 20 +
    b2n (s.carries .b) * 2 ^ 19)

/-- A counter pair word: HI reads live, LO reads, holds and clears (R466). -/
def State.cntRead (s : State) (src : Src) (b i : Nat) : Word × State :=
  let n := s.counter b (i / 2)
  if i % 2 = 0 then (wd (n / 2 ^ 24), s)
  else
    let t := s.modBh (fun y => { y with
      counts := mapPut (fun _ => 0) y.counts (256 * b + i / 2) 0,
      holds := mapPut zeroWord y.holds (65 * b + readerOf src) (wd (n / 2 ^ 24)) })
    let fresh := fun (p : Band) (k : Nat) => t.modPort p (fun x => { x with told := mapPut (fun _ => false) x.told k false })
    let port := fun (p : Band) =>
      match i / 2 with
      | 8 | 9 | 20 => fresh p 4
      | 17 => fresh p 5
      | 19 => fresh p 6
      | 4 => fresh p 7
      | _ => t
    let shared := fun (e : Nat) => t.modBh (fun y => { y with told := mapPut (fun _ => false) y.told e false })
    (wd (n % 2 ^ 24), if b = 0 then port .a else if b = 1 then port .b
      else if i / 2 = 4 then shared 546 else if i / 2 = 1 then shared 547 else t)

/-- A load from the BH block. -/
def State.bhRead (s : State) (src : Src) (a : Nat) : Word × State :=
  let o := a - blk 8
  let hold := fun (b : Nat) => mapGet zeroWord s.bh.holds (65 * b + readerOf src)
  match bhPort o with
  | none =>
    let k := o - 0x2000
    if k = 1 then (s.pstat, s)
    else if k = 0xFF then (hold 2, s)
    else if 0x100 ≤ k ∧ k < 0x10C then s.cntRead src 2 (k - 0x100)
    else if 0x200 ≤ k ∧ k < 0x300 ∧ k % 4 = 3 then
      let x := s.elimOf ((k - 0x200) / 4)
      (wd (b2n x.valid * 2 ^ 23 + x.rcv.toNat), s)
    else s.plainRead a
  | some (p, k) =>
    if k = 1 then (s.bhStat p, s)
    else if k = 0xC then (wd (s.port p).errCnt, s)
    else if 0x48 ≤ k ∧ k < 0x50 then
      let h := s.prbHeard p (k - 0x48)
      (wd (b2n h.rxok * 2 ^ 23 + b2n h.txok * 2 ^ 22 + h.seq.toNat), s)
    else if k = 0xFF then (hold p.idx, s)
    else if 0x100 ≤ k ∧ k < 0x12A then s.cntRead src p.idx (k - 0x100)
    else s.plainRead a

/-- A port's domain powers up: its path is OFF, its counters are 0, and it takes KV_CHIP (R467, R594). -/
def State.portPowerUp (s : State) (p : Band) : State :=
  let chip := if s.on dVAULT then fld (s.reg (aKV 0x24C)) 13 0 else 0
  (s.setPort p { chip := BitVec.ofNat 14 chip }).modBh (fun y => { y with
    counts := mapDrop (fun k => k / 256 == p.idx) y.counts, holds := mapDrop (fun k => k / 65 == p.idx) y.holds })

/-- The YARD domain powers up: the shared block as at reset; the paths stay. -/
def State.bhSharedUp (s : State) : State :=
  s.modBh (fun y => { y with
    counts := mapDrop (fun k => k / 256 == 2) y.counts, holds := mapDrop (fun k => k / 65 == 2) y.holds, elim := [],
    swapPend := false, skewAt := s.now, told := [] })

/-- A write of KV_CHIP reaches the ports that are on (R594). -/
def State.chipWritten (s : State) (v : Word) : State :=
  ([.a, .b] : List Band).foldl (fun (u : State) p =>
    if u.on (dBH p) then u.modPort p (fun x => { x with chip := BitVec.ofNat 14 (fld v 13 0) }) else u) s

end Sys2Proof.Machine
end

