-- ==== Sys2Proof/Machine/DepotRegs.lean ====
section
/-! DEFINITION. The depot control blocks: run control, instruction stores, route tables, tokens and the global
watchdog as registers (R125–R135, Tables 02-7 to 02-13). -/

namespace Sys2Proof.Machine

/-- GO of DP_SCTL (Table 02-9, R131). -/
def State.goShunter (s : State) (src : Src) (sh : Sh) (entry : BitVec 17) : State :=
  let x := s.shunter sh
  if x.isHalted || decide (x.run = .faulted) then
    s.setShunter sh { x with run := .running, wait := .none, pc := entry, jump := none, wdAcc := 0, wdFrom := s.now, wdFirst := false }
  else if src = .shunter sh ∧ x.run = .running then
    if x.busy ∨ x.wait ≠ .none then s.setShunter sh { x with jump := some entry }
    else s.setShunter sh { x with pc := entry, wdAcc := 0, wdFrom := s.now, wdFirst := false }
  else s

/-- A write of DP_SCTL: HALT alone when HALT is set, otherwise RESET and GO as they are set. -/
def State.sctlWrite (s : State) (src : Src) (sh : Sh) (a : Nat) (v : Word) : State :=
  let s1 := s.setReg a (wd (fld v 16 0))
  if bit v 22 then s1.haltShunter sh
  else
    let s2 := if bit v 21 then s1.resetShunter sh else s1
    if bit v 23 then s2.goShunter src sh (v.setWidth 17) else s2

/-- Every shunter of depot `d` but the writer is HALTED (R128). -/
def State.othersHalted (s : State) (src : Src) (d : Nat) : Bool :=
  (upTo 8).all (fun p => decide (src = .shunter (shOf d p)) || (s.shunter (shOf d p)).isHalted)

/-- A write of DP_IMDATA (R128, R129). -/
def State.imdataWrite (s : State) (src : Src) (d : Nat) (v : Word) : Status × State :=
  if bit (s.reg (aDP d 8)) 0 then (.denied, s)
  else if !s.othersHalted src d then (.state, s)
  else
    let a := fld (s.reg (aDP d 6)) 16 0
    (.ok, (s.setCode d a v).setReg (aDP d 6) (wd ((a + 1) % 131072)))

/-- Parked shunters take the records that are now addressed to them. -/
def State.serveParked (s : State) (d : Nat) : State :=
  (upTo 8).foldl (fun s p =>
    match (s.shunter (shOf d p)).parkedDest with
    | none => s
    | some dest => (s.takeRecord (shOf d p) dest).getD s) s

/-- A write of a route entry word (R91). -/
def State.routeStore (s : State) (d : Nat) (a : Nat) (v : Word) : State :=
  let e := (a % 0x2000 - 0x800) / 2
  let s1 := s.plainWrite a v
  if routeOn (s1.route d e).1 then s1.serveParked d
  else
    let keep := fun (r : EvRecord) => !(decide (r.depot.val = d) && decide (r.event.val = e))
    s1.modDp (fun q => { q with records := q.records.filter keep })

/-- GWD_CTL, GWD_KICK and GWD_BAD are one register each, kept in depot 0's block. -/
def gwdReg (o : Nat) : Nat := aDP 0 o

/-- GWD_CTL.PERIOD in core cycles (the AON oscillator counted as exact, log 2). -/
def State.gwdPeriod (s : State) : Nat := fld (s.reg (gwdReg 0x300)) 15 0 * cycMs

/-- A write of GWD_CTL: the first write since reset counts; EN with a PERIOD of 0 leaves the watchdog off
(Table 02-13). -/
def State.gwdCtl (s : State) (v : Word) : State :=
  if s.isLocked (gwdReg 0x300) then s
  else
    let s1 := s.plainWrite (gwdReg 0x300) v
    if bit v 23 ∧ fld v 15 0 ≠ 0 then
      { s1 with dp := { s1.dp with gwd := { s1.dp.gwd with since := some s.now, warned := false } } }
    else s1

/-- A write of GWD_KICK (R125). -/
def State.kick (s : State) (src : Src) (v : Word) : State :=
  match src with
  | .host => s
  | .shunter _ =>
    let g := s.dp.gwd
    if v = 0xC35A96 then { s with dp := { s.dp with gwd := { g with first := some s.now } } }
    else
      let live := match g.first with
        | some t => decide (s.now ≤ t + cycMs)
        | none => false
      if v = 0x3CA569 ∧ live = true then
        s.modDp (fun q => { q with gwd := { since := g.since.map (fun _ => s.now), warned := false, first := none } })
      else (s.count (gwdReg 0x303)).modDp (fun q => { q with gwd := { g with first := none } })

/-- A store to a depot control block. Removing the boot ROM raises event 640 (R132, R554). -/
def State.dpWrite (s : State) (src : Src) (a : Nat) (v : Word) : Status × State :=
  let d := (a - blk 15) / 0x2000
  let o := (a - blk 15) % 0x2000
  if o = 0 then (.ok, if d = 6 ∧ bit (s.reg a) 23 = true ∧ bit v 23 = false then (s.setReg a 0).raise 640 else s)
  else if o = 7 then s.imdataWrite src d v
  else if 0x40 ≤ o ∧ o < 0x80 ∧ o % 8 = 0 then (.ok, s.sctlWrite src (shOf d ((o - 0x40) / 8)) a v)
  else if o = 0x300 then (.ok, s.gwdCtl v)
  else if o = 0x301 then (.ok, s.kick src v)
  else if 0x800 ≤ o then (.ok, s.routeStore d a v)
  else (.ok, s.plainWrite a v)

/-- The STATE code of DP_SSTAT: a halt shows once nothing of the shunter is left in progress (R702). -/
def Shunter.stateCode (x : Shunter) : Nat :=
  match x.run with
  | .faulted => 3
  | .halted => if x.isHalted then 0 else 1
  | .running => if x.wait.isParked then 2 else 1

/-- DP_DSTAT (Table 02-8). -/
def State.dstat (s : State) (d : Nat) : Word :=
  wd ((upTo 8).foldl (fun n p =>
    n + (match (s.shunter (shOf d p)).stateCode with
      | 0 => 2 ^ p
      | 2 => 2 ^ (8 + p)
      | 3 => 2 ^ (16 + p)
      | _ => 0)) 0)

/-- DP_TOK (Table 02-12). -/
def tokWord (k : Token) : Word :=
  match k.owner with
  | none => wd k.waiters.length
  | some sh => wd (2 ^ 23 + sh.val * 2 ^ 16 + k.waiters.length)

/-- GWD_LEFT: WARNED and the ms left of the running period. -/
def State.gwdLeft (s : State) : Word :=
  let g := s.dp.gwd
  match g.since with
  | none => 0
  | some t =>
    let n := (if g.warned then 2 else 1) * s.gwdPeriod
    wd (b2n g.warned * 2 ^ 16 + (n - (s.now - t)) / cycMs % 2 ^ 16)

/-- The registers of one shunter in its depot's block, by offset from its DP_SCTL. -/
def State.shunterReg (s : State) (sh : Sh) (o : Nat) : Word :=
  let x := s.shunter sh
  let waiting := match x.wait with
    | .token _ => true
    | _ => false
  match o with
  | 1 => wd (x.stateCode * 2 ^ 22 + b2n waiting * 2 ^ 21 + x.pc.toNat)
  | 2 => wd (x.cause.toNat * 2 ^ 20 + x.fpc.toNat)
  | 3 => x.sfaddr
  | 6 => wd (min (x.watch s.now / 4096) (2 ^ 24 - 1))
  | 7 => wd (x.held.length * 256 + ((x.held.getLast?).map (fun t => t.toNat)).getD 0)
  | _ => 0

/-- A load from a depot control block. -/
def State.dpRead (s : State) (a : Nat) : Word × State :=
  let d := (a - blk 15) / 0x2000
  let o := (a - blk 15) % 0x2000
  if o = 1 then (s.dstat d, s)
  else if o = 7 then
    let i := fld (s.reg (aDP d 6)) 16 0
    (s.codeWord d i, s.setReg (aDP d 6) (wd ((i + 1) % 131072)))
  else if 0x40 ≤ o ∧ o < 0x80 then
    let k := o % 8
    if k = 1 ∨ k = 2 ∨ k = 3 ∨ k = 6 ∨ k = 7 then (s.shunterReg (shOf d ((o - 0x40) / 8)) k, s) else s.plainRead a
  else if 0x100 ≤ o ∧ o < 0x120 then (tokWord (s.token (32 * d + (o - 0x100))), s)
  else if o = 0x300 then (s.reg (gwdReg 0x300), s)
  else if o = 0x302 then (s.gwdLeft, s)
  else if o = 0x303 then s.plainRead (gwdReg 0x303)
  else s.plainRead a

end Sys2Proof.Machine
end

