-- ==== Sys2Proof/Machine/Domains.lean ====
section
/-! DEFINITION. The power domain of every word of the word space (Tables 01-1 and 15-3). -/

namespace Sys2Proof.Machine

/-- The power domain of a register (Table 01-1); the global watchdog's lie in AON. -/
def regDomain (a : Nat) : Nat :=
  let o := a % 0x10000
  match (a - blk 0) / 0x10000 with
  | 0 => dAON
  | 1 => dSC
  | 2 => if 0xF000 ≤ o then dMRAM else if o < 0x8000 then dRX .a else dRX .b
  | 3 => if o < 0x2000 then dLANES 0 else dLANES 256
  | 4 => if o < 0x8000 then dTX .a else dTX .b
  | 5 => dSB
  | 6 => dTABLES
  | 7 => dYARD
  | 8 => if 0x3000 ≤ o % 0x4000 then dAON else if 0x2000 ≤ o then (if o < 0x4000 then dYARD else dBH .b) else dBH .a
  | 9 => dVAULT
  | 10 => dMRAM
  | 11 => if 0x2000 ≤ o ∧ o < 0x4000 then dNFC else dHOST
  | 12 => dAON
  | 13 => dBKP
  | 14 => dDRAM
  | _ => if 0x300 ≤ o % 0x2000 ∧ o % 0x2000 < 0x304 then dAON else dDEPOT (o / 0x2000)

/-- The domain of a word of the word space (Table 15-3). -/
def wordDomain (a : Nat) : Nat :=
  if a < baseQDW then regDomain a
  else if a < baseMain then dYARD
  else if a < 0xA00000 then dMSTORE0
  else dMSTORE1

end Sys2Proof.Machine
end

