-- ==== Sys2Proof/Machine/Health.lean ====
section
/-! DEFINITION. The health block and the event recorder: temperatures, ageing, MRAM wear, predictions, occurrence
records, notifications, windows and snapshots (R663–R690). -/

namespace Sys2Proof.Machine

/-! ### Codes (R674, R679, Tables 16-2 and 16-8) -/

def histCodes : List Nat := [0x00, 0x05, 0x15, 0x22, 0x33, 0x49, 0x69, 0x78, 0x8F, 0x90, 0xA9, 0xBC, 0xC2]
def signedCodes : List Nat := [0x16, 0x23, 0x3D, 0x53, 0xC2, 0xC3]

/-- B and U of a code's reset edges. -/
def edgeBase : Nat → Int × Int
  | 0x00 => (1, 1) | 0x05 => (1000, 1000) | 0x15 => (25, 25) | 0x22 => (2, 2) | 0x33 => (32, 32)
  | 0x49 => (250, 250) | 0x69 => (1, 1) | 0xA9 => (1, 1) | 0x78 => (16384, 16384) | 0x8F => (2, 2)
  | 0x90 => (1, 1) | 0xBC => (50, 50) | 0xC2 => (-20, 10) | _ => (0, 0)

/-- The configuration of a code at reset. -/
def defConfig (code : Nat) : OccConfig :=
  { histogram := histCodes.contains code, signed := signedCodes.contains code, nen := false, nmode := 0, nburst := 4,
    nrate := 16, nbin := 15,
    edges := (upTo 15).map (fun (i : Nat) => BitVec.ofInt 24 ((edgeBase code).1 + (i : Int) * (edgeBase code).2)) }

def State.occConfig (s : State) (code : Nat) : OccConfig := mapGet defConfig s.hm.configs code
def State.occRecord (s : State) (code : Nat) : OccRecord := mapGet (fun _ => {}) s.hm.records code

def State.setOccConfig (s : State) (code : Nat) (c : OccConfig) : State :=
  s.modHm (fun h => { h with configs := mapPut defConfig h.configs code c })

def State.setOccRecord (s : State) (code : Nat) (r : OccRecord) : State :=
  s.modHm (fun h => { h with records := mapPut (fun _ => {}) h.records code r })

/-! ### Updating a record (R676, R677) -/

/-- A value as the code compares it. -/
def OccConfig.num (c : OccConfig) (v : Word) : Int := if c.signed then Sys2Proof.Machine.signed 24 v.toNat else (v.toNat : Int)

/-- The bin of a value: the last edge at or below it. -/
def OccConfig.bin (c : OccConfig) (v : Word) : Nat :=
  (c.edges.zip (upTo 15)).foldl (fun n p => if c.num p.1 ≤ c.num v then p.2 + 1 else n) 0

/-- A count of `n` bits and whether its true result lies beyond them. -/
def satNat (n v : Nat) : Nat × Bool := if v < 2 ^ n then (v, false) else (2 ^ n - 1, true)

/-- A sum of 72 bits, signed, and whether its true result lies beyond them. -/
def satSum (v : Int) : Int × Bool :=
  if 2 ^ 71 ≤ v then (2 ^ 71 - 1, true) else if v < -(2 ^ 71) then (-(2 ^ 71), true) else (v, false)

/-- An occurrence with value `v` at stamp `t` updates its record. -/
def OccRecord.apply (r : OccRecord) (c : OccConfig) (v : Word) (t : Long) : OccRecord :=
  let n := satNat 48 (r.count + 1)
  if c.histogram then
    let b := satNat 48 (mapGet (fun _ => 0) r.bins (c.bin v) + 1)
    { r with count := n.1, last := t, bins := mapPut (fun _ => 0) r.bins (c.bin v) b.1, sat := r.sat || n.2 || b.2 }
  else
    let u := satSum (r.sum + c.num v)
    let lo := decide (r.count = 0) || decide (c.num v < c.num r.min)
    let hi := decide (r.count = 0) || decide (c.num r.max ≤ c.num v)
    { r with count := n.1, last := t, sum := u.1, sat := r.sat || n.2 || u.2,
             min := if lo then v else r.min, minAt := if lo then t else r.minAt,
             max := if hi then v else r.max, maxAt := if hi then t else r.maxAt }

/-! ### Notifications (R682) -/

/-- Does an occurrence qualify, by the record held before it? -/
def OccRecord.qualifies (r : OccRecord) (c : OccConfig) (v : Word) : Bool :=
  c.nen &&
  match c.nmode.toNat with
  | 1 => true
  | 2 =>
    if c.histogram then decide (c.nbin.toNat ≤ c.bin v)
    else decide (r.count = 0) || decide (c.num v < c.num r.min) || decide (c.num r.max < c.num v)
  | _ => false

/-- Credit that makes one token: NRATE tokens are added per 64 s. -/
def tokenUnit : Nat := 64 * cycS

/-- The credit of a code's bucket now. -/
def State.noteCredit (s : State) (code : Nat) (c : OccConfig) : Nat :=
  let full := c.nburst.toNat * tokenUnit
  let b := mapGet (fun _ => (⟨full, s.now⟩ : NoteBucket)) s.hm.buckets code
  min full (b.credit + c.nrate.toNat * (s.now - b.since))

/-- A suppressed notification: SUPP, HM_SUPPTOT, event 839. -/
def State.suppress (s : State) (code : Nat) : State :=
  let r := s.occRecord code
  let n := satNat 24 (r.supp + 1)
  let s1 := ((s.setOccRecord code { r with supp := n.1, sat := r.sat || n.2 }).count (aHM 8)).modHm (fun h =>
    { h with unsent := mapUpd (fun _ => 0) h.unsent code (fun k => min (k + 1) (2 ^ 24 - 1)) })
  if s1.hm.suppTold then s1 else (s1.modHm (fun h => { h with suppTold := true })).raise 839

/-- A qualifying occurrence: a token and the item of Table 16-3, or a suppression. -/
def State.notify (s : State) (code : Nat) (c : OccConfig) (v : Word) (t : Long) : State :=
  let k := s.noteCredit code c
  if k < tokenUnit then s.suppress code
  else
    let s1 := s.modHm (fun h => { h with buckets := mapSet h.buckets code ⟨k - tokenUnit, s.now⟩ })
    let q := fld (s1.reg (aHM 2)) 17 0
    let item := [wd (code * 2 ^ 16), v, hiWord t, loWord t, wd (mapGet (fun _ => 0) s1.hm.unsent code)]
    if s1.isReport q then
      match s1.putPacket q item with
      | (.ok, s2) => (s2.modHm (fun h => { h with unsent := mapDel h.unsent code })).raise 832
      | (_, s2) => s2.suppress code
    else s1.suppress code

/-- One occurrence reaches its record (R676, R677, R682). -/
def State.applyOcc (s : State) (code : Nat) (v : Word) : State :=
  let c := s.occConfig code
  let r := s.occRecord code
  let t := stampAfter s.hm.lastStamp s.stampTime
  let r1 := r.apply c v t
  let s1 := (s.setOccRecord code r1).modHm (fun h => { h with lastStamp := some t })
  let s2 := if r.qualifies c v then s1.notify code c v t else s1
  if !r.sat && (s2.occRecord code).sat && code != 0xCD then s2.occurV 0xCD (wd code) else s2

/-- The pending occurrences of a code reach its record (R675). -/
def State.applyPending (s : State) (code : Byte) : State :=
  let l := s.hm.pending.filter (fun p => p.1 == code)
  let s1 := s.modHm (fun h => { h with pending := h.pending.filter (fun p => p.1 != code) })
  l.foldl (fun u p => u.applyOcc code.toNat p.2) s1

/-! ### MRAM wear (R668, R669) -/

def State.sector (s : State) (i : Nat) : SectorWear := mapGet (fun _ => {}) s.hm.sectors i
def State.setSector (s : State) (i : Nat) (x : SectorWear) : State :=
  s.modHm (fun h => { h with sectors := mapPut (fun _ => {}) h.sectors i x })

/-- `n` row writes in a sector. -/
def State.addWear (s : State) (i n : Nat) : State :=
  let x := s.sector i
  let live := min (x.live + n) (2 ^ 32 - 1)
  let commit := decide (4096 ≤ x.inc + n)
  let y := { x with live := live, inc := if commit then 0 else x.inc + n, committed := if commit then live else x.committed }
  let s1 := if commit then s.occur 0xCC else s
  if fld (s.reg (aHM 0x25)) 9 0 * 1000000 ≤ live ∧ x.warned = false then
    ((s1.setSector i { y with warned := true }).raise 837).occurV 0xC7 (wd i)
  else s1.setSector i y

/-- Row writes that `n` octets of one write make in a sector: 32 words a row. -/
def rowsFor (n : Nat) : Nat := ((n + 2) / 3 + 31) / 32

/-- Wear of a write of `n` octets at offset `a`, sector by sector. -/
def State.wearFor (s : State) (a n : Nat) : State :=
  if n = 0 then s
  else
    (upTo ((a + n - 1) / 4096 + 1 - a / 4096)).foldl (fun u k =>
      let i := a / 4096 + k
      u.addWear i (rowsFor (min (a + n) (4096 * (i + 1)) - max a (4096 * i)))) s

/-- Octets written to MRAM, with their wear; what they overwrite is sound again. -/
def State.mramWrite (s : State) (a : Nat) (l : List Byte) : State :=
  ((s.modUp (fun u => { u with ecc := mapDrop (fun k => decide (a ≤ k ∧ k < a + l.length)) u.ecc })).putMram a l).wearFor a
    l.length

/-- Every sector's count is committed (R668). -/
def State.commitWear (s : State) : State :=
  (s.modHm (fun h => { h with sectors := h.sectors.map (fun e => (e.1, { e.2 with committed := e.2.live, inc := 0 })) })).occur
    0xCC

/-! ### Records in words (Table 16-4) -/

/-- A 48-bit count as two words. -/
def longWords (n : Nat) : List Word := [hiWord (ln n), loWord (ln n)]

/-- W0–W61 of a record. -/
def recordWords (code : Nat) (c : OccConfig) (r : OccRecord) : List Word :=
  let w0 := wd (code * 2 ^ 16 + (if c.histogram then 0 else 1) * 2 ^ 14 + b2n c.signed * 2 ^ 13 + b2n r.sat * 2 ^ 12)
  let head := w0 :: longWords r.count ++ [wd r.supp, hiWord r.last, loWord r.last]
  if c.histogram then
    head ++ ((upTo 16).map (fun i => longWords (mapGet (fun _ => 0) r.bins i))).flatten ++ c.edges ++ List.replicate 9 0
  else
    let u : BitVec 72 := BitVec.ofInt 72 r.sum
    head ++ [u.extractLsb' 48 24, u.extractLsb' 24 24, u.extractLsb' 0 24, r.min, hiWord r.minAt, loWord r.minAt, r.max,
      hiWord r.maxAt, loWord r.maxAt] ++ List.replicate 47 0

/-- MARK with the CRC-16 over W0–W62 (R752). -/
def markWord (l : List Word) : Word := wd (0x5A0000 + (crc16Of ((l.map octets).flatten)).toNat)

/-! ### The ring (R685) -/

/-- The MRAM offset of a slot. -/
def slotAddr (n : Nat) : Nat := 0xD00000 + 192 * n

/-- Word `k` of a slot. -/
def State.slotWord (s : State) (n k : Nat) : Word :=
  let a := slotAddr n + 3 * k
  s.mramByte a ++ s.mramByte (a + 1) ++ s.mramByte (a + 2)

def State.slotWords (s : State) (n : Nat) : List Word := (upTo 64).map (s.slotWord n)

/-- A slot's MARK and CRC check. -/
def State.slotValid (s : State) (n : Nat) : Bool :=
  let l := s.slotWords n
  decide (l.getD 63 0 = markWord (l.take 63))

def State.ringHead (s : State) : Nat := fld (s.reg (aHM 7)) 12 0

/-- A slot is written: W63 to 0, W0–W62, then W63 (four row writes), and the head moves on. -/
def State.writeSlot (s : State) (l : List Word) : State :=
  let a := slotAddr s.ringHead
  let bytes := (l.map octets).flatten
  let mark := octets (markWord l)
  let s1 := ((s.mramWrite (a + 189) [0, 0, 0]).mramWrite a bytes).mramWrite (a + 189) mark
  s1.setReg (aHM 7) (wd ((s.ringHead + 1) % 8192))

/-- Network time in units of 2^-48 s, as four words; the RTC while SC is off. -/
def State.headerTime (s : State) : Nat :=
  if s.on dSC then s.sc.time / 2 ^ 24 % 2 ^ 96 else s.rtc.sec * 2 ^ 48 + s.rtc.sub * 2 ^ 33

/-- Codes whose record is not empty, in code order. -/
def State.fullCodes (s : State) : List Nat := (upTo 256).filter (fun c => decide ((s.occRecord c).count ≠ 0))

/-- W0–W62 of a snapshot header (Table 16-5). -/
def State.headerWords (s : State) (seq n time : Nat) : List Word :=
  [wd (3 * 2 ^ 14), wd seq, wd (s.pw.cause.toNat * 2 ^ 20 + s.pw.mode.code * 2 ^ 17), wd n] ++
    longWords (time / 2 ^ 48) ++ longWords (time % 2 ^ 48) ++ List.replicate 54 0 ++ [wd seq]

/-- One code's record is captured, cleared with CLR, and written (R686). -/
def State.captureCode (s : State) (clr : Bool) (seq code : Nat) : State :=
  let l := recordWords code (s.occConfig code) (s.occRecord code) ++ [wd seq]
  (if clr then s.setOccRecord code {} else s).writeSlot l

/-- A snapshot that runs completes (R685, R686). -/
def State.snapshot (s : State) (clr : Bool) : State :=
  let seq := (fld (s.reg (aHM 6)) 23 0 + 1) % 2 ^ 24
  let l := s.fullCodes
  let time := max s.headerTime s.hm.lastHeader
  let s1 := s.commitWear
  let s2 := s1.writeSlot (s1.headerWords seq l.length time)
  let s3 := l.foldl (fun u c => u.captureCode clr seq c) s2
  (((s3.modHm (fun h => { h with snap := none, lastHeader := time })).setReg (aHM 6) (wd seq)).occurV 0xCA
    (wd (l.length + 1))).raise 838

/-- A start of a snapshot (R687). -/
def State.startSnapshot (s : State) (clr : Bool) : Status × State :=
  if s.hm.snap.isSome then (.busy, s)
  else if !s.on dMRAM then (.state, s)
  else (.ok, s.modHm (fun h => { h with snap := some clr }))

/-- A snapshot is cut off: a number of slots, which nothing states, have been written (R687, log 31). -/
def State.cutSnapshot (s : State) : State :=
  match s.hm.snap with
  | none => s
  | some clr =>
    let f := s.take
    let l := s.fullCodes
    let n := f.1 % (l.length + 1)
    let seq := (fld (s.reg (aHM 6)) 23 0 + 1) % 2 ^ 24
    let time := max s.headerTime s.hm.lastHeader
    let s1 := f.2.writeSlot (f.2.headerWords seq l.length time)
    let s2 := (l.take n).foldl (fun u c => u.captureCode clr seq c) s1
    s2.modHm (fun h => { h with snap := none, lastHeader := time, snapCutSlot := some s2.ringHead })

/-! ### Windows (R684) -/

def aCUR (n : Nat) : Nat := aHM (0x140 + 0x100 * n)

/-- Latch window `n` from its cursor. -/
def State.latchWindow (s : State) (n : Nat) : State :=
  let cur := s.reg (aCUR n)
  let i := fld cur 12 0
  let base := aHM (0x100 + 0x100 * n)
  let put := fun (s : State) (l : List Word) => ((upTo 64).zip l).foldl (fun u p => u.setReg (base + p.1) p.2) s
  if bit cur 23 then
    let ok := s.on dMRAM && s.slotValid i
    (put s (if s.on dMRAM then s.slotWords i else List.replicate 64 0)).setReg (aCUR n) (setBit cur 21 ok)
  else
    let l := recordWords i (s.occConfig i) (s.occRecord i) ++ [0, 0]
    let s1 := (put s l).setReg (aCUR n) (setBit cur 21 false)
    if bit cur 22 then s1.setOccRecord i {} else s1

/-- A write of HM_CURn. -/
def State.curWrite (s : State) (n : Nat) (v : Word) : Status × State :=
  if bit v 23 = false ∧ 255 < fld v 12 0 then (.badarg, s)
  else (.ok, (s.plainWrite (aCUR n) v).latchWindow n)

/-- The cursor advances after a read of word 63. -/
def State.curAdvance (s : State) (n : Nat) : State :=
  let cur := s.reg (aCUR n)
  let m := if bit cur 23 then 8192 else 256
  (s.setReg (aCUR n) (setFld cur 12 0 ((fld cur 12 0 + 1) % m))).latchWindow n

/-! ### Configuration (R679, R681) -/

def State.cfgCode (s : State) : Nat := fld (s.reg (aHM 0x10)) 7 0

/-- HM_CFG of the code selected. -/
def OccConfig.word (c : OccConfig) : Word :=
  wd ((if c.histogram then 0 else 1) * 2 ^ 22 + b2n c.signed * 2 ^ 21 + b2n c.nen * 2 ^ 20 + c.nmode.toNat * 2 ^ 18 +
    c.nburst.toNat * 2 ^ 13 + c.nrate.toNat * 2 ^ 5 + c.nbin.toNat * 2)

/-- A write of HM_CFG: KIND and SIGNED only for codes #E0–#FF, whose record it clears. -/
def State.cfgWrite (s : State) (v : Word) : Status × State :=
  let code := s.cfgCode
  let c := s.occConfig code
  let own := decide (0xE0 ≤ code)
  if own && decide (2 ≤ fld v 23 22) then (.badarg, s)
  else
    let c1 : OccConfig :=
      { c with histogram := if own then decide (fld v 23 22 = 0) else c.histogram,
               signed := if own then bit v 21 else c.signed,
               nen := bit v 20, nmode := BitVec.ofNat 2 (fld v 19 18), nburst := BitVec.ofNat 5 (fld v 17 13),
               nrate := BitVec.ofNat 8 (fld v 12 5), nbin := BitVec.ofNat 4 (fld v 4 1) }
    let s1 := (s.setOccConfig code c1).modHm (fun h => { h with buckets := mapDel h.buckets code })
    (.ok, if own then s1.setOccRecord code {} else s1)

/-- The edge that HM_EDGEIDX names, 0 to 14. -/
def State.edgeIdx (s : State) : Nat := fld (s.reg (aHM 0x12)) 3 0 - 1

/-- HM_EDGEIDX advances after an access of HM_EDGEDATA. -/
def State.edgeNext (s : State) : State :=
  s.setReg (aHM 0x12) (wd ((max (fld (s.reg (aHM 0x12)) 3 0) 1 + 1) % 16))

/-- Edges do not decrease. -/
def OccConfig.rising (c : OccConfig) : Bool :=
  (c.edges.zip (c.edges.drop 1)).all (fun p => decide (c.num p.1 ≤ c.num p.2))

/-- A write of HM_EDGEDATA. -/
def State.edgeWrite (s : State) (v : Word) : Status × State :=
  let code := s.cfgCode
  let c := s.occConfig code
  let c1 := { c with edges := c.edges.set s.edgeIdx v }
  if !c1.rising then (.badarg, s)
  else
    let s1 := s.setOccConfig code c1
    (.ok, (if c.histogram then s1.setOccRecord code {} else s1).edgeNext)

/-- A write of HM_REC (R681). -/
def State.recWrite (s : State) (v : Word) : Status × State :=
  let code := fld v 23 16
  if code < 0xD0 then (.badarg, s)
  else
    let x := if (s.occConfig code).signed then BitVec.signExtend 24 (v.extractLsb' 0 16) else v &&& 0xFFFF
    (.ok, s.occurV code x)

/-! ### Temperature (R663–R665) -/

/-- The domain of a temperature sensor (Table 16-1). -/
def sensorDomain (i : Nat) : Nat :=
  [dAON, dDEPOT 1, dDEPOT 5, dMSTORE0, dTABLES, dVAULT, dCHAN .a, dCHAN .b, dLANES 0, dLDPC, dTX .a, dTX .b].getD i 0

/-- A sensor's valid reading in 0.25 °C. -/
def State.tempOf (s : State) (i : Nat) : Option Int :=
  if s.on (sensorDomain i) && (s.hm.temps.any (fun e => e.1 == i)) then
    some (mapGet (fun _ => (0 : BitVec 10)) s.hm.temps i).toInt
  else none

/-- The highest valid reading with its sensor; of equal readings the lowest sensor. -/
def State.hottest (s : State) : Option (Int × Nat) :=
  (upTo 12).foldl (fun b i =>
    match s.tempOf i, b with
    | none, _ => b
    | some t, none => some (t, i)
    | some t, some (u, j) => if u < t then some (t, i) else some (u, j)) none

/-- Degrees of a reading in 0.25 °C. -/
def degrees (t : Int) : Int := t.fdiv 4

/-- HM_TTRIP: 100 to 125 °C, otherwise 120. -/
def State.ttrip (s : State) : Int :=
  let v := fld (s.reg (aHM 0x21)) 7 0
  if 100 ≤ v ∧ v ≤ 125 then (v : Int) else 120

def State.twarn (s : State) : Int := signed 8 (fld (s.reg (aHM 0x20)) 7 0)

/-- The warning of R664 after a sample. -/
def State.tempWarn (s : State) : State :=
  match s.hottest with
  | none => s
  | some (t, i) =>
    if 4 * s.twarn ≤ t ∧ s.hm.twarned = false then
      ((s.modHm (fun h => { h with twarned := true })).raise 833).occurV 0xC0 (wd i)
    else if t < 4 * (s.twarn - 5) then s.modHm (fun h => { h with twarned := false })
    else s

/-- One sample of a sensor: its value, the runs of R665 and the warning. -/
def State.tempSample (s : State) (i : Nat) (t : BitVec 10) : State :=
  let hot := decide (4 * s.ttrip ≤ t.toInt)
  let cool := decide (t.toInt ≤ 4 * (s.ttrip - 20))
  let s1 := s.modHm (fun h =>
    { h with temps := mapSet h.temps i t,
             tripRuns := mapUpd (fun _ => 0) h.tripRuns i (fun n => if hot then n + 1 else 0),
             coolRun := if i = 0 then (if cool then h.coolRun + 1 else 0) else h.coolRun })
  s1.tempWarn

/-- HM_THOT. -/
def State.thotWord (s : State) : Word :=
  match s.hottest with
  | none => 0
  | some (t, i) => wd (i * 256 + (BitVec.ofInt 8 (degrees t)).toNat)

/-! ### Ageing (R666, R667, R671) -/

/-- The domain of an ageing monitor (Table 16-1). -/
def monitorDomain (m : Nat) : Nat :=
  [dDEPOT 0, dDEPOT 1, dDEPOT 2, dDEPOT 3, dDEPOT 4, dDEPOT 5, dDEPOT 6, dDEPOT 7, dMSTORE0, dMSTORE1, dTABLES, dYARD,
   dSB, dVAULT, dLANES 0, dLANES 256, dLDPC, dCHAN .a, dCHAN .b, dBH .a, dBH .b, dHOST, dDRAM, dSC].getD m 0

def State.monitor (s : State) (m : Nat) : AgeMonitor := mapGet (fun _ => {}) s.hm.monitors m
def State.setMonitor (s : State) (m : Nat) (x : AgeMonitor) : State :=
  s.modHm (fun h => { h with monitors := mapPut (fun _ => {}) h.monitors m x })

/-- D of a pair of counts, in ppm (R666), rounded to the nearest whole number, halves up. -/
def degradation (nref nstr d0 : Nat) : Nat :=
  let x : Int := (2 * ((nref : Int) - nstr) * 1000000 + nref).fdiv (2 * (nref : Int))
  (x - (d0 : Int)).toNat

/-- The domain has been on for the whole of the past hour. -/
def State.onForHour (s : State) (d : Nat) : Bool :=
  decide (mapGet (fun _ => 0) s.pw.onAt d + 3600 * cycS ≤ s.now)

/-- One monitor is measured. -/
def State.measure (s : State) (m nref nstr : Nat) : State :=
  if nref = 0 ∨ nstr = 0 then s.occurV 0xC9 (wd m)
  else
    let x := s.monitor m
    let d := min (degradation nref nstr (fld (s.reg (aHM (0x62 + 4 * m))) 15 0)) (2 ^ 17 - 1)
    let hot := decide (fld (s.reg (aHM 0x23)) 16 0 ≤ d)
    let hours := min (x.hours + b2n (s.onForHour (monitorDomain m))) (2 ^ 24 - 1)
    let s1 := s.setMonitor m { x with valid := true, d := d, hours := hours, warned := hot }
    if hot && !x.warned then (s1.raise 834).occurV 0xC4 (wd m) else s1

/-- The measurement of a whole hour (R666, R667). -/
def State.measureAll (s : State) (counts : List (Nat × Nat)) : State :=
  let ms := (upTo 24).filter (fun m => s.on (monitorDomain m))
  let s1 := ms.foldl (fun u m => u.measure m (counts.getD m (0, 0)).1 (counts.getD m (0, 0)).2) s
  let good := ms.filter (fun m => decide ((counts.getD m (0, 0)).1 ≠ 0 ∧ (counts.getD m (0, 0)).2 ≠ 0))
  if good.isEmpty then s1 else s1.occurV 0xC5 (wd (good.foldl (fun n m => max n (s1.monitor m).d) 0))

/-- Days saturate below the code for none. -/
def capDays (n : Nat) : Word := wd (min n 0xFFFFFE)

/-- The predicted end of life of a monitor (R671). -/
def AgeMonitor.predict (x : AgeMonitor) : Word :=
  if x.d = 0 ∨ x.hours < 168 then 0xFFFFFF
  else if 30000 ≤ x.d then 0
  else capDays ((x.hours * 30000 ^ 4 - x.hours * x.d ^ 4) / (24 * x.d ^ 4))

/-! ### Predictions (R670–R673) -/

/-- Seconds of seven days. -/
def week : Nat := 7 * 86400

/-- The predicted end of life of a sector (R672); `kept` is oldest first, each with its RTC second. -/
def SectorWear.predict (x : SectorWear) (sec : Nat) : Word :=
  if 1000000000 ≤ x.live then 0
  else
    match x.kept with
    | [] => 0xFFFFFF
    | (c, t) :: _ =>
      if sec < t + week ∨ x.live ≤ c then 0xFFFFFF
      else capDays ((1000000000 - x.live) * ((sec - t) / 86400) / (x.live - c))

/-- The count kept at this prediction, if the last one is seven days old. -/
def SectorWear.keep (x : SectorWear) (sec : Nat) : List (Nat × Nat) :=
  let due := match x.kept.getLast? with
    | none => true
    | some (_, t) => decide (t + week ≤ sec)
  if due then (if x.kept.length < 4 then x.kept else x.kept.drop 1) ++ [(x.live, sec)] else x.kept

/-- The item number as HM_EOLITEM encodes it. -/
def sectorItem (i : Nat) : Nat := 2 ^ 12 + i

/-- HM_EOLWARN. -/
def State.eolWarn (s : State) : Nat := (s.reg (aHM 0x24)).toNat

/-- An item's new end of life: the warning of R673, once per crossing. -/
def State.eolNote (s : State) (item : Nat) (eol : Word) (was : Bool) : State :=
  if eol.toNat < s.eolWarn ∧ was = false then (s.raise 836).occurV 0xC6 (wd item) else s

/-- The least end of life of all items, with its item. -/
def leastEol (l : List (Nat × Word)) : Nat × Word :=
  l.foldl (fun b e => if e.2.toNat < b.2.toNat then e else b) (0, 0xFFFFFF)

/-- A prediction that runs completes. -/
def State.predicted (s : State) : State :=
  let sec := s.rtc.sec
  let s1 := (upTo 24).foldl (fun u m =>
    let x := u.monitor m
    let e := x.predict
    (u.setMonitor m { x with eol := e, eolWarned := decide (e.toNat < u.eolWarn) }).eolNote m e x.eolWarned) s
  let s2 := (upTo 4096).foldl (fun u i =>
    let x := u.sector i
    let e := x.predict sec
    (u.setSector i { x with eol := e, eolWarned := decide (e.toNat < u.eolWarn), kept := x.keep sec }).eolNote
      (sectorItem i) e x.eolWarned) s1
  let items := (upTo 24).map (fun m => (m, (s2.monitor m).eol)) ++
    (upTo 4096).map (fun i => (sectorItem i, (s2.sector i).eol))
  let b := leastEol items
  let most := (upTo 4096).foldl (fun n i => max n (s2.sector i).live) 0
  ((((s2.setReg (aHM 0x27) b.2).setReg (aHM 0x28) (wd b.1)).modHm (fun h => { h with predRun := false })).occurV 0xC8
    (wd (most / 1000000))).raise 835

/-- A prediction is due (R670). -/
def State.startPrediction (s : State) : Status × State :=
  if s.hm.predRun then (.busy, s)
  else if !s.on dMRAM then (.ok, s.modHm (fun h => { h with predDue := true }))
  else (.ok, s.modHm (fun h => { h with predRun := true, predDue := false }))

/-! ### Registers (Table 16-6) -/

/-- A store to the HM block. -/
def State.hmWrite (s : State) (a : Nat) (v : Word) : Status × State :=
  match a - blk 12 with
  | 3 => s.recWrite v
  | 4 => if bit v 23 then s.startSnapshot (bit v 22) else (.ok, s)
  | 5 => (.ok, (s.plainWrite a v).modHm (fun h => { h with snapAt := s.now }))
  | 0x11 => s.cfgWrite v
  | 0x13 => s.edgeWrite v
  | 0x26 => if bit v 23 then s.startPrediction else (.ok, s)
  | 0x140 => s.curWrite 0 v
  | 0x240 => s.curWrite 1 v
  | _ => (.ok, s.plainWrite a v)

/-- An ageing register (HM_AGE0, HM_AGE1, HM_AGEEOL). -/
def State.ageWord (s : State) (m k : Nat) : Word :=
  let x := s.monitor m
  match k with
  | 0 => wd (b2n x.valid * 2 ^ 23 + x.d)
  | 1 => wd x.hours
  | 2 => s.reg (aHM (0x62 + 4 * m))
  | _ => x.eol

/-- A load from the HM block. -/
def State.hmRead (s : State) (a : Nat) : Word × State :=
  let o := a - blk 12
  if o = 1 then (setBit (setBit (s.reg a) 23 s.hm.snap.isSome) 21 s.hm.predRun, s)
  else if o = 8 then (s.plainRead a).map id (fun t => t.modHm (fun h => { h with suppTold := false }))
  else if o = 0x11 then ((s.occConfig s.cfgCode).word, s)
  else if o = 0x13 then ((s.occConfig s.cfgCode).edges.getD s.edgeIdx 0, s.edgeNext)
  else if o = 0x22 then (s.thotWord, s)
  else if 0x40 ≤ o ∧ o < 0x4C then
    ((match s.tempOf (o - 0x40) with
      | some t => wd (2 ^ 23 + (BitVec.ofInt 10 t).toNat)
      | none => 0), s)
  else if 0x60 ≤ o ∧ o < 0xC0 then (s.ageWord ((o - 0x60) / 4) (o % 4), s)
  else if o = 0x13F then (s.reg a, s.curAdvance 0)
  else if o = 0x23F then (s.reg a, s.curAdvance 1)
  else if 0x1000 ≤ o ∧ o < 0x3000 then
    let n := (s.sector ((o - 0x1000) / 2)).live
    (if o % 2 = 0 then wd (n / 2 ^ 24) else wd (n % 2 ^ 24), s)
  else if 0x3000 ≤ o then ((s.sector (o - 0x3000)).eol, s)
  else s.plainRead a

end Sys2Proof.Machine
end

