-- ==== Sys2Proof/Machine/PointsRegs.lean ====
section
/-! DEFINITION. Command ports and registers of points, and the scrubber (R345, R352, R361–R363, R372–R381). -/

namespace Sys2Proof.Machine

/-! ### Ports -/

/-- Word `o` of port `p`. -/
def aPort (p o : Nat) : Nat := aPT (0x40 * p + o)

def State.portBusy (s : State) (p : Nat) : Bool := bit (s.reg (aPort p 1)) 23

/-- May the source write the port (Table 08-5)? -/
def portOwner (src : Src) (p : Nat) : Bool :=
  match src with
  | .shunter sh => decide (depotOf sh = p)
  | .host => decide (p = 8)

/-- OP of a port's command word. -/
def State.portOp (s : State) (p : Nat) : Nat := fld (s.reg (aPort p 0)) 23 18

def State.portData (s : State) (p k : Nat) : Word := s.reg (aPort p (0x10 + k))

/-- Data words 0 to n − 1. -/
def State.portWords (s : State) (p n : Nat) : List Word := (upTo n).map (s.portData p)

def State.portHandle (s : State) (p : Nat) : Nat := fld (s.reg (aPort p 2)) 17 0

/-- The key words as one number: the EUI-64, the short key, or the address. -/
def State.portEui (s : State) (p : Nat) : Nat :=
  ((s.reg (aPort p 4)).toNat * 2 ^ 24 + (s.reg (aPort p 5)).toNat) * 2 ^ 16 + fld (s.reg (aPort p 6)) 23 8
def State.portShort (s : State) (p : Nat) : Nat :=
  shortKey (fld (s.reg (aPort p 4)) 23 8) (fld (s.reg (aPort p 5)) 23 8)
def State.portAddr (s : State) (p : Nat) : Nat :=
  ((upTo 5).foldl (fun n k => n * 2 ^ 24 + (s.reg (aPort p (4 + k))).toNat) 0) * 2 ^ 8 + fld (s.reg (aPort p 9)) 23 16

/-- ARG.KT, and the key it names. -/
def State.portKt (s : State) (p : Nat) : Bool := bit (s.reg (aPort p 3)) 11
def State.portKey (s : State) (p : Nat) : Nat := if s.portKt p then s.portShort p else s.portEui p
def State.portLen (s : State) (p : Nat) : Nat := fld (s.reg (aPort p 3)) 23 16

/-- Words to registers from an address on. -/
def State.regsFrom (s : State) : Nat → List Word → State
  | _, [] => s
  | a, w :: r => (s.setReg a w).regsFrom (a + 1) r

/-- PT_STAT of an answer. -/
def PtAns.stat (x : PtAns) : Word := wd (stCode x.status * 2 ^ 19 + x.detail * 2 ^ 8 + min x.disp 128)

/-- Shunters of a depot that wait for the points port go on, with PT_STAT as their answer (R725). -/
def State.wakePoints (s : State) (d : Nat) (w : Word) (st : Status) : State :=
  (upTo 8).foldl (fun t i =>
    match (t.shunter (shOf d i)).wait with
    | .points dest => t.modShunter (shOf d i) (fun x => ((x.setR dest w).outcome st).resume t.now)
    | _ => t) s

/-- A command completes (R362). -/
def State.portDone (s : State) (p : Nat) (x : PtAns) : State :=
  let t := match x.handle with
    | some h => s.setReg (aPort p 2) (wd h)
    | none => s
  let t1 := t.regsFrom (aPort p 0x10) x.data
  let t2 := match x.data1 with
    | some w => t1.setReg (aPort p 0x11) w
    | none => t1
  let t3 := t2.setReg (aPort p 1) x.stat
  let t4 := if bit (s.reg (aPort p 0)) 17 then t3.raise (464 + p) else t3
  if p < 8 then t4.wakePoints p x.stat x.status else t4

/-- A refusal with STATE or DENIED is counted (Table 08-12). -/
def State.ptRefused (s : State) : State := (s.count (aPT 0x2F)).occur 0x6E

/-- The listed OPs. -/
def opListed (op : Nat) : Bool := decide (1 ≤ op ∧ op ≤ 8) || decide (0x10 ≤ op ∧ op ≤ 0x17)

/-- A write of PT_CMD: BUSY, or at once the refusal of an OP that is not listed (R368). -/
def State.portCmd (s : State) (p : Nat) (v : Word) : State :=
  let t := s.plainWrite (aPort p 0) v
  if opListed (t.portOp p) then t.setReg (aPort p 1) 0x800000 else t.portDone p (ptRef .badarg 0x12)

/-- A store to a command word of port `p`. -/
def State.portWrite (s : State) (src : Src) (p o : Nat) (v : Word) : Status × State :=
  if !portOwner src p then (.denied, s.ptRefused)
  else if s.portBusy p then (.busy, s)
  else if o = 0 then (.ok, s.portCmd p v)
  else (.ok, s.plainWrite (aPort p o) v)

/-! ### Global registers -/

/-- A LEARNED entry is valid. -/
def State.anyLearned (s : State) : Bool := s.validNodes.any (fun e => decide (e.2 = 3))

/-- A store to the PT block. -/
def State.ptWrite (s : State) (src : Src) (a : Nat) (v : Word) : Status × State :=
  let o := a - blk 6
  let p := o / 0x40
  if o % 0x40 < 0x20 then s.portWrite src p (o % 0x40) v
  else if o = 0x20 then
    if bit v 23 != s.roaming && s.anyLearned then (.state, s.ptRefused) else (.ok, s.plainWrite a v)
  else if o = 0x21 then
    if s.pt.eui.isEmpty && s.pt.short.isEmpty && s.pt.hash.isEmpty then (.ok, s.plainWrite a v) else (.state, s.ptRefused)
  else if o = 0x2A2 ∨ o = 0x2A3 then
    if bit (s.reg (aPT 0x2A0)) 23 then (.state, s.ptRefused) else (.ok, s.plainWrite a v)
  else (.ok, s.plainWrite a v)

/-- The event that a read of a counter lets be raised again. -/
def ptCounterEvent (o : Nat) : Option Nat :=
  match o with
  | 0x28 => some 452 | 0x29 => some 453 | 0x2D => some 451 | 0x2A5 => some 450 | 0x2A6 => some 449 | _ => none

/-- A load from the PT block. -/
def State.ptRead (s : State) (a : Nat) : Word × State :=
  let o := a - blk 6
  let half := fun (up : Bool) => (s.validNodes.filter (fun e => decide (131072 ≤ e.1) == up)).length
  if o = 0x22 then (wd (half false), s)
  else if o = 0x23 then (wd (half true), s)
  else if o = 0x24 then (wd s.routeCount, s)
  else if o = 0x25 then
    (wd (s.pt.hash.stash.length * 2 ^ 16 + s.pt.eui.stash.length * 2 ^ 8 + s.pt.short.stash.length), s)
  else if 0x70 ≤ o ∧ o < 0x80 then (wd (s.ingCount (o - 0x70)), s)
  else
    match ptCounterEvent o with
    | some e => (s.plainRead a).map id (fun t => t.ptUntold e)
    | none => s.plainRead a

/-! ### The scrubber (R377–R381, R373) -/

/-- A shadow word at a byte address: the three low bytes of four (Table 08-9). -/
def State.shadowWord (s : State) (a : Nat) : Word := s.dramByte (a + 1) ++ s.dramByte (a + 2) ++ s.dramByte (a + 3)

def State.shadowBase (s : State) : Nat := fld (s.reg (aPT 0x2A2)) 21 0 * 4096

/-- `n` shadow words at an offset. -/
def State.shadow (s : State) (o n : Nat) : List Word := (upTo n).map (fun i => s.shadowWord (s.shadowBase + o + 4 * i))

def State.shadowRecords (s : State) : Nat := min (fld (s.reg (aPT 0x2A3)) 18 0) 262144

def State.scrPhase (s : State) : Nat := fld (s.reg (aPT 0x2A1)) 21 20
def State.scrPos (s : State) : Nat := fld (s.reg (aPT 0x2A1)) 17 0

/-- The scrubber stands at an item. -/
def State.scrAt (s : State) (phase pos : Nat) : State := s.setReg (aPT 0x2A1) (wd (2 ^ 23 + phase * 2 ^ 20 + pos))

/-- A mismatch is reported (R378 step 5). -/
def State.scrReport (s : State) (h : Option Nat) : State :=
  let t := ((s.count (aPT 0x2A6)).occur 0x67).ptTold 449
  match h with
  | some h => t.setReg (aPT 0x2A7) (wd h)
  | none => t

/-- A repair is made. -/
def State.scrRepaired (s : State) : State := ((s.count (aPT 0x2A5)).occur 0x66).ptTold 450

/-- The pass ends (R377, R379). -/
def State.scrPassEnd (s : State) : State :=
  let ms := (s.now - s.pt.passAt) / cycMs
  let t := (((s.count (aPT 0x2A4)).setReg (aPT 0x2A9) (wd (min ms (2 ^ 24 - 1)))).raise 448).occurV 0x6D
    (wd (min ms (2 ^ 24 - 1)))
  let t1 := if s.routeCount ≠ s.pt.routesSeen then (t.raise 457).occur 0x6C else t
  t1.setReg (aPT 0x2A1) 0

/-- The item after the present one. -/
def State.scrNext (s : State) : State :=
  let p := s.scrPos + 1
  match s.scrPhase with
  | 0 => if p < 262144 then s.scrAt 0 p else s.scrAt 1 0
  | 1 => if p < 65536 then s.scrAt 1 p else s.scrAt 2 0
  | 2 => if p < 65536 then s.scrAt 2 p else if s.shadowRecords = 0 then s.scrPassEnd else s.scrAt 3 0
  | _ => if p < s.shadowRecords then s.scrAt 3 p else s.scrPassEnd

/-- A pass begins where none is in progress. -/
def State.scrBegin (s : State) : State :=
  if bit (s.reg (aPT 0x2A1)) 23 then s.setRegFld (aPT 0x2A1) 22 22 0
  else (s.scrAt 0 0).modPt (fun p => { p with passAt := s.now, routesSeen := 0 })

/-- The scrubber waits for DRAM (R381). -/
def State.scrWait (s : State) : State :=
  if bit (s.reg (aPT 0x2A1)) 22 then s else (s.setRegFld (aPT 0x2A1) 22 22 1).raise 455

/-- Steps 3 to 5 of R378 at entry `h`. -/
def State.scrCompare (s : State) (h : Nat) : State :=
  let e := s.nodeEntry h
  let sh := maskStable (s.shadow (64 * h) 16)
  let bad := s.badStable h
  let t := if bad then s.ptEcc2 else s
  if !bad && decide (maskStable e = sh) then t
  else if enDirty e && !bad then t.scrReport (some h)
  else
    let new := (sh.set 2 (setBit (ew sh 2) 2 (bit (ew e 2) 2))) ++ e.drop 10
    let st := enState new
    if halfBad h st ∨ 4 < st ∨ (st ≠ 0 ∧ t.dupKey (some h) new = true) then t.scrReport (some h)
    else
      match t.reindex h e new with
      | none => t.scrReport (some h)
      | some (u, _, _) =>
        ((u.putNode h 0 new).modPt (fun p => { p with eccStable := mapDel p.eccStable h })).scrRepaired

/-- Step 6 of R378: keys that do not lead to the entry go in again. -/
def State.scrIndexes (s : State) (h : Nat) : State :=
  let e := s.nodeEntry h
  if enState e = 0 then s
  else
    let s1 := if s.findEui (enEui e) = some h then s
      else match s.pt.eui.insert s.euiBs (enEui e) h with
        | some r => (s.modPt (fun p => { p with eui := r.table })).inserted s.pt.eui r
        | none => s
    if !enSv e || decide (s1.findShort (enShort e) = some h) then s1
    else match s1.pt.short.insert s1.shortBs (enShort e) h with
      | some r => (s1.modPt (fun p => { p with short := r.table })).inserted s1.pt.short r
      | none => s1

/-- R373. -/
def State.scrAge (s : State) (h : Nat) : State :=
  let e := s.nodeEntry h
  let age := fld (s.reg (aPT 0x20)) 13 0
  let d := (s.lastNow + 2 ^ 32 - enLast e) % 2 ^ 32
  if age ≠ 0 ∧ enState e = 3 ∧ enStatic e = false ∧ age * 65536 ≤ d ∧ d < 2 ^ 31 then
    ((s.deleteNode h).count (aPT 0x2E)).occur 0x68
  else s

/-- A visit of a node entry. -/
def State.scrNode (s : State) (h : Nat) : State :=
  let s1 := if s.badLive h then s.ptEcc2.clearLive h else s
  (((s1.scrCompare h).scrIndexes h).scrAge h).scrNext

/-- A visit of a direct entry. -/
def State.scrDirect (s : State) (x : Nat) : State :=
  let l := s.shadow (0x1000000 + 8 * x) 2
  let s1 := if s.badDirect x then s.ptEcc2 else s
  if !s.badDirect x && decide (s.directWord x 0 = ew l 0) && decide (s.directWord x 1 = ew l 1) then s1
  else (s1.setDirect x (ew l 0) (ew l 1)).scrRepaired

/-- A visit of a filter entry: bits are only set. -/
def State.scrFilter (s : State) (x : Nat) : State :=
  let l := s.shadow (0x1080000 + 32 * x) 5
  let own := s.filterEntry x
  let t := (upTo 5).foldl (fun (u : State) w => u.setFilter x w (ew own w ||| ew l w)) s
  let t1 := if t.filterEntry x = own then t else t.scrRepaired
  if (upTo 5).any (fun w => decide (ew own w &&& ~~~(ew l w) ≠ 0)) then t1.count (aPT 0x2A8) else t1

/-- A visit of a route record. -/
def State.scrRoute (s : State) (k : Nat) : State :=
  let l := s.shadow (0x1280000 + 32 * k) 8
  if !bit (ew l 5) 7 then s
  else
    let t := s.modPt (fun p => { p with routesSeen := p.routesSeen + 1 })
    let a := ((upTo 5).foldl (fun n i => n * 2 ^ 24 + (ew l i).toNat) 0) * 2 ^ 8 + fld (ew l 5) 23 16
    let len := fld (ew l 5) 15 8
    if len < 17 ∨ 128 < len then t.scrReport none
    else if t.findRoute len a = some (routeVal (ew l 6) (ew l 7)) then t
    else
      match t.putRoute len a (ew l 6) (ew l 7) with
      | (⟨.ok, _, _, _, _, _⟩, u) => u.scrRepaired
      | _ => t.scrReport none

/-- A visit in the direct, filter or route phase. -/
def State.scrTable (s : State) : State :=
  let p := s.scrPos
  let t := match s.scrPhase with
    | 1 => s.scrDirect p
    | 2 => s.scrFilter p
    | _ => s.scrRoute p
  t.scrNext

/-- The TABLES domain has left retention: RET in every valid entry (R345); what Table 08-10 empties is empty. -/
def State.tablesRetained (s : State) : State :=
  let t := s.validNodes.foldl (fun u e => u.putNode e.1 2 [setBit (u.nodeWord e.1 2) 2 true]) s
  t.modPt (fun p =>
    { p with
        hash := {}, direct := [], filter := [], eccDirect := [], eccFilter := [], told := [], passAt := 0,
        routesSeen := 0 })

end Sys2Proof.Machine
end

