-- ==== Sys2Proof/Machine/Freight.lean ====
section
/-! DEFINITION. Freight: descriptors, their checks, and the transfer (R107–R115, Tables 02-3 and 02-4). -/

namespace Sys2Proof.Machine

/-- The descriptors of a depot, the one in transfer first. -/
def State.freightOf (s : State) (d : Nat) : List FreightJob := mapGet (fun _ => []) s.dp.freight d

def State.setFreight (s : State) (d : Nat) (l : List FreightJob) : State :=
  s.modDp (fun q => { q with freight := mapPut (fun _ => []) q.freight d l })

/-- The descriptor in 8 words. -/
def freightDesc (l : List Word) : FreightJob :=
  let w := fun (i : Nat) => l.getD i 0
  { toWords := bit (w 0) 23, packed := decide (fld (w 0) 22 21 = 1), crc := bit (w 0) 20, maddr := (w 1).toNat,
    daddr := fld (w 2) 9 0 * 2 ^ 24 + (w 3).toNat, len := fld (w 4) 16 0, compq := fld (w 5) 17 0, tag := w 6 }

/-- Reserved fields are 0. -/
def freightZeros (l : List Word) : Bool :=
  let w := fun (i : Nat) => l.getD i 0
  decide (fld (w 0) 19 0 = 0 ∧ fld (w 2) 23 10 = 0 ∧ fld (w 4) 23 17 = 0 ∧ fld (w 5) 23 18 = 0 ∧ w 7 = 0)

/-- DRAM bytes that a transfer moves. -/
def FreightJob.bytes (j : FreightJob) : Nat := (if j.packed then 3 else 4) * j.len

/-- The checks of R108 to R110 on a descriptor of depot `d`, in the order of R110. -/
def State.freightCheck (s : State) (d : Nat) (l : List Word) : Status :=
  let j := freightDesc l
  if !freightZeros l ∨ j.len = 0 ∨ 65536 < j.len ∨ j.maddr < baseMain ∨ 2 ^ 24 < j.maddr + j.len ∨
      (fld (l.getD 0 0) 22 21 = 0 ∧ j.daddr % 4 ≠ 0) ∨ 2 ≤ fld (l.getD 0 0) 22 21 ∨ s.isReport j.compq = false then .badarg
  else if j.daddr < fld (s.reg (aFR (0x10 + 2 * d))) 21 0 * 4096 ∨
      fld (s.reg (aFR (0x11 + 2 * d))) 21 0 * 4096 + 4096 < j.daddr + j.bytes then .denied
  else if bit (s.reg (aFR 0)) 0 = false ∨ s.on dDRAM = false then .state
  else if 32 ≤ (s.freightOf d).length then .full
  else .ok

/-- The DRAM bytes of a word. -/
def FreightJob.enc (j : FreightJob) (w : Word) : List Byte := if j.packed then octets w else (0 : Byte) :: octets w

/-- Words of DRAM bytes. -/
def FreightJob.dec (j : FreightJob) (l : List Byte) (i : Nat) : Word :=
  let k := if j.packed then 3 * i else 4 * i + 1
  l.getD k 0 ++ l.getD (k + 1) 0 ++ l.getD (k + 2) 0

/-- `n` words of the descriptor move. -/
def State.move (s : State) (j : FreightJob) (n : Nat) : State :=
  let size := (if j.packed then 3 else 4) * n
  if j.toWords then
    let l := s.dramBytes j.daddr size
    s.putMain j.maddr ((upTo n).map (j.dec l))
  else s.putDram j.daddr ((upTo n).flatMap (fun i => j.enc (s.mainWord (j.maddr + i))))

/-- The descriptor at the head of depot `d` ends: `good` words were moved before an uncorrectable DRAM error, or all
were; its completion item follows (R113–R115, Table 02-4). -/
def State.freightDone (s : State) (d : Nat) (good : Option Nat) : State :=
  match s.freightOf d with
  | [] => s
  | j :: r =>
    let err := match good with
      | some n => decide (n < j.len)
      | none => false
    let n := min (good.getD j.len) j.len
    let t := (s.setFreight d r).move j n
    let c := if j.crc then (crc32Of (t.dramBytes j.daddr ((if j.packed then 3 else 4) * n))).toNat else 0
    let st := if err then Status.fault else .ok
    let item := [j.tag, wd (n * 16 + (if err then 7 else 0)), wd (c / 2 ^ 16), wd (c % 2 ^ 16)]
    let u := t.count (aFR (0x28 + d))
    let v := if st = .fault then u.count (aFR 0x30) else u
    v.post j.compq item

/-- Every descriptor queued completes. -/
def State.freightAll (s : State) : State :=
  (upTo 8).foldl (fun (u : State) d => (u.freightOf d).foldl (fun (v : State) _ => v.freightDone d none) u) s

/-- A load from the FR block. -/
def State.frRead (s : State) (a : Nat) : Word × State :=
  let o := a - blk 14
  if 0x20 ≤ o ∧ o < 0x28 then (wd (s.freightOf (o - 0x20)).length, s) else s.plainRead a

end Sys2Proof.Machine
end

