-- ==== Sys2Proof/Machine/VaultReqs.lean ====
section
/-! DEFINITION. The requests of the vault's windows (R484–R499, R510–R520, Table 11-13). -/

namespace Sys2Proof.Machine

/-- What a request writes to its window when it ends: DETAIL, the OUT words, and octets at KV_DST. -/
structure KvAns where
  status : Status
  detail : Nat := 0
  out : List Word := []
  dst : Option (List Byte) := none
deriving DecidableEq, Repr

/-- A request's answer, or none while it goes on, with the state. -/
abbrev KvRes := Option KvAns × State

def kvEnd (st : Status) (s : State) : KvRes := (some { status := st }, s)

/-! ### Inputs -/

def State.winSlot (s : State) (w : Nat) : Nat := fld (s.reg (aWin w 2)) 13 0
def State.winBlob (s : State) (w : Nat) : Nat := fld (s.reg (aWin w 3)) 21 0
def State.winArg (s : State) (w : Nat) : Word := s.reg (aWin w 4)
def State.winSlen (s : State) (w : Nat) : Nat := fld (s.reg (aWin w 6)) 15 0
def State.winDst (s : State) (w : Nat) : Nat := (s.reg (aWin w 7)).toNat
def State.winAux (s : State) (w : Nat) : Nat := fld (s.reg (aWin w 9)) 21 0
def State.argType (s : State) (w : Nat) : Nat := fld (s.winArg w) 23 20
def State.argDest (s : State) (w : Nat) : BitVec 6 := BitVec.ofNat 6 (fld (s.winArg w) 19 14)
def State.argAlg (s : State) (w : Nat) : Nat := fld (s.winArg w) 10 9

/-- `n` octets at word address `a` lie in the main store (R517). -/
def inMain (a n : Nat) : Bool := decide (baseMain ≤ a) && decide (a + (n + 2) / 3 ≤ 2 ^ 24) && decide (n ≤ 65535)

/-- The first `n` octets of the input buffer. -/
def State.srcOctets (s : State) (w n : Nat) : Option (List Byte) :=
  let a := (s.reg (aWin w 5)).toNat
  if inMain a n then some (s.mainOctets a n) else none

/-- The input buffer, SLEN octets. -/
def State.src (s : State) (w : Nat) : Option (List Byte) := s.srcOctets w (s.winSlen w)

/-- With an input, or BADARG. -/
def withSrc (x : Option (List Byte)) (s : State) (f : List Byte → KvRes) : KvRes :=
  match x with
  | some l => f l
  | none => kvEnd .badarg s

/-- Answer octets at KV_DST, with OUT words, where they fit. -/
def State.answer (s : State) (w : Nat) (out : List Word) (l : List Byte) (t : State) : KvRes :=
  if inMain (s.winDst w) l.length then (some { status := .ok, out := out, dst := some l }, t) else kvEnd .badarg s

/-- A request that needs a root. -/
def State.rooted (s : State) (f : KvRes) : KvRes :=
  match s.rootCheck with
  | some st => kvEnd st s
  | none => f

/-- A request that reads or writes a blob: DRAM in service, a root, and an index below KV_BLOBCNT. -/
def State.blobbed (s : State) (i : Nat) (f : KvRes) : KvRes :=
  if s.blobCnt ≤ i then kvEnd .badarg s
  else s.rooted (if s.on dDRAM then f else kvEnd .state s)

/-- A request that needs randomness (R508, R509). -/
def State.randomly (s : State) (f : State → KvRes) : KvRes :=
  match s.kv.ent with
  | .failed => kvEnd .noentropy s.noEntropy
  | .init => (none, s)
  | .restart => (none, s)
  | .ok => if s.reseedDue then (none, s) else f (s.modKv (fun v => { v with drbgReqs := v.drbgReqs + 1 }))

/-- The use of slot `k` for destination `d` (R485, R523): the key, the request's end, or a wait. -/
def State.useKey (s : State) (k d : Nat) (f : Nat → KeyRec → KvRes) : KvRes :=
  let x := s.keySlot k
  match x.state with
  | .empty => kvEnd .absent s
  | .loading _ => (none, s)
  | .revoking _ => (none, s)
  | .resident i =>
    if x.ecc then kvEnd .fault (s.eccSlot k)
    else if x.info.dest.getLsbD d then f i x.whole
    else kvEnd .denied s

/-- A refusal of R484 as a status. -/
def State.blobStatus (s : State) (r : BlobRes) : KvRes :=
  match r with
  | .none => kvEnd .absent s
  | .tomb _ => kvEnd .denied s
  | _ => kvEnd .fault s.blobFail

/-! ### The key cache -/

/-- LOAD (R487–R489, Table 11-8). -/
def State.kvLoad (s : State) (w : Fin 9) : KvRes :=
  let k := s.winSlot w
  let i := s.winBlob w
  let pin := bit (s.winArg w) 13
  let x := s.keySlot k
  if s.blobCnt ≤ i then kvEnd .badarg s
  else
    match s.rootCheck with
    | some st => kvEnd st s
    | none =>
      if !s.on dDRAM ∨ s.elsewhere i k = true then kvEnd .state (s.occur 0x91)
      else
        match x.state with
        | .empty => (none, s.startLoad k i (some w) pin false)
        | .loading _ => (none, s)
        | .revoking _ => (none, s.skipWb k)
        | .resident j =>
          if x.ecc then kvEnd .fault (s.eccSlot k)
          else if i = j then
            (some { status := .ok, detail := 1 }, (s.setKeySlot k { x with pin := x.pin || pin }).count (aKV 0x250))
          else if x.hold ∨ x.pin then kvEnd .busy (s.occur 0x91)
          else (none, (s.evictWb k).startLoad k i (some w) pin false)

/-- EVICT (Table 11-8). -/
def State.kvEvict (s : State) (w : Fin 9) : KvRes :=
  let k := s.winSlot w
  let x := s.keySlot k
  match x.state with
  | .empty => kvEnd .ok s
  | .loading _ => (none, s)
  | .revoking _ => (none, s.skipWb k)
  | .resident _ => if x.hold then kvEnd .busy s else kvEnd .ok ((s.evictWb k).setKeySlot k {})

/-- DETAIL of a request that waited for a write-back. -/
def State.waitDetail (s : State) (w : Nat) : Nat := if mapGet (fun _ => false) s.kv.waited w then 3 else 0

/-- A REVOKE or REWRAP waits for a write-back, and is counted once (R497). -/
def State.waitWb (s : State) (w : Nat) : KvRes :=
  if mapGet (fun _ => false) s.kv.waited w then (none, s)
  else
    (none, ((s.modKv (fun v => { v with waited := mapPut (fun _ => false) v.waited w true })).count (aKV 0x25A)).occur 0x99)

/-- The counters as KV_OUT0–2 show them. -/
def KeyRec.counters (k : KeyRec) : List Word := packOctets (natToOctets 4 k.tx.toNat ++ natToOctets 4 k.rx.toNat)

/-- REVOKE (R496, R497). -/
def State.kvRevoke (s : State) (w : Fin 9) : KvRes :=
  let i := s.winBlob w
  s.blobbed i
    (if s.inFlight i then s.waitWb w
    else
      match s.slotOf i with
      | some k =>
        let x := s.keySlot k
        match x.state with
        | .resident _ =>
          if x.ecc then kvEnd .fault (s.eccSlot k)
          else (none, s.setKeySlot k { x with state := .revoking i, shareA := [], shareB := [], window := some w })
        | _ => (none, s)
      | none =>
        match s.readBlob i with
        | .key r =>
          (some { status := .ok, detail := s.waitDetail w, out := r.counters }, s.putBlob i r.tomb true)
        | b => s.blobStatus b)

/-- REWRAP (R497, R499). A resident key is written with TXCTR at its lease (R491). -/
def State.kvRewrap (s : State) (w : Fin 9) : KvRes :=
  let i := s.winBlob w
  let d := s.argDest w
  s.blobbed i
    (if s.inFlight i then s.waitWb w
    else
      match s.slotOf i with
      | some k =>
        let x := s.keySlot k
        match x.state with
        | .resident _ =>
          if x.ecc then kvEnd .fault (s.eccSlot k)
          else
            let y := { x with info := { x.info with dest := x.info.dest &&& d }, dirty := false }
            let t := (s.setKeySlot k y).putBlob i
              { y.whole with tx := if x.info.typ = 1 then BitVec.ofNat 32 x.lease else x.info.tx } false
            (some { status := .ok, detail := s.waitDetail w }, t)
        | _ => (none, s)
      | none =>
        match s.readBlob i with
        | .key r =>
          (some { status := .ok, detail := s.waitDetail w }, s.putBlob i { r with dest := r.dest &&& d } false)
        | b => s.blobStatus b)

/-! ### Creating keys -/

/-- Write a new key at index `i`; a TYPE 1 key takes a tombstone's counters (R485). -/
def State.newKey (s : State) (i : Nat) (k : KeyRec) : State :=
  let k1 := match s.readBlob i with
    | .tomb r => if k.typ = 1 then { k with tx := r.tx, rx := r.rx } else k
    | _ => k
  s.putBlob i k1 false

/-- Key octets of a TYPE from random octets (Table 11-7). -/
def keyFrom (t : Nat) (l : List Byte) : List Byte := if t = 3 then natToOctets 48 (scalarOf l) else l.take (keyLen t)

/-- GENKEY. -/
def State.kvGenkey (s : State) (w : Fin 9) : KvRes :=
  let t := s.argType w
  let d := s.argDest w
  let i := s.winBlob w
  if !destFits t d then kvEnd .badarg s
  else
    s.blobbed i
      (withSrc (if t = 1 then s.srcOctets w 9 else some []) s (fun l =>
        s.randomly (fun u =>
          let f := u.freeOctets 56
          kvEnd .ok (f.2.newKey i
            { typ := BitVec.ofNat 4 t, dest := d, key := keyFrom t f.1,
              eui := BitVec.ofNat 64 (octetsToNat (l.take 8)), index := l.getD 8 0 }))))

/-- Octets of the KDF for a TYPE. -/
def kdfBits (t : Nat) : Nat := if t = 3 then 448 else 8 * keyLen t

/-- KDF. The node's EUI-64 and key index of a TYPE 1 key so made are not stated: free (log 33). -/
def State.kvKdf (s : State) (w : Fin 9) : KvRes :=
  let t := s.argType w
  let d := s.argDest w
  let i := s.winBlob w
  if !destFits t d then kvEnd .badarg s
  else
    s.blobbed i
      (withSrc (s.src w) s (fun ctx =>
        s.useKey (s.winSlot w) dKdf (fun _ k =>
          let f := s.freeOctets 9
          let e := if t = 1 then f.1 else List.replicate 9 0
          kvEnd .ok (f.2.newKey i
            { typ := BitVec.ofNat 4 t, dest := d, key := keyFrom t (kdf384 k.key Config.kdfLabel ctx (kdfBits t)),
              eui := BitVec.ofNat 64 (octetsToNat (e.take 8)), index := e.getD 8 0 }))))

/-- EXPORT (R519). The GEN of a transfer blob is not stated: free (log 33). -/
def State.kvExport (s : State) (w : Fin 9) : KvRes :=
  let i := s.winAux w
  let chip := fld (s.winArg w) 13 0
  s.blobbed i
    (s.useKey (s.winSlot w) dWrap (fun _ wk =>
      let give := fun (r : KeyRec) =>
        let g := s.take
        let iv := g.2.nextIv
        let b := sealBlob wk.key iv.1 (blobW0 r.typ r.dest 3 0) (wd chip) (wd (g.1 % 65536 * 2 ^ 8)) r
        s.answer w [] (b.flatMap octets) iv.2
      match s.slotOf i with
      | some k =>
        match (s.keySlot k).state with
        | .resident _ => give (s.keySlot k).whole
        | _ => (none, s)
      | none =>
        match s.readBlob i with
        | .key r => give r
        | b => s.blobStatus b))

/-- IMPORT (R519). -/
def State.kvImport (s : State) (w : Fin 9) : KvRes :=
  let i := s.winBlob w
  s.blobbed i
    (withSrc (s.srcOctets w 96) s (fun l =>
      let b := packOctets l
      s.useKey (s.winSlot w) dWrap (fun _ wk =>
        let t := blobTyp b
        let d := blobDest b
        if fld (b.getD 0 0) 23 20 = 0 then kvEnd .absent s
        else if b.getD 0 0 ≠ blobW0 t d 3 0 then kvEnd .fault s.blobFail
        else if (b.getD 1 0).toNat ≠ fld (s.reg (aKV 0x24C)) 13 0 then kvEnd .denied s
        else
          match openBlob wk.key b with
          | none => kvEnd .fault s.blobFail
          | some p => if !destFits t.toNat d then kvEnd .badarg s else kvEnd .ok (s.newKey i (keyOfPlain t d p)))))

/-! ### Hashing, sealing, signing -/

/-- HMAC. -/
def State.kvHmac (s : State) (w : Fin 9) : KvRes :=
  withSrc (s.src w) s (fun l =>
    s.useKey (s.winSlot w) dHmac (fun _ k => (some { status := .ok, out := packOctets (hmac384 k.key l) }, s)))

/-- HASH. -/
def State.kvHash (s : State) (w : Fin 9) : KvRes :=
  withSrc (s.src w) s (fun l => (some { status := .ok, out := packOctets (sha384 l) }, s))

/-- GCMSEAL: the input is the IV where the caller supplies it, the additional data, the plaintext (DEDUCED, log 33). -/
def State.kvSeal (s : State) (w : Fin 9) : KvRes :=
  let gen := bit (s.winArg w) 11
  let skip := if gen then 0 else 12
  let n := s.winAux w
  withSrc (s.src w) s (fun l =>
    if l.length < skip + n then kvEnd .badarg s
    else
      s.useKey (s.winSlot w) dGcm (fun _ k =>
        let go := fun (iv : List Byte) (t : State) =>
          let c := gcmSeal k.key iv ((l.drop skip).take n) (l.drop (skip + n))
          s.answer w (packOctets iv) (c.1 ++ c.2) t
        if gen then
          match s.rootCheck with
          | some st => kvEnd st s
          | none => go s.nextIv.1 s.nextIv.2
        else go (l.take 12) s))

/-- GCMOPEN: IV, additional data, ciphertext, tag. -/
def State.kvOpen (s : State) (w : Fin 9) : KvRes :=
  let n := s.winAux w
  withSrc (s.src w) s (fun l =>
    if l.length < 12 + n + 16 then kvEnd .badarg s
    else
      s.useKey (s.winSlot w) dGcm (fun _ k =>
        let c := l.drop (12 + n)
        match gcmOpen k.key (l.take 12) ((l.drop 12).take n) (c.take (c.length - 16)) (c.drop (c.length - 16)) with
        | none => kvEnd .fault s
        | some p => s.answer w [] p s))

/-- An ML-DSA-65 public key and a hedged signature. -/
def mlPub (seed : List Byte) : List Byte := octetsBy (Config.mlPublic seed) 1952
def mlSig (seed ctx msg : List Byte) (r : Nat) : List Byte := octetsBy (Config.mlSign seed ctx msg r) 3309

/-- SIGN: the key's TYPE chooses the algorithm. -/
def State.kvSign (s : State) (w : Fin 9) : KvRes :=
  withSrc (s.src w) s (fun l =>
    s.useKey (s.winSlot w) dSign (fun _ k =>
      s.randomly (fun u =>
        let f := u.take
        if k.typ = 3 then
          s.answer w [] ((ecSign (octetsToNat k.key) (f.1 % (n384 - 1) + 1) (sha384 l)).getD (List.replicate 96 0)) f.2
        else s.answer w [] (mlSig k.key [] l f.1) f.2)))

/-- The vendor's and the owner's signing keys; none where they are absent (R474, R475). -/
def vendorKeys : List Byte × List Byte := ((4 : Byte) :: natToOctets 96 Config.vendorEc.toNat, octetsBy Config.vendorMl 1952)
def State.ownerKeys (s : State) : Option (List Byte × List Byte) :=
  let r := s.ownerRec s.kv.epoch
  if s.kv.ownerOk then some ((r.drop 4).take 97, (r.drop 101).take 1952) else none

/-- Owner debug keys (Table 11-4). -/
def State.ownerDebug (s : State) : Option (List Byte × List Byte) :=
  let r := s.ownerRec s.kv.epoch
  if s.kv.ownerOk then some ((r.drop 2053).take 97, (r.drop 2150).take 1952) else none

/-- Both signatures of a message by a pair of keys, with ML-DSA-65's context. -/
def bothVerify (keys : List Byte × List Byte) (ctx msg ec ml : List Byte) : Bool :=
  ecVerify keys.1 (sha384 msg) ec && Config.mlVerify keys.2 ctx msg ml

/-- VERIFY: the input is the keys, the signatures and the message, ECDSA before ML-DSA-65 (DESIGN CHOICE, log 33). -/
def State.kvVerify (s : State) (w : Fin 9) : KvRes :=
  let alg := s.argAlg w
  let ec := decide (alg ≠ 2)
  let ml := decide (alg ≠ 1)
  let n1 := if ec then 97 else 0
  let n2 := n1 + (if ml then 1952 else 0)
  let n3 := n2 + (if ec then 96 else 0)
  let n4 := n3 + (if ml then 3309 else 0)
  withSrc (s.src w) s (fun l =>
    if l.length < n4 then kvEnd .badarg s
    else
      let pe := l.take n1
      let pm := (l.drop n1).take (n2 - n1)
      let fits := fun (k : List Byte × List Byte) => (!ec || decide (pe = k.1)) && (!ml || decide (pm = k.2))
      let known := match fld (s.winArg w) 8 7 with
        | 0 => true
        | 1 => fits vendorKeys
        | _ => match s.ownerKeys with
          | some k => fits k
          | none => false
      let m := l.drop n4
      let good := (!ec || ecVerify pe (sha384 m) ((l.drop n2).take 96)) &&
        (!ml || Config.mlVerify pm [] m ((l.drop n3).take 3309))
      if !known then kvEnd .denied s else if good then kvEnd .ok s else kvEnd .fault s)

/-! ### Randomness and attestation -/

/-- RANDOM: SLEN octets. -/
def State.kvRandom (s : State) (w : Fin 9) : KvRes :=
  if !inMain (s.winDst w) (s.winSlen w) then kvEnd .badarg s
  else
    s.randomly (fun u =>
      let f := u.freeOctets (s.winSlen w)
      s.answer w [] f.1 f.2)

/-- CHALLENGE (R473): 32 random octets, kept as the window's latest. -/
def State.kvChallenge (s : State) (w : Fin 9) : KvRes :=
  s.randomly (fun u =>
    let f := u.freeOctets 32
    (some { status := .ok, out := packOctets f.1 },
     f.2.modKv (fun v =>
       { v with challenges := mapPut (fun _ => {}) v.challenges w { octets := f.1, used := false, since := s.now } })))

/-- ESTATE. -/
def Entropy.code : Entropy → Nat
  | .init => 0 | .ok => 1 | .restart => 2 | .failed => 3

/-- A component's measurement, 48 octets (R512). -/
def State.measured (s : State) (c : Nat) : List Byte := (mapGet (fun _ => []) s.kv.meas c) |> padTo 48

/-- Network time as octets: SEC[47:0], FRAC[47:0]; 0 with the SC domain off. -/
def State.timeOctets (s : State) : List Byte := natToOctets 12 (if s.on dSC then s.sc.time / 2 ^ 24 else 0)

/-- The statement's octets 0–787 (Table 11-12). -/
def State.statement (s : State) (nonce : List Byte) : List Byte :=
  let locked := decide (s.sc.lock = .locked ∨ s.sc.lock = .holdover ∨ s.sc.lock = .lead) && s.on dSC
  let flags := b2n s.hc.dbg.unlocked * 2 ^ 15 + b2n locked * 2 ^ 14 + s.kv.ent.code * 2 ^ 12
  natToOctets 2 1 ++ natToOctets 2 788 ++ devsn ++ natToOctets 1 s.kv.life.val ++ natToOctets 1 s.kv.epoch ++
    natToOctets 2 flags ++ sha384 (ecPublic s.attEc) ++ sha384 (mlPub s.attMl) ++ (upTo 12).flatMap s.measured ++
    s.kv.digest ++ s.timeOctets ++ padTo 32 nonce

/-- ATTEST (R513). -/
def State.kvAttest (s : State) (w : Fin 9) : KvRes :=
  withSrc (s.srcOctets w 32) s (fun nonce =>
    s.rooted
      (s.randomly (fun u =>
        let f := u.take
        let g := f.2.take
        let m := s.statement nonce
        let sig := (ecSign s.attEc (f.1 % (n384 - 1) + 1) (sha384 m)).getD (List.replicate 96 0)
        s.answer w [] (m ++ sig ++ mlSig s.attMl (ascii "K16-ATT") m g.1) g.2)))

/-- ATTPUB; ALG 0 returns both keys (DEDUCED, log 33). -/
def State.kvAttpub (s : State) (w : Fin 9) : KvRes :=
  s.rooted
    (s.answer w []
      ((if s.argAlg w = 2 then [] else ecPublic s.attEc) ++ (if s.argAlg w = 1 then [] else mlPub s.attMl)) s)

/-- EXTEND. -/
def State.kvExtend (s : State) (w : Fin 9) : KvRes :=
  withSrc (s.src w) s (fun l => kvEnd .ok (s.modKv (fun v => { v with digest := sha384 (v.digest ++ l) })))

/-- MEASURE (R512); another window than 6 is DENIED (DEDUCED, log 33). -/
def State.kvMeasure (s : State) (w : Fin 9) : KvRes :=
  let c := s.winAux w
  withSrc (s.srcOctets w 48) s (fun l =>
    if 12 ≤ c then kvEnd .badarg s
    else if w ≠ 6 then kvEnd .denied s
    else if (mapGet (fun _ => []) s.kv.meas c).isEmpty = false then kvEnd .state s
    else kvEnd .ok (s.modKv (fun v => { v with meas := mapPut (fun _ => []) v.meas c l })))

/-- SELFTEST (R511, Table 11-11). -/
def State.kvSelftest (s : State) (pass : Bool) : KvRes :=
  if s.pw.mode ≠ .maintenance then kvEnd .state s
  else
    let t := s.raise 593
    let u := if pass ∧ s.kv.ent = .failed then t.modKv (fun v => { v.seeded s.now with failcnt := 0 }) else t
    kvEnd (if pass then .ok else .fault) u

/-! ### CCM -/

/-- CCM, DIR = 0: secure a frame given without MIC and FCS, with the next counter and the K16's EUI-64. -/
def State.ccmSecure (s : State) (w : Fin 9) (k i : Nat) (r : KeyRec) (l : List Byte) : KvRes :=
  match parseMac false l with
  | none => kvEnd .badarg s
  | some h =>
    match h.aux with
    | none => kvEnd .badarg s
    | some a =>
      let x := s.keySlot k
      if !a.fits r.index.toNat then kvEnd .badarg s
      else if x.info.tx = 0xFFFFFFFF then kvEnd .denied s
      else if !x.maySend then (none, s)
      else
        let c := s.assignCtr k i
        s.answer w [] (secureFrame r.key s.ownEui c.1 h a l) c.2

/-- CCM, DIR = 1: open a frame given with its MIC and without FCS. -/
def State.ccmOpen (s : State) (w : Fin 9) (k : Nat) (r : KeyRec) (l : List Byte) : KvRes :=
  match parseMac true l with
  | none => kvEnd .badarg s
  | some h =>
    match h.aux with
    | none => kvEnd .badarg s
    | some a =>
      let c := a.counter.getD 0
      if !a.fits r.index.toNat then kvEnd .badarg s
      else if c < r.rx.toNat ∨ c = 0xFFFFFFFF then kvEnd .denied s
      else
        match openFrame r.key r.eui.toNat h a l with
        | none => kvEnd .fault s
        | some p => s.answer w [] p (s.acceptCtr k c)

/-- CCM (Table 11-13). -/
def State.kvCcm (s : State) (w : Fin 9) : KvRes :=
  let k := s.winSlot w
  withSrc (s.src w) s (fun l =>
    s.useKey k dCcm (fun i r =>
      if i ≠ s.winBlob w then kvEnd .absent s
      else if bit (s.winArg w) 12 then s.ccmOpen w k r l
      else s.ccmSecure w k i r l))

end Sys2Proof.Machine
end

