-- ==== Sys2Proof/Machine/HostRegs.lean ====
section
/-! DEFINITION. The HC block: PCIe state, the USB port, the NFC tag, low-speed I/O and the unlock engine as registers
(R555–R590, Tables 13-7 and 13-8). -/

namespace Sys2Proof.Machine

def State.modUsb (s : State) (f : Usb → Usb) : State := s.modHc (fun h => { h with usb := f h.usb })
def State.modNfc (s : State) (f : Nfc → Nfc) : State := s.modHc (fun h => { h with nfc := f h.nfc })
def State.modDbg (s : State) (f : Debug → Debug) : State := s.modHc (fun h => { h with dbg := f h.dbg })

/-! ### PCIe (R555, R563) -/

/-- The link changes (R591). -/
def State.setLink (s : State) (l : Option (Fin 4 × Fin 4)) : State :=
  let was := s.hc.link.isSome
  let t := s.modHc (fun h => { h with link := l })
  if was = l.isSome then t
  else
    let u := t.raise 704
    if was then u.occur 0xBE else u

/-- HC_PSTAT. -/
def HostPort.pstat (h : HostPort) : Word :=
  wd (b2n h.bme * 2 ^ 18 +
    (match h.link with
     | some l => 2 ^ 23 + l.1.val * 2 ^ 21 + l.2.val * 2 ^ 19
     | none => 0))

/-! ### USB (R564–R575) -/

/-- The device is attached (R564). -/
def State.attached (s : State) : Bool := s.on dHOST && s.hc.usb.vbus && bit (s.reg (aHC 0x800)) 23

/-- A vendor request is answered STALL. -/
def State.stall (s : State) : State := { s.occur 0xB5 with out := .stall }

/-- The words of HC_USBBUF as octets. -/
def State.usbBuf (s : State) (n : Nat) : List Byte :=
  (upTo n).map (octetAt (fun i => s.reg (aHC (0x880 + i))))

/-- A control transfer that waits for its answer is ended by a SETUP packet or a bus reset (R573). -/
def State.endTransfer (s : State) : State :=
  match s.hc.usb.posted with
  | some p =>
    if p.live then (s.modUsb (fun u => { u with posted := some { p with live := false } })).occur 0xB2 else s
  | none => s

/-- Enter a SET into the commit log (R568). -/
def State.logSet (s : State) (id : BitVec 16) (st : BitVec 4) : State :=
  let t := s.modUsb (fun u => { u with log := ((id, st) :: u.log.filter (fun e => decide (e.1 ≠ id))).take 32 })
  if st = 0 then t.occur 0xB4 else t

/-- A write of HC_USBANS (R567–R569). -/
def State.usbAnswer (s : State) (v : Word) : State :=
  match s.hc.usb.posted with
  | none => s
  | some p =>
    let st := BitVec.ofNat 4 (fld v 23 20)
    let t := (s.modUsb (fun u => { u with posted := none })).occurV 0xBC (wd (min ((s.now - p.since) / cycMs) (2 ^ 24 - 1)))
    let u := if p.isSet then t.logSet p.id st else t
    if !p.live then u
    else if st ≠ 0 then u.stall
    else if p.isSet then { u with out := .zeroLength }
    else { u with out := .octets (u.usbBuf (min (min (fld v 15 0) 256) p.len)) }

/-- A write of HC_BOUT_MAX; ARM arms bulk OUT (R574). -/
def State.boutArm (s : State) (v : Word) : State :=
  let t := s.plainWrite (aHC 0x809) v
  if bit v 23 then t.modUsb (fun u => { u with bout := some 0, babort := false }) else t

/-- A write of HC_BIN_LEN; GO starts bulk IN (R575). -/
def State.binGo (s : State) (v : Word) : Status × State :=
  if !bit v 23 then (.ok, s.plainWrite (aHC 0x80C) v)
  else if s.hc.usb.bin then (.busy, s)
  else if fld v 15 0 = 0 then (.badarg, s)
  else
    let t := (s.plainWrite (aHC 0x80C) v).modUsb (fun u => { u with bin := true, babort := false })
    (.ok, { t with out := .octets (t.mainOctets (t.reg (aHC 0x80B)).toNat (fld v 15 0)) })

/-- HC_USBSTAT. -/
def Usb.stat (u : Usb) : Word :=
  wd (b2n u.vbus * 2 ^ 23 + b2n u.hs * 2 ^ 22 + b2n u.posted.isSome * 2 ^ 21 + b2n u.babort * 2 ^ 20)

/-! ### The tag (R576–R581) -/

/-- The field owns the tag memory now (R577). -/
def State.fieldOwns (s : State) : Bool := s.hc.nfc.field && decide (s.now < s.hc.nfc.ownUntil)

/-- Octet `i` of the tag memory: the capability container (Table 13-3), or the NDEF file. -/
def State.tagByte (s : State) (i : Nat) : Byte :=
  if i < 15 then
    ([0x00, 0x0F, 0x20, 0x00, 0xFE, 0x00, 0xFB, 0x04, 0x06, 0xE1, 0x04, 0x1F, 0xF0, 0x00,
      (if bit (s.reg (aHC 0x2000)) 23 then 0x00 else 0xFF)] : List Byte).getD i 0
  else mapGet zeroByte s.hc.nfc.tag i

/-- Octets into the tag memory. -/
def State.putTag (s : State) (a : Nat) (l : List Byte) : State :=
  (l.zip (upTo l.length)).foldl (fun (u : State) (p : Byte × Nat) =>
    u.modNfc (fun n => { n with tag := mapPut zeroByte n.tag (a + p.2) p.1 })) s

/-- A pending commit is applied (R580). -/
def State.applyCommit (s : State) : State :=
  match s.hc.nfc.pend with
  | none => s
  | some (a, l) => ((s.putTag a l).modNfc (fun n => { n with pend := none })).raise 714

/-- A write of HC_NFCCMT (R579, R580). -/
def State.nfcCommit (s : State) (v : Word) : Status × State :=
  let a := fld (s.reg (aHC 0x2002)) 12 0
  let n := fld (s.reg (aHC 0x2003)) 8 0
  let refuse := fun (st : Status) => (st, s.modNfc (fun x => { x with status := st }))
  if !bit v 23 then (.ok, s)
  else if a < 16 ∨ 8192 < a + n ∨ n = 0 ∨ 256 < n then refuse .badarg
  else if s.hc.nfc.pend.isSome then refuse .state
  else
    let l := (upTo n).map (octetAt (fun i => s.reg (aHC (0x2100 + i))))
    let t := s.modNfc (fun x => { x with pend := some (a, l), status := .ok })
    (.ok, if t.hc.nfc.field then t else t.applyCommit)

/-- HC_NFCSTAT. -/
def State.nfcStat (s : State) : Word :=
  let n := s.hc.nfc
  wd (b2n n.field * 2 ^ 23 + b2n s.fieldOwns * 2 ^ 22 + b2n n.pend.isSome * 2 ^ 21 + b2n n.hbusy * 2 ^ 20 +
    stCode n.status * 2 ^ 16)

/-- Word `k` of the tag memory; there is none beyond octet 8,191. -/
def State.tagWord (s : State) (k : Nat) : Word :=
  let o := fun (i : Nat) => if 3 * k + i < 8192 then s.tagByte (3 * k + i) else 0
  o 0 ++ o 1 ++ o 2

/-- A read of HC_NFCWIN (R578). -/
def State.nfcWin (s : State) (k : Nat) : Word × Status × State :=
  if s.fieldOwns then (0, .busy, (s.modNfc (fun n => { n with hbusy := true })).occur 0xB6) else (s.tagWord k, .ok, s)

/-! ### Low-speed pins -/

/-- A 32-bit value in a register pair, the low 24 pins first. -/
def State.pinPair (s : State) (o : Nat) : BitVec 32 :=
  BitVec.ofNat 32 ((s.reg (aHC o)).toNat + fld (s.reg (aHC (o + 1))) 7 0 * 2 ^ 24)

/-- The levels at the pins: an output drives its value, but an open-drain one only 0. -/
def State.pinLevels (s : State) : BitVec 32 :=
  let out := s.pinPair 0x4000
  let drives := s.pinPair 0x4002 &&& ~~~(s.pinPair 0x4004 &&& out)
  (out &&& drives) ||| (s.hc.pins &&& ~~~drives)

/-- Changes on enabled pins since levels `old` set their flags and raise event 718. -/
def State.pinsChanged (s : State) (old : BitVec 32) : State :=
  let c := ((old ^^^ s.pinLevels) &&& s.pinPair 0x4008).toNat
  if c = 0 then s
  else
    ((s.setReg (aHC 0x400A) (s.reg (aHC 0x400A) ||| wd c)).setReg (aHC 0x400B)
      (s.reg (aHC 0x400B) ||| wd (c / 2 ^ 24))).raise 718

/-- A controller that runs: key 0, 1 SPI, 2, 3 I2C. -/
def State.lsBusy (s : State) (c : Nat) : Bool := mapGet (fun _ => false) s.hc.lsBusy c

def State.lsStart (s : State) (c : Nat) : State :=
  s.modHc (fun h => { h with lsBusy := mapPut (fun _ => false) h.lsBusy c true })

/-- A transfer ends with a status. -/
def State.lsEnd (s : State) (c : Nat) (st : Status) : State :=
  s.modHc (fun h =>
    { h with lsBusy := mapPut (fun _ => false) h.lsBusy c false,
             lsStat := mapPut (fun _ => 0) h.lsStat c (BitVec.ofNat 4 (stCode st)) })

/-- SPI_STAT, I2C_STAT. -/
def State.lsWord (s : State) (c : Nat) : Word :=
  wd (b2n (s.lsBusy c) * 2 ^ 23 + (mapGet (fun _ => 0) s.hc.lsStat c : BitVec 4).toNat * 2 ^ 19)

/-- Octets of a controller's data words. -/
def State.lsData (s : State) (o n : Nat) : List Byte := (upTo n).map (octetAt (fun i => s.reg (aHC (o + i))))

/-- Words from a register on. -/
def State.putWords (s : State) : Nat → List Word → State
  | _, [] => s
  | a, w :: r => (s.setReg a w).putWords (a + 1) r

/-- A write of SPI_CTL (R582). -/
def State.spiCtl (s : State) (c : Nat) (v : Word) : Status × State :=
  let o := 0x4100 + 0x20 * c
  if !bit v 23 then (.ok, s.plainWrite (aHC o) v)
  else if s.lsBusy c then (.busy, s)
  else if fld v 5 0 = 0 ∨ 32 < fld v 5 0 then (.badarg, s)
  else
    let t := (s.plainWrite (aHC o) v).lsStart c
    (.ok, { t with out := .octets (t.lsData (o + 8) (fld v 5 0)) })

/-- A write of I2C_CTL (R582). -/
def State.i2cCtl (s : State) (c : Nat) (v : Word) : Status × State :=
  let o := 0x4200 + 0x20 * c
  if !bit v 23 then (.ok, s.plainWrite (aHC o) v)
  else if s.lsBusy (2 + c) then (.busy, s)
  else if 32 < fld v 11 6 ∨ 32 < fld v 5 0 then (.badarg, s)
  else
    let t := (s.plainWrite (aHC o) v).lsStart (2 + c)
    (.ok, { t with out := .octets (t.lsData (o + 8) (fld v 11 6)) })

def State.uart (s : State) (u : Nat) : Uart := if u = 0 then s.hc.u0 else s.hc.u1
def State.setUart (s : State) (u : Nat) (x : Uart) : State :=
  s.modHc (fun h => if u = 0 then { h with u0 := x } else { h with u1 := x })

/-- UART_CTL.EN and THRESH. -/
def State.uartEn (s : State) (u : Nat) : Bool := bit (s.reg (aHC (0x4301 + 0x20 * u))) 23
def State.uartThresh (s : State) (u : Nat) : Nat := fld (s.reg (aHC (0x4301 + 0x20 * u))) 5 0

/-- A write of UART_DATA: an octet that finds the transmit FIFO full is not taken (DEDUCED, log 43). -/
def State.uartWrite (s : State) (u : Nat) (v : Word) : Status × State :=
  let x := s.uart u
  if 64 ≤ x.tx.length then (.full, s)
  else (.ok, s.setUart u { x with tx := x.tx ++ [BitVec.ofNat 8 (fld v 7 0)] })

/-- A read of UART_DATA; an empty FIFO gives 0 (DEDUCED, log 43). -/
def State.uartRead (s : State) (u : Nat) : Word × State :=
  let x := s.uart u
  match x.rx with
  | [] => (0, s)
  | b :: r => (wd b.toNat, s.setUart u { x with rx := r, told := x.told && decide (s.uartThresh u ≤ r.length) && !r.isEmpty })

/-- UART_STAT. -/
def Uart.stat (x : Uart) : Word := wd (x.rx.length * 2 ^ 7 + x.tx.length)

/-! ### The unlock engine (R586–R588) -/

def DebugState.code : DebugState → Nat
  | .closed => 0 | .challenged => 1 | .opened => 2 | .lockout => 3

/-- HC_DBGSTAT. -/
def Debug.stat (d : Debug) : Word :=
  wd (d.state.code * 2 ^ 22 + d.scope.toNat * 2 ^ 19 + d.fails * 2 ^ 17 + stCode d.status * 2 ^ 13)

/-- A command that changes nothing but STATUS. -/
def State.dbgStatus (s : State) (st : Status) : State := s.modDbg (fun d => { d with status := st })

/-- CHAL (Table 13-6). A command that the table does not list for the state completes with STATE (R14). -/
def State.dbgChal (s : State) : State :=
  match s.hc.dbg.state with
  | .lockout => s.dbgStatus .denied
  | .challenged => s.dbgStatus .state
  | _ =>
    if !s.on dVAULT then s.dbgStatus .state
    else if s.kv.ent ≠ .ok then s.noEntropy.dbgStatus .noentropy
    else
      let f := (s.modKv (fun v => { v with drbgReqs := v.drbgReqs + 1 })).freeOctets 32
      f.2.modDbg (fun d => { d with state := .challenged, status := .ok, nonce := f.1, nonceAt := s.now })

/-- The vendor's debug keys (Table 13-5). -/
def vendorDebugKeys : List Byte × List Byte :=
  ((4 : Byte) :: natToOctets 96 Config.vendorDebugEc.toNat, octetsBy Config.vendorDebugMl 1952)

/-- The keys that sign TYPE 1 in the present life cycle (Table 13-5). -/
def State.debugKeys (s : State) : Option (List Byte × List Byte) :=
  match s.kv.life.val with
  | 1 => some vendorDebugKeys
  | 2 => s.ownerDebug
  | 3 => s.ownerDebug
  | 4 => some vendorDebugKeys
  | _ => none

/-- The password of TYPE 2. -/
def debugPassword : List Byte :=
  kdf384 (kdf384 rootD (ascii "K16-ROOT-MFG") devsn 256) (ascii "K16-DBGPW") devsn 256

/-- The checks of an unlock message (R587, Table 13-4). -/
def State.unlockGood (s : State) (l : List Byte) : Bool :=
  let p := fun (a n : Nat) => (l.drop a).take n
  let typ := (l.getD 7 0).toNat
  let scope := octetsToNat (p 24 2)
  decide (p 0 7 = ascii "K16-DBG") && decide (p 8 16 = devsn) && decide (p 26 32 = s.hc.dbg.nonce) &&
    decide (s.now < s.hc.dbg.nonceAt + 60 * cycS) && decide (1 ≤ scope) && decide (scope ≤ 7) &&
    (match typ with
     | 1 =>
       (match s.debugKeys with
        | some k => bothVerify k (ascii "K16-DBG") (p 0 58) (p 58 96) (p 154 3309)
        | none => false)
     | 2 => decide (s.kv.life = 1) && decide (p 58 32 = debugPassword)
     | _ => false)

/-- SUBMIT (Table 13-6). -/
def State.dbgSubmit (s : State) : State :=
  let d := s.hc.dbg
  if d.state = .lockout then s.dbgStatus .denied
  else if d.state ≠ .challenged ∨ s.on dVAULT = false then s.dbgStatus .state
  else
    let l := (upTo (fld (s.reg (aHC 0xA02)) 11 0)).map (octetAt (fun i => s.reg (aHC (0x1000 + i))))
    if s.unlockGood l then
      let scope := BitVec.ofNat 3 (octetsToNat ((l.drop 24).take 2))
      ((s.modDbg (fun d => { d with state := .opened, scope := scope, status := .ok, nonce := [], unlocked := true })).raise
        715).occurV 0xB9 (wd scope.toNat)
    else
      let n := d.fails + 1
      let t := ((s.modDbg (fun d =>
        { d with state := if 3 ≤ n then .lockout else .closed, scope := 0, fails := n, status := .denied, nonce := [] })).raise
          716).occur 0xBA
      if 3 ≤ n then (t.raise 717).occur 0xBB else t

/-- RELOCK (Table 13-6). -/
def State.dbgRelock (s : State) : State :=
  match s.hc.dbg.state with
  | .lockout => s.dbgStatus .denied
  | .opened => s.modDbg (fun d => { d with state := .closed, scope := 0, status := .ok })
  | _ => s.dbgStatus .state

/-- A write of HC_DBGCMD: the highest bit set is the command. -/
def State.dbgCmd (s : State) (v : Word) : State :=
  if bit v 23 then s.dbgChal else if bit v 22 then s.dbgSubmit else if bit v 21 then s.dbgRelock else s

/-! ### Loads and stores -/

/-- A store to the HC block. -/
def State.hcWrite (s : State) (a : Nat) (v : Word) : Status × State :=
  let o := a - blk 11
  if o = 0 then
    let t := s.plainWrite a v
    (.ok, if bit v 23 then t else t.setLink none)
  else if o = 0x806 then (.ok, s.usbAnswer v)
  else if o = 0x809 then (.ok, s.boutArm v)
  else if o = 0x80C then s.binGo v
  else if o = 0xA00 then (.ok, s.dbgCmd v)
  else if o = 0x2004 then s.nfcCommit v
  else if o = 0x2002 ∨ o = 0x2003 ∨ (0x2100 ≤ o ∧ o < 0x2156) then
    (if s.hc.nfc.pend.isSome then (.state, s) else (.ok, s.plainWrite a v))
  else if 0x4000 ≤ o ∧ o < 0x4006 then (.ok, (s.plainWrite a v).pinsChanged s.pinLevels)
  else if o = 0x4100 ∨ o = 0x4120 then s.spiCtl ((o - 0x4100) / 0x20) v
  else if o = 0x4200 ∨ o = 0x4220 then s.i2cCtl ((o - 0x4200) / 0x20) v
  else if o = 0x4303 ∨ o = 0x4323 then s.uartWrite ((o - 0x4303) / 0x20) v
  else (.ok, s.plainWrite a v)

/-- A load from the HC block, with its status. -/
def State.hcRead (s : State) (a : Nat) : Word × Status × State :=
  let o := a - blk 11
  let ok := fun (r : Word × State) => (r.1, Status.ok, r.2)
  if o = 1 then (s.hc.pstat, .ok, s)
  else if o = 4 then ok ((s.plainRead a).map id (fun t => t.modHc (fun h => { h with hrefTold := false })))
  else if o = 6 then ok ((s.plainRead a).map id (fun t => t.modHc (fun h => { h with dbTold := false })))
  else if o = 0x801 then (s.hc.usb.stat, .ok, s)
  else if o = 0xA01 then (s.hc.dbg.stat, .ok, s)
  else if 0xA10 ≤ o ∧ o < 0xA1B then ((packOctets s.hc.dbg.nonce).getD (o - 0xA10) 0, .ok, s)
  else if o = 0x2001 then (s.nfcStat, .ok, s.modNfc (fun n => { n with hbusy := false }))
  else if 0x3000 ≤ o ∧ o < 0x3AAB then s.nfcWin (o - 0x3000)
  else if o = 0x4006 then (wd s.pinLevels.toNat, .ok, s)
  else if o = 0x4007 then (wd (s.pinLevels.toNat / 2 ^ 24), .ok, s)
  else if o = 0x4101 ∨ o = 0x4121 then (s.lsWord ((o - 0x4101) / 0x20), .ok, s)
  else if o = 0x4201 ∨ o = 0x4221 then (s.lsWord (2 + (o - 0x4201) / 0x20), .ok, s)
  else if o = 0x4302 ∨ o = 0x4322 then ((s.uart ((o - 0x4302) / 0x20)).stat, .ok, s)
  else if o = 0x4303 ∨ o = 0x4323 then ok (s.uartRead ((o - 0x4303) / 0x20))
  else ok (s.plainRead a)

/-! ### Power (R589) -/

/-- The HOST domain powers up: everything but the pins' outside levels at its reset value; debug is open in BLANK
(R586). -/
def State.hostPowerUp (s : State) : State :=
  let h := s.hc
  s.modHc (fun _ =>
    { usb := { vbus := h.usb.vbus }, nfc := h.nfc, pins := h.pins, tap := h.tap,
      dbg := if s.kv.life = 0 then {} else { state := .closed, scope := 0 } })

/-- The NFC domain powers up: a commit cut by a loss of power is completed (R581). -/
def State.nfcPowerUp (s : State) : State :=
  match s.hc.nfc.journal with
  | none => s
  | some (a, l) => (s.putTag a l).modNfc (fun n => { n with journal := none, noteCommit := true })

/-- The NFC domain loses power: a pending commit stays in the journal, the field's session ends. -/
def State.nfcPowerOff (s : State) : State :=
  s.modNfc (fun n =>
    { n with pend := none, hbusy := false, status := .ok, file := .none, ownUntil := 0,
             journal := match n.pend with
               | some c => some c
               | none => n.journal })

end Sys2Proof.Machine
end

