-- ==== Sys2Proof/Machine/Rtc.lean ====
section
/-! DEFINITION. The real-time clock: its count, the calendar, commands and the alarm (R651–R658, Tables 15-10 and
15-11). -/

namespace Sys2Proof.Machine

/-! ### The calendar (R653) -/

/-- Year, month and day of a number of days since 1970-01-01, by the proleptic Gregorian calendar. -/
def civil (days : Nat) : Nat × Nat × Nat :=
  let z := days + 719468
  let era := z / 146097
  let doe := z - era * 146097
  let yoe := (doe - doe / 1460 + doe / 36524 - doe / 146096) / 365
  let doy := doe - (365 * yoe + yoe / 4 - yoe / 100)
  let mp := (5 * doy + 2) / 153
  let d := doy - (153 * mp + 2) / 5 + 1
  let m := if mp < 10 then mp + 3 else mp - 9
  (yoe + era * 400 + (if m ≤ 2 then 1 else 0), m, d)

/-- The second after the last one the calendar shows: 10000-01-01. -/
def calEnd : Int := 253402300800

/-- SEC − RTC_OFS. -/
def State.calSec (s : State) : Int := (s.rtc.sec : Int) - signed 24 (s.reg (aRTC 5)).toNat

/-- RTC_CAL0 and RTC_CAL1. -/
def State.calendar (s : State) : Word × Word :=
  let t := s.calSec
  if t < 0 ∨ calEnd ≤ t then (0, 0)
  else
    let n := t.toNat
    let c := civil (n / 86400)
    let r := n % 86400
    (wd (c.1 * 2 ^ 10 + c.2.1 * 2 ^ 6 + c.2.2),
     wd (2 ^ 23 + (n / 86400 + 3) % 7 * 2 ^ 20 + r / 3600 * 2 ^ 12 + r / 60 % 60 * 2 ^ 6 + r % 60))

/-! ### The count (R651, R652) -/

/-- TRIM, −511 to 511. -/
def State.trim (s : State) : Int := max (signed 10 (fld (s.reg (aRTC 6)) 9 0)) (-511)

/-- The alarm second. -/
def State.alarm (s : State) : Nat := (long (s.reg (aRTC 0xC)) (s.reg (aRTC 0xD))).toNat

/-- The alarm is due when SEC has just become `sec` (R656). -/
def State.alarmAt (s : State) (sec : Nat) : Bool := bit (s.reg (aRTC 0xE)) 23 && decide (sec = s.alarm)

/-- Counts that a crystal pulse number `w` of the trim window adds: one, two or none, the trim spread evenly
(R652). -/
def pulseCounts (trim : Int) (w : Nat) : Nat :=
  let n := trim.natAbs
  let k := (w + 1) * n / 4194304 - w * n / 4194304
  if 0 ≤ trim then 1 + k else 1 - k

/-- One crystal pulse (R651, R652). -/
def State.rtcPulse (s : State) : State :=
  let x := s.rtc
  if x.stopped then s
  else
    let n := x.sub + pulseCounts s.trim x.win
    let sec := if n < 32768 then x.sec else (x.sec + 1) % 2 ^ 48
    s.modRtc (fun r => { r with sub := n % 32768, sec := sec, win := (x.win + 1) % 4194304,
                                almDue := r.almDue || (decide (sec ≠ x.sec) && s.alarmAt sec) })

/-- One core cycle of the crystal: 32,768 pulses in 3 × 10^9 cycles. -/
def State.rtcTick (s : State) : State :=
  let p := s.rtc.phase + 32768
  if p < cycS then s.modRtc (fun r => { r with phase := p })
  else (s.modRtc (fun r => { r with phase := p - cycS })).rtcPulse

/-! ### Commands (R655) -/

/-- A write of RTC_CMD. -/
def State.rtcCmd (s : State) (v : Word) : Status × State :=
  if bit v 23 && bit v 22 then (.badarg, s)
  else if bit v 23 then (.ok, s.modRtc (fun r => { r with staged := some false }))
  else if bit v 22 then
    if s.on dSC then (.ok, s.modRtc (fun r => { r with staged := some true })) else (.state, s)
  else (.ok, s)

/-- The count takes a new time; VALID is set. -/
def State.rtcSet (s : State) (sec sub : Nat) : State :=
  (s.modRtc (fun r => { r with sec := sec, sub := sub, staged := none,
                               almDue := r.almDue || (decide (sec ≠ r.sec) && s.alarmAt sec) })).setReg
    (aRTC 7) (setBit (s.reg (aRTC 7)) 23 true)

/-- The crystal edge at which a staged command applies; a SYNC is dropped while the SC domain is off. -/
def State.rtcApply (s : State) : State :=
  match s.rtc.staged with
  | none => s
  | some false => s.rtcSet (long (s.reg (aRTC 8)) (s.reg (aRTC 9))).toNat (fld (s.reg (aRTC 0xA)) 14 0)
  | some true =>
    if s.on dSC then s.rtcSet (s.sc.time / 2 ^ 72 % 2 ^ 48) (s.sc.time / 2 ^ 57 % 2 ^ 15)
    else s.modRtc (fun r => { r with staged := none })

/-! ### Registers -/

/-- A store to the RTC block; while the interface is locked it is discarded (R657). -/
def State.rtcWrite (s : State) (a : Nat) (v : Word) : Status × State :=
  if s.pw.rtcLocked then (.ok, s)
  else if a = aRTC 0xB then s.rtcCmd v
  else (.ok, s.plainWrite a v)

/-- A load from the RTC block; while the interface is locked it returns 0 (R657). -/
def State.rtcRead (s : State) (a : Nat) : Word × State :=
  if s.pw.rtcLocked then (0, s)
  else
    match a - blk 13 with
    | 0 => (wd (s.rtc.sec / 2 ^ 24), s)
    | 1 => (wd (s.rtc.sec % 2 ^ 24), s)
    | 2 => (wd s.rtc.sub, s)
    | 3 => (s.calendar.1, s)
    | 4 => (s.calendar.2, s)
    | _ => s.plainRead a

end Sys2Proof.Machine
end

