-- ==== Sys2Proof/Machine/SbMac.lean ====
section
/-! DEFINITION. Lameel elements in MAC frames, and the Enh-Ack that the signal box builds (R243, R264, R275, R290,
R295; the frame formats PRESUMED from IEEE 802.15.4-2020, log 34). -/

namespace Sys2Proof.Machine

/-- SB_VOUI as octets, most significant first. -/
def State.voui (s : State) : List Byte := octets (s.reg (aSB 0x1F))

/-- The contents of the Lameel header element with a sub-type, after the sub-type octet. -/
def State.element (s : State) (h : MacHdr) (sub : Byte) : Option (List Byte) :=
  (h.ies.find? (fun e => decide (e.id = 0) && decide (e.data.take 4 = s.voui ++ [sub]))).map (fun e => e.data.drop 4)

/-- The value of a Time Correction IE, signed µs as 12 bits. -/
def MacHdr.timeCorr (h : MacHdr) : Option (BitVec 12) :=
  match h.ies.find? (fun e => decide (e.id = 0x1E) && decide (e.data.length = 2)) with
  | some e => (leAt e.data 0 2).map (BitVec.ofNat 12)
  | none => none

/-- KEP as SB_KEPOCH gives it. -/
def State.kep (s : State) : Nat := fld (s.reg (aSB 0x1A)) 1 0

/-- Is the frame stale, and by which steer code: 1 the edition, 2 the key epoch (R290)? -/
def State.stale (s : State) (h : MacHdr) : Option (Fin 3) :=
  if (s.element h 6).isSome then none
  else
    match s.element h 3 with
    | none => some 1
    | some d =>
      let edn := (d.getD 0 0).toNat
      let cur := match s.storeIn .active with
        | some e => decide (edn = s.edEdn e % 256)
        | none => false
      let prev := match s.sb.prevEdn with
        | some p => decide (edn = p.toNat % 256) && decide (s.sb.sinceTake < fld (s.reg (aSB 0x1E)) 15 0)
        | none => false
      if !(cur || prev) then some 1
      else if (d.getD 1 0).toNat / 64 ≠ s.kep then some 2
      else none

/-- A header IE. -/
def ieOctets (id : Nat) (data : List Byte) : List Byte := leOctets 2 (data.length + id * 128) ++ data

/-- The auxiliary security header of an answer: the frame's own level and key identifier, counter 0. -/
def auxOctets (lv kim source index : Nat) : List Byte :=
  let sl := if kim = 2 then 4 else if kim = 3 then 8 else 0
  natToOctets 1 (lv + 8 * kim) ++ leOctets 4 0 ++ leOctets sl source ++ (if kim = 0 then [] else natToOctets 1 index)

/-- An Enh-Ack for a frame of header `h`, with one header IE: its octets without MIC and FCS, and its MIC's length. An
unsecured frame is answered at level 5 with key index `index` (DESIGN CHOICE, log 36). -/
def enhAck (h : MacHdr) (pan index : Nat) (ie : List Byte) : List Byte × Nat :=
  let dm := match h.src with
    | .absent => 0
    | .short _ => 2
    | .ext _ => 3
  let dst := match h.src with
    | .absent => []
    | .short a => leOctets 2 a
    | .ext a => leOctets 8 a
  let ax := match h.aux with
    | some a => (a.level, a.kim, a.source, a.index)
    | none => (5, 1, 0, index)
  let f := 2 + 8 + 512 + 1024 * dm + 8192 + (if h.seq.isNone then 256 else 0)
  let sq := match h.seq with
    | some q => [q]
    | none => []
  (leOctets 2 f ++ sq ++ (if dm = 0 then [] else leOctets 2 pan) ++ dst ++ auxOctets ax.1 ax.2.1 ax.2.2.1 ax.2.2.2 ++ ie,
   micOf ax.1)

/-- The Time Correction IE of value `c` (R243). -/
def timeIe (c : BitVec 12) : List Byte := ieOctets 0x1E (leOctets 2 c.toNat)

/-- The steer element (R295). -/
def State.steerIe (s : State) (code : Nat) : List Byte := ieOctets 0 (s.voui ++ [(5 : Byte), BitVec.ofNat 8 code])

end Sys2Proof.Machine
end

