-- ==== Sys2Proof/Machine/VaultRegs.lean ====
section
/-! DEFINITION. Registers and request windows of the vault (R514–R518, R524, R525), the end of a request, and receive
security jobs (R503, R504). -/

namespace Sys2Proof.Machine

def State.winBusy (s : State) (w : Nat) : Bool := bit (s.reg (aWin w 1)) 23

/-- OP of a window's command word. -/
def State.winOp (s : State) (w : Nat) : Nat := fld (s.reg (aWin w 0)) 23 18

/-- May the source write the window's words (R515)? -/
def winOwner (src : Src) (w : Nat) : Bool :=
  match src with
  | .shunter sh => decide (depotOf sh = w)
  | .host => decide (w = 8)

/-- Shunters of a depot that wait for the vault window go on, with KV_STAT as their answer (R726). -/
def State.wakeVault (s : State) (d : Nat) (v : Word) (st : Status) : State :=
  (upTo 8).foldl (fun t i =>
    match (t.shunter (shOf d i)).wait with
    | .vault dest => t.modShunter (shOf d i) (fun x => ((x.setR dest v).outcome st).resume t.now)
    | _ => t) s

/-- A request ends (R514, R15): outputs on OK, STATUS and DETAIL, BUSY clear, event 576 + w with EV. -/
def State.kvDone (s : State) (w : Nat) (x : KvAns) : State :=
  let stat := wd (stCode x.status * 2 ^ 19 + x.detail * 2 ^ 8)
  let t := if x.status = .ok then
      let t1 := s.regsFrom (aWin w 0x10) x.out
      match x.dst with
      | some l => (t1.putMain (s.winDst w) (packOctets l)).setReg (aWin w 8) (wd l.length)
      | none => t1
    else s
  let t2 := (t.setReg (aWin w 1) stat).modKv (fun v => { v with waited := mapPut (fun _ => false) v.waited w false })
  let t3 := if bit (s.reg (aWin w 0)) 17 then t2.raise (576 + w) else t2
  if w < 8 then t3.wakeVault w stat x.status else t3

/-- A request's step: it ends, or goes on. -/
def State.kvStep (w : Nat) (r : KvRes) : State :=
  match r.1 with
  | some x => r.2.kvDone w x
  | none => r.2

/-- A RSVD field or a reserved value of the request is not 0 (R518). -/
def State.kvRsvd (s : State) (w : Nat) (v : Word) : Bool :=
  let op := fld v 23 18
  let a := s.winArg w
  decide (fld v 16 0 ≠ 0) || (decide (op ≠ 7) && decide (fld a 3 0 ≠ 0)) ||
  ((decide (op = 0x0E) || decide (op = 0x12)) && decide (fld a 10 9 = 3)) ||
  (decide (op = 0x0E) && decide (fld a 8 7 = 3))

/-- A write of KV_CMD: BUSY, or at once the refusal of an OP that is not listed. -/
def State.kvCmd (s : State) (w : Nat) (v : Word) : State :=
  let t := s.plainWrite (aWin w 0) v
  let op := t.winOp w
  if op = 0 ∨ 0x17 < op ∨ s.kvRsvd w v = true then t.kvDone w { status := .badarg }
  else (t.setReg (aWin w 1) 0x800000).modKv (fun x => { x with begun := mapPut (fun _ => 0) x.begun w s.now })

/-- Any slot is not EMPTY (R525). -/
def State.anySlot (s : State) : Bool := s.kv.slots.any (fun e => decide (e.2.state ≠ .empty))

/-- An EXPORT or IMPORT is in progress. -/
def State.transferring (s : State) : Bool :=
  (upTo 9).any (fun w => s.winBusy w && (decide (s.winOp w = 7) || decide (s.winOp w = 8)))

/-- A store to the KV block. -/
def State.kvWrite (s : State) (src : Src) (a : Nat) (v : Word) : Status × State :=
  let o := a - blk 9
  let w := o / 0x40
  if o < 0x240 then
    if !winOwner src w then (.denied, s)
    else if s.winBusy w then (.busy, s)
    else if o % 0x40 = 0 then (.ok, s.kvCmd w v)
    else (.ok, s.plainWrite a v)
  else if o = 0x241 ∨ o = 0x242 then (if s.anySlot then (.state, s) else (.ok, s.plainWrite a v))
  else if o = 0x24C then (if s.transferring then (.state, s) else (.ok, (s.plainWrite a v).chipWritten v))
  else (.ok, s.plainWrite a v)

/-- KV_GSTAT. -/
def State.gstat (s : State) : Word :=
  wd (b2n s.kv.ready * 2 ^ 23 + b2n s.kv.rootf * 2 ^ 22 + s.kv.life.val * 2 ^ 19 + s.kv.epoch * 2 ^ 14 +
    s.kv.ent.code * 2 ^ 12 + s.kv.failcnt % 4 * 2 ^ 10)

/-- Slots RESIDENT. -/
def SlotState.isResident : SlotState → Bool
  | .resident _ => true
  | _ => false

/-- A load from the KV block. -/
def State.kvRead (s : State) (a : Nat) : Word × State :=
  let o := a - blk 9
  let r := s.plainRead a
  if o = 0x240 then (s.gstat, s)
  else if o = 0x25C then (wd (s.kv.slots.filter (fun e => e.2.state.isResident)).length, s)
  else if o = 0x255 ∨ o = 0x257 then r.map id (fun t => t.modKv (fun v => { v with told590 := false }))
  else if o = 0x256 then r.map id (fun t => t.modKv (fun v => { v with told591 := false }))
  else if o = 0x258 then r.map id (fun t => t.modKv (fun v => { v with told586 := false }))
  else r

/-! ### Loading and writing back -/

/-- The window that a slot's request belongs to gets its answer. -/
def State.slotAnswer (s : State) (w : Option (Fin 9)) (x : KvAns) : State :=
  match w with
  | some w => s.kvDone w x
  | none => s

/-- A blob has been read for slot `k`, which is LOADING `i` (R484, R488): the slot's new state and the outcome. -/
def State.loadBlob (s : State) (k i : Nat) : Status × State :=
  match s.readBlob i with
  | .key r => (.ok, s.makeResident k i r)
  | .none => (.absent, s.setKeySlot k { holdQ := (s.keySlot k).holdQ })
  | .tomb _ => (.denied, s.setKeySlot k { holdQ := (s.keySlot k).holdQ })
  | .bad => (.fault, s.blobFail.setKeySlot k { holdQ := (s.keySlot k).holdQ })

/-- A LOADING slot's blob is accepted or refused; it waits for a write-back of the same blob (DEDUCED, log 35). -/
def State.blobArrives (s : State) (k : Nat) : State :=
  let x := s.keySlot k
  match x.state with
  | .loading i =>
    if s.inFlight i ∨ s.canLoad = false then s
    else
      let r := s.loadBlob k i
      let t := if r.1 = .ok then r.2.occurV 0x90 (wd (min ((s.now - x.since) / cycUs) (2 ^ 24 - 1))) else r.2
      (t.slotAnswer x.window { status := r.1, detail := if r.1 = .ok then 2 else 0 }).runHolds k
  | _ => s

/-- The first write-back reaches DRAM (R490, R491); a slot that still holds the key gives its present counters. -/
def State.wbDone (s : State) : State :=
  match s.kv.wb with
  | [] => s
  | b :: r =>
    let t := s.modKv (fun v => { v with wb := r })
    let x := t.keySlot b.slot
    if x.state = .revoking b.blob then (t.count (aKV 0x25B)).occur 0x9A
    else if x.state = .resident b.blob then
      let info := if b.lease then { b.info with rx := x.info.rx, dest := x.info.dest } else b.info
      let y := if b.lease then { x with lease := info.tx.toNat, leasing := false, dirty := false } else x
      let u := ((t.setKeySlot b.slot y).putBlob b.blob info false).count (aKV 0x252)
      if b.lease ∧ y.lease ≤ x.info.tx.toNat ∧ y.lease < 2 ^ 32 - 1 then u.leaseWb b.slot b.blob else u
    else (t.putBlob b.blob b.info false).count (aKV 0x252)

/-- A tombstone has been written (R496): the slot is EMPTY, the REVOKE ends. -/
def State.tombDone (s : State) (k : Nat) : State :=
  let x := s.keySlot k
  match x.state with
  | .revoking i =>
    let t := (s.putBlob i x.info.tomb true).setKeySlot k { holdQ := x.holdQ }
    let d := match x.window with
      | some w => s.waitDetail w
      | none => 0
    (t.slotAnswer x.window { status := .ok, detail := d, out := x.info.counters }).runHolds k
  | _ => s

/-! ### Receive security jobs -/

/-- A receive security item (Table 11-10). -/
structure SecItem where
  status : Status
  cause : Nat
  slv : Nat := 0
  cell : Nat
  handle : Nat := 0x3FFFF
  counter : Nat := 0
  octets : Nat
deriving DecidableEq, Repr

def SecItem.words (x : SecItem) : List Word :=
  [ wd (stCode x.status * 2 ^ 20 + x.cause * 2 ^ 16 + x.slv % 8), wd (x.cell % 2 ^ 18 * 2 ^ 6), wd (x.handle % 2 ^ 18),
    wd (x.counter / 2 ^ 8), wd (x.counter % 2 ^ 8 * 2 ^ 16 + x.octets % 2 ^ 11) ]

/-- Post an item to KV_RXCQ, with the counters, occurrences and events of its cause. -/
def State.postSec (s : State) (x : SecItem) : State :=
  let t := s.post (fld (s.reg (aKV 0x244)) 17 0) x.words
  let tell590 := fun (u : State) => if u.kv.told590 then u else (u.modKv (fun v => { v with told590 := true })).raise 590
  match x.cause with
  | 0 => t.count (aKV 0x254)
  | 1 => tell590 ((t.count (aKV 0x255)).occur 0x93)
  | 2 =>
    let u := (t.count (aKV 0x256)).occur 0x94
    if u.kv.told591 then u else (u.modKv (fun v => { v with told591 := true })).raise 591
  | 3 => tell590 ((t.count (aKV 0x257)).occur 0x95)
  | 4 => tell590 ((t.count (aKV 0x257)).occur 0x95)
  | _ => t

/-- A report that finds the job queue full, or joins it (R503, R504). -/
def State.addSecJob (s : State) (cell len : Nat) : State :=
  if 4096 ≤ s.kv.jobs.length then s.postSec { status := .full, cause := 8, cell := cell, octets := len }
  else s.modKv (fun v => { v with jobs := v.jobs ++ [{ cell := cell, len := len }] })

/-- The node of a frame's source (R503 step 2). -/
def State.sourceNode (s : State) (h : MacHdr) : Option Nat :=
  match h.src with
  | .ext a => s.findEui a
  | .short a => s.findShort (shortKey (h.pan.getD (fld (s.reg (aKV 0x24B)) 23 8)) a)
  | .absent => none

/-- KV, KSLOT and BLOB of a node entry. -/
def enKv (e : List Word) : Bool := bit (ew e 2) 1
def enKslot (e : List Word) : Nat := fld (ew e 5) 13 0
def enBlob (e : List Word) : Nat := fld (ew e 6) 23 2

/-- The job at the head has ended with an item. -/
def State.jobEnd (s : State) (x : SecItem) : State := (s.modKv (fun v => { v with jobs := v.jobs.drop 1 })).postSec x

/-- Steps 4 and 5 of R503 with the key in slot `k`. -/
def State.jobOpen (s : State) (j : SecJob) (n k : Nat) (h : MacHdr) (a : AuxHdr) (l : List Byte) : State :=
  let x := s.keySlot k
  let c := a.counter.getD 0
  let it : SecItem :=
    { status := .fault, cause := 0, slv := a.level, cell := j.cell, handle := n, counter := c,
      octets := j.len - micOf a.level }
  let eui := match h.src with
    | .ext e => e
    | _ => enEui (s.nodeEntry n)
  if eui ≠ x.info.eui.toNat ∨ (a.kim ≠ 0 ∧ a.index ≠ x.info.index.toNat) then s.jobEnd { it with cause := 6 }
  else if c < x.info.rx.toNat ∨ c = 0xFFFFFFFF then s.jobEnd { it with status := .denied, cause := 2 }
  else
    match openFrame x.octets eui h a l with
    | none => s.jobEnd { it with cause := 1 }
    | some p => ((s.acceptCtr k c).fillChain j.cell (p ++ (s.chainOctets j.cell 0 j.len).drop p.length)).jobEnd { it with status := .ok }

/-- The job's key: resident, loaded now, or not to be had; none while its slot is held or busy (DEDUCED, log 35). -/
def State.jobKey (s : State) (k i : Nat) : Option (Status × State) :=
  let x := s.keySlot k
  match x.state with
  | .loading _ => none
  | .revoking _ => none
  | .resident j =>
    if x.ecc then some (.fault, s.eccSlot k)
    else if j = i then some (.ok, s.count (aKV 0x250))
    else if x.hold ∨ x.pin ∨ s.elsewhere i k = true ∨ s.inFlight i = true then none
    else some (((s.evictWb k).startLoad k i none false false).loadBlob k i)
  | .empty =>
    if s.elsewhere i k ∨ s.inFlight i = true then none else some ((s.startLoad k i none false false).loadBlob k i)

/-- The job at the head is worked on (R503). -/
def State.runJob (s : State) : State :=
  match s.kv.jobs with
  | [] => s
  | j :: _ =>
    let l := noFcs (s.chainOctets j.cell 0 j.len)
    let it : SecItem := { status := .fault, cause := 7, cell := j.cell, octets := j.len }
    match parseMac true l with
    | none => s.jobEnd it
    | some h =>
      match h.aux with
      | none => s.jobEnd it
      | some a =>
        let it1 := { it with slv := a.level, counter := a.counter.getD 0, octets := j.len - micOf a.level }
        if !(levelOk a.level && decide (a.kim ≤ 2) && a.counter.isSome) then s.jobEnd it1
        else
          match s.sourceNode h with
          | none => s.jobEnd { it1 with status := .absent, cause := 3 }
          | some n =>
            let e := s.nodeEntry n
            if !enKv e then s.jobEnd { it1 with status := .absent, cause := 4, handle := n }
            else
              match s.jobKey (enKslot e) (enBlob e) with
              | none => s
              | some (.ok, t) => t.jobOpen j n (enKslot e) h a l
              | some (.fault, t) => t.jobEnd { it1 with cause := 5, handle := n }
              | some (_, t) => t.jobEnd { it1 with status := .absent, cause := 4, handle := n }

/-! ### Transmit frames (R494, R502) -/

/-- Secure a transmit frame of `len` PSDU octets, MIC and FCS included, whose plaintext is `l` (the PSDU's octets as the
buffer holds them), with slot `k`: none where the key check fails. `blob` is a node frame's; `w3` the wagon's W3. -/
def State.secureTx (s : State) (k : Nat) (blob : Option Nat) (w3 : Option Word) (l : List Byte) : Option (List Byte × State) :=
  let x := s.keySlot k
  match x.state with
  | .resident i =>
    if x.ecc ∨ x.info.dest.getLsbD dCcm = false ∨ (match blob with | some b => decide (b ≠ i) | none => false) = true ∨
        x.maySend = false then none
    else
      match parseMac true (noFcs l) with
      | none => none
      | some h =>
        match h.aux with
        | none => none
        | some a =>
          let suits := match w3 with
            | some w => decide (a.level = fld w 22 20) && decide (a.kim = fld w 19 18)
            | none => true
          if !(a.fits x.info.index.toNat && suits) then none
          else
            let c := s.assignCtr k i
            let p := noFcs l
            some (withFcs (secureFrame x.octets s.ownEui c.1 h a (p.take (p.length - micOf a.level))), c.2)
  | _ => none

end Sys2Proof.Machine
end

