-- ==== Sys2Proof/Machine/SbOps.lean ====
section
/-! DEFINITION. One path of the signal box from preparation to arming and key check (R242, R246, R251–R278, R285–R288,
R296). -/

namespace Sys2Proof.Machine

/-! ### Live parts of node entries (Table 05-5) -/

def enTheta (e : List Word) : Int := signed 16 (fld (ew e 11) 15 0)
def enOfs (e : List Word) : Nat := fld (ew e 12) 23 4
def enRate (e : List Word) : Int := signed 20 (fld (ew e 12) 3 0 * 2 ^ 16 + fld (ew e 13) 23 8)
def enAccel (e : List Word) : Int := signed 12 (fld (ew e 14) 23 12)
def enAntw (e : List Word) (k : Nat) : Nat := fld (ew e 14) (11 - 3 * k) (9 - 3 * k)
def enTxm (e : List Word) : Nat := fld (ew e 15) 15 10
def enTxbo (e : List Word) : Nat := fld (ew e 15) 9 4
def enTcnt (e : List Word) : Nat := fld (ew e 15) 3 1
def enEp (e : List Word) : Nat := fld (ew e 3) 1 0

/-! ### Times -/

/-- The network time (2^-72 s) nearest to now of a short time. -/
def State.fullOf (s : State) (x : Long) : Nat :=
  (((s.sc.time / 2 ^ 40 : Nat) : Int) + signed 48 (x - shortOf s.sc.time).toNat).toNat * 2 ^ 40

/-- PL of the edition that owns a path. -/
def State.ownSpan (s : State) (n : Nat) : Nat := s.plenSpan (s.owner n)

/-- P(n), as network time. -/
def State.prepTime (s : State) (n : Nat) : Nat := s.pathStart n - s.ownSpan n - s.spanUs (s.thlim + 100)

/-- SB_ACKGAP in µs. -/
def State.ackGap (s : State) : Nat :=
  let n := fld (s.reg (aSB 0x11)) 11 0
  if 100 ≤ n ∧ n ≤ 4000 then n else 1000

/-- A span of microseconds in short-time units, to the nearest. -/
def shortUs (n : Nat) : Nat := (n * 2 ^ 32 + 500000) / 1000000

/-! ### Cells and channels -/

/-- The cells of path `n` in a store, in cell order (R253). -/
def State.pathCells (s : State) (st n : Nat) : List Nat :=
  let p := (n - s.edTake st) % max (s.edNpath st) 1
  (s.edCells st).filter (fun i => decide (cellPath (s.sbCell i 1) = p))

/-- The channel of a cell's occurrence in path `n` (R259). -/
def State.cellChan (s : State) (st i n : Nat) : BitVec 8 :=
  let bd := cellBand (s.sbCell i 0)
  let k := (n % 2 ^ 40 + fld (s.sbCell i 1) 7 0) % max (s.edHopLen st bd) 1
  BitVec.ofNat 8 (fld (s.reg (aSB (0x1000 + 0x200 * st + 0x100 * bd.idx + k))) 7 0)

/-- ACK of a cell. -/
def cellAck (w0 : Word) : Bool := bit w0 18

/-- An RX or SHARED cell with ACK = 1. -/
def expectsAck (w0 : Word) : Bool := (decide (cellType w0 = 2) || decide (cellType w0 = 3)) && cellAck w0

/-! ### Owned buffer cells (R296) -/

def State.ownBase (s : State) : Nat := fld (s.reg (aSB 0x1D)) 17 0

/-- The owned cells in use: by prepared frames, and by slots armed or on air. -/
def State.ownUsed (s : State) : List Nat :=
  (s.sb.frames.filterMap (fun f => f.owned)).flatMap (fun c => [c, c + 1]) ++
  [Band.a, Band.b].flatMap (fun bd =>
    (s.slotsIn bd 1 ++ s.slotsIn bd 2).flatMap (fun k =>
      let c := fld (s.reg (aTS bd k 0xB)) 17 0
      [c, c + 1]))

/-- Two owned cells in a row that no frame uses. -/
def State.ownFree (s : State) : Option Nat :=
  ((upTo 32).map (fun i => s.ownBase + 2 * i)).find? (fun c => !s.ownUsed.contains c && !s.ownUsed.contains (c + 1))

/-- Octets into owned cells, packed by R4. -/
def State.putCells (s : State) (c : Nat) (l : List Byte) : State := s.putMain (cellAddr c) (packOctets l)

/-! ### Beacons (R285, R286) -/

/-- Join and re-admission credit as they stand now (R293). -/
def creditNow (credit burst rate dt : Nat) : Nat := min (credit + rate * dt) (burst * 16 * cycS)

def State.settleCredit (s : State) : State :=
  let j := s.reg (aSB 0x14)
  let r := s.reg (aSB 0x15)
  let dt := s.now - s.sb.creditAt
  s.modSb (fun b =>
    { b with joinCredit := creditNow b.joinCredit (fld j 23 16) (fld j 15 0) dt,
             readmCredit := creditNow b.readmCredit (fld r 23 16) (fld r 15 0) dt, creditAt := s.now })

def State.joinMax (s : State) : Nat := fld (s.reg (aSB 0x16)) 17 0

/-- The beacon element after the vendor identifier, sub-type included (Table 06-10). -/
def State.beaconElement (s : State) (st : Nat) (bd : Band) : List Byte :=
  let pend := s.storeIn .pending
  let fb := s.reg (aSB 0x19)
  let open1 := decide (16 * cycS ≤ s.settleCredit.sb.joinCredit) && decide (s.sb.joinOut < s.joinMax)
  let cells := (s.edCells st).filter (fun i => decide (cellType (s.sbCell i 0) = 4) && decide (cellBand (s.sbCell i 0) = bd))
  let adv := if open1 then cells.take 8 else []
  let joins := adv.flatMap (fun i => natToOctets 2 (cellPath (s.sbCell i 1)) ++ natToOctets 1 (fld (s.sbCell i 1) 7 0))
  (4 : Byte) :: (natToOctets 2 (s.edEdn st) ++ natToOctets 1 (s.kep * 64 + b2n pend.isSome * 32) ++
    natToOctets 5 (match pend with | some p => s.edTake p % 2 ^ 40 | none => 0) ++
    natToOctets 2 (match pend with | some p => s.edEdn p | none => 0) ++
    natToOctets 1 (max (fld fb 15 8) 1) ++ natToOctets 1 (fld fb 7 0) ++ natToOctets 1 adv.length ++ padTo 24 joins)

/-- Replace octets of a list from offset `i`. -/
def overlay (l : List Byte) (i : Nat) (x : List Byte) : List Byte := l.take i ++ x ++ l.drop (i + x.length)

/-- The beacon of path `n` in a band: the template with its live fields, and its FCS. -/
def State.beacon (s : State) (st n : Nat) (bd : Band) : List Byte :=
  let tlen := fld (s.reg (aED st 9)) 8 0
  let t := (upTo tlen).map (octetAt (fun w => s.reg (aSB (0x2000 + 0x80 * st + w))))
  let t1 := overlay t (fld (s.reg (aED st 0xA)) 8 0) (natToOctets 5 (n % 2 ^ 40))
  withFcs (overlay t1 (fld (s.reg (aED st 0xB)) 8 0 + 1) (s.voui ++ s.beaconElement st bd))

/-! ### Prediction (R242, R266) -/

/-- θ_pred in ns for a launch at `tnom`. -/
def thetaPred (e : List Word) (tnom : Long) : Int :=
  let d := signed 48 (tnom - ln (enLast e * 2 ^ 16)).toNat
  roundDiv (enTheta e * 8 * 2 ^ 105 + enRate e * d * 1000000000 * 2 ^ 41 + enAccel e * d * d * 1000000000) (2 ^ 105)

/-- TPC, and θ_pred where it is set, else 0. -/
def State.predict (s : State) (e : List Word) (tnom : Long) : Bool × Int :=
  let d := signed 48 (tnom - ln (enLast e * 2 ^ 16)).toNat
  let t := thetaPred e tnom
  let good := decide (2 ≤ enTcnt e) && decide (d ≤ ((3600 * 2 ^ 32 : Nat) : Int)) && decide (t.natAbs ≤ 8388607) &&
    decide (t.natAbs ≤ s.thlim * 1000)
  (good, if good then t else 0)

/-- ns as short-time units, to the nearest (R241). -/
def shortNs (t : Int) : Long := BitVec.ofInt 48 (roundDiv (t * 2 ^ 32) 1000000000)

/-! ### Preparation (R265 step 1, R269, R277, R410) -/

/-- Ask for a hold of a slot until B(n + 1). -/
def State.hold (s : State) (k : Nat) (b : Option Nat) (n : Nat) : State :=
  (s.applyHold k b).modSb (fun x => { x with holds := x.holds ++ [(k, n)] })

/-- The hold of a node's key. -/
def State.holdNode (s : State) (h n : Nat) : State :=
  let e := s.nodeEntry h
  if enKv e then s.hold (enKslot e) (some (enBlob e)) n else s

/-- The class gate of a node queue is open at a launch time (R410). -/
def State.gateOpen (s : State) (q c : Nat) (t : Long) : Bool :=
  let e := s.qEgr q
  (s.gate e).openAtArmed (fld (s.reg (aYD (0x404 + 0x10 * e))) 10 0) c t

/-- The head wagon of a queue that an occurrence may take (R269, R282, R410): its attempt number. -/
def State.mayTake (s : State) (q n : Nat) (w0 : Word) (tnom : Long) (w : Wagon) : Option Nat :=
  let tx := decide (cellType w0 = 1)
  if w.taken then none
  else if isNodeQueue q && decide (clsOf w.w2 = 0) then
    if w.claims.contains n && ((tx && bit w0 19) || !tx) && !(!tx && decide (w.claims.idxOf n = 0)) then
      some (w.claims.idxOf n)
    else none
  else if !tx && decide (w.att = 0) then none
  else if w.timed && after w.time (shortOf (s.pathStart n)) then none
  else if isNodeQueue q && !(s.shaperOpen q && s.gateOpen q (clsOf w.w2) tnom) then none
  else some w.att

/-- A frame with the fields that all kinds share. -/
def blankFrame (n : Nat) (k : SbKind) (bd : Band) (i : Nat) (c : BitVec 8) (tnom : Long) : SbFrame :=
  { asn := n, kind := k, band := bd, cell := i, chan := c, queue := 0, w0 := 0, w1 := 0, w2 := 0, w3 := 0, att := 0, tt := false,
    ack := false, tnom := tnom, tact := tnom, theta := 0, tpc := false, owned := none, stage := .prepared, slot := none,
    status := none, launched := false, heard := none }

def State.addFrame (s : State) (f : SbFrame) : State := s.modSb (fun b => { b with frames := b.frames ++ [f] })

/-- A TX or RETRY occurrence takes its head wagon. -/
def State.prepTx (s : State) (st i n : Nat) (tnom : Long) : State :=
  let w0 := s.sbCell i 0
  let q := cellTarget w0
  if !(s.qLive q && decide (s.qKind q = 0)) then s
  else
    match s.wagonsOf q with
    | [] => s
    | w :: _ =>
      match s.mayTake q n w0 tnom w with
      | none => s
      | some att =>
        if w.ecc ≠ .good then s.eccRemove q w
        else
          let node := isNodeQueue q
          let e := s.nodeEntry q
          let p := if node then s.predict e tnom else (false, 0)
          let f0 := blankFrame n (if node then .node else .group) (cellBand w0) i (s.cellChan st i n) tnom
          let f := { f0 with
                       queue := q, w0 := w.w0, w1 := w.w1, w2 := w.w2, w3 := w.w3, att := att,
                       tt := node && decide (clsOf w.w2 = 0), ack := node && cellAck w0, theta := p.2, tpc := p.1,
                       tact := tnom - shortNs p.2 }
          let s1 := (s.modWagon q w.id (fun v => { v with taken := true, att := att })).addFrame f
          let s2 := if node then s1.occurV 0x53 (BitVec.ofInt 24 (thetaPred e tnom)) else s1
          if !bit w.w3 23 then s2
          else if node then s2.holdNode q n
          else s2.hold (fld w.w3 13 0) none n

/-- A BEACON occurrence builds its beacon; without a free owned cell it is not launched. -/
def State.prepBeacon (s : State) (st i n : Nat) (tnom : Long) : State :=
  let bd := cellBand (s.sbCell i 0)
  let f := blankFrame n .beacon bd i (s.cellChan st i n) tnom
  let l := s.beacon st n bd
  let s1 := match s.ownFree with
    | none => s.addFrame { f with stage := .ended, status := some .full }
    | some c =>
      (s.putCells c l).addFrame { f with owned := some c, w0 := wd (cellAddr c), w1 := wd l.length }
  s1.hold (fld (s.reg (aSB 0x1B)) 13 0) none n

/-- One cell of a path in preparation. -/
def State.prepCell (s : State) (st n i : Nat) : State :=
  let w0 := s.sbCell i 0
  let tnom := shortOf (s.pathStart n + s.span5 (s.edTxofs st))
  match cellType w0 with
  | 1 => s.prepTx st i n tnom
  | 6 => s.prepTx st i n tnom
  | 5 => s.prepBeacon st i n tnom
  | 2 => if cellAck w0 then s.holdNode (cellTarget w0) n else s
  | _ => s

/-- Step 1 of Table 06-6 for the next path. -/
def State.preparePath (s : State) : State :=
  let n := s.sb.prep
  let t := match s.owner n with
    | some st => (s.pathCells st n).foldl (fun (u : State) i => u.prepCell st n i) s
    | none => s
  t.modSb (fun b => { b with prep := n + 1 })

/-! ### Arming (R246, R265 step 2, R268) -/

/-- The antenna of R246 for a band's frames of a path; none when no node counts. -/
def State.bestAnt (s : State) (bd : Band) (n : Nat) : Option Nat :=
  let es := (s.sb.frames.filter (fun f => decide (f.asn = n) && decide (f.band = bd) && decide (f.kind = .node))).map
    (fun f => s.nodeEntry f.queue)
  let es1 := es.filter (fun e => decide (fld (ew e 14) 11 0 ≠ 0))
  if es1.isEmpty then none
  else
    let least := fun (k : Nat) => es1.foldl (fun m e => min m (enAntw e k)) 7
    let best := (upTo 4).foldl (fun m k => max m (least k)) 0
    let cur := fld (s.reg (aTX bd 3)) 18 16
    if 1 ≤ cur ∧ cur ≤ 4 ∧ least (cur - 1) = best then some (cur - 1) else (upTo 4).find? (fun k => decide (least k = best))

/-- The antenna requests of a path, at its first arming. -/
def State.pathAntennas (s : State) (n : Nat) : State :=
  if s.sb.frames.any (fun f => decide (f.asn = n) && (decide (f.stage = .armed) || decide (f.stage = .checked))) then s
  else
    [Band.a, Band.b].foldl (fun t bd =>
      match t.bestAnt bd n with
      | some k => t.antRequest bd (1 + k)
      | none => t) s

/-- The lowest slot of a band in IDLE or DONE. -/
def State.freeSlot (s : State) (bd : Band) : Option Nat :=
  (upTo 16).find? (fun k => decide (s.slotState bd k = 0) || decide (s.slotState bd k = 3))

/-- What Table 06-7 puts into a slot beside its launch time. -/
structure SlotFill where
  chan : BitVec 8
  node : Option Nat
  tpc : Bool
  theta : Int
  tnom : Long
  len : Nat
  cell : Nat
deriving DecidableEq, Repr

/-- Fill a slot (Table 06-7); a frame that is not a node's takes SB_BCMODE. -/
def State.fillSlot (s : State) (bd : Band) (k : Nat) (x : SlotFill) : State :=
  let e := match x.node with
    | some h => s.nodeEntry h
    | none => []
  let nv := x.node.isSome
  let bc := s.reg (aSB 0x1C)
  let txm := if nv then enTxm e else match bd with
    | .a => fld bc 23 18
    | .b => fld bc 17 12
  let m := fun (w : Nat) => if nv then ew e w else 0
  s.regsFrom (aTS bd k 2)
      [ s.reg (aCh bd x.chan.toNat 1), wd (b2n nv * 2 ^ 23 + x.node.getD 0), wd (if nv then enOfs e else 0),
        BitVec.ofInt 24 x.theta, hiWord x.tnom, loWord x.tnom ]
    |>.regsFrom (aTS bd k 0xA)
      [ wd (txm * 2 ^ 18 + (if nv then enEp e else 0) * 2 ^ 16 + x.len % 4096), wd x.cell, m 7, m 8, m 9 ]
    |>.setReg (aTS bd k 0)
      (wd (b2n nv * 2 ^ 21 + b2n x.tpc * 2 ^ 20 + x.chan.toNat * 2 ^ 8 + (if nv then 4 * enTxbo e else 0)))

/-- Change frame `i`. -/
def State.modFrame (s : State) (i : Nat) (f : SbFrame → SbFrame) : State :=
  s.modSb (fun b => { b with frames := b.frames.modify i f })

/-- PSDU octets of a frame. -/
def SbFrame.len (f : SbFrame) : Nat := if f.kind = .beacon then f.w1.toNat else fld f.w1 11 0

/-- A frame given TPC = 0 is counted (R266). -/
def State.countTpc (s : State) (f : SbFrame) : State :=
  if f.kind = .node ∧ f.tpc = false then (s.count (aSB 0x4E)).occur 0x52 else s

/-- Step 2 for frame `i`. -/
def State.armFrame (s : State) (i : Nat) (f : SbFrame) : State :=
  let s1 := s.pathAntennas f.asn
  match s1.freeSlot f.band with
  | none => s1.modFrame i (fun x => { x with stage := .ended, status := some .full })
  | some k =>
    let fill : SlotFill :=
      { chan := f.chan, node := if f.kind = .node then some f.queue else none, tpc := f.tpc, theta := f.theta, tnom := f.tnom,
        len := f.len, cell := bufCell f.w0 }
    let r := ((s1.fillSlot f.band k fill).countTpc f).armSlot f.band k
    match r.1 with
    | .ok =>
      let t := r.2.setSlotFrame f.band k
        { queue := if f.kind = .beacon then none else some f.queue, beacon := decide (f.kind = .beacon) }
      t.modFrame i (fun x => { x with stage := .armed, slot := some (Fin.ofNat 16 k), tact := t.slotTact f.band k })
    | st => r.2.modFrame i (fun x => { x with stage := .ended, status := some st })

/-! ### Key check (R278, R494, R502) -/

/-- The secured frame of slot `k`, none where the key check fails; a beacon is secured where its template says so. -/
def State.frameKey (s : State) (f : SbFrame) (k : Nat) : Option (Option (List Byte) × State) :=
  let l := s.psdu f.band k
  let lift := fun (x : Option (List Byte × State)) => x.map (fun p => (some p.1, p.2))
  match f.kind with
  | .beacon =>
    match parseMac true (noFcs l) with
    | some h => if h.aux.isSome then lift (s.secureTx (fld (s.reg (aSB 0x1B)) 13 0) none none l) else some (none, s)
    | none => some (none, s)
  | .group => if bit f.w3 23 then lift (s.secureTx (fld f.w3 13 0) none (some f.w3) l) else some (none, s)
  | .node =>
    let e := s.nodeEntry f.queue
    if !bit f.w3 23 then some (none, s)
    else if !enKv e then none
    else lift (s.secureTx (fld f.w3 13 0) (some (enBlob e)) (some f.w3) l)

/-- Step 3 for frame `i` in slot `k`: the frame is ready, or it is disarmed (LATE). -/
def State.checkKey (s : State) (i : Nat) (f : SbFrame) (k : Nat) : State :=
  match s.frameKey f k with
  | some (sec, t) =>
    (t.setSlotFrame f.band k { t.slotFrame f.band k with sec := sec }).modFrame i (fun x => { x with stage := .checked })
  | none =>
    (s.setReg (aTS f.band k 1) (wd (s.slotStatus f.band k * 2 ^ 18))).modFrame i
      (fun x => { x with stage := .ended, slot := none, status := some .absent })

end Sys2Proof.Machine
end

