-- ==== Sys2Proof/Machine/SbObserve.lean ====
section
/-! DEFINITION. What the signal box does with reception reports: uplink acknowledgements, stale frames, joins, and the
acknowledgements of its own frames (R216, R270, R273–R276, R290–R295). -/

namespace Sys2Proof.Machine

/-- A reception report as the signal box sees it: its band and channel, frame end, airtime in ns, W1, LQI, and the PSDU. -/
structure HeardFrame where
  band : Band
  chan : BitVec 8
  tend : Long
  airNs : Nat
  w1 : Word
  lqi : Byte
  psdu : List Byte
deriving DecidableEq, Repr

/-- The path in which a short time falls, the present or the one before it, with its store and its beginning. -/
def State.pathAt (s : State) (t : Long) : Option (Nat × Nat × Nat) :=
  let x := s.fullOf t
  if !s.sb.begun then none
  else if s.sb.bTime ≤ x then (s.owner s.sb.asn).map (fun e => (s.sb.asn, e, s.sb.bTime))
  else if s.sb.prevTime ≤ x then s.sb.prevStore.map (fun e => (s.sb.asn - 1, e.val, s.sb.prevTime))
  else none

/-- The node a frame comes from. -/
def State.nodeOfFrame (s : State) (h : MacHdr) : Option Nat :=
  match s.sourceNode h with
  | some n => if enState (s.nodeEntry n) = 0 then none else some n
  | none => none

/-- Addressed to the K16: its own EUI-64 (DEDUCED, log 36). -/
def State.toUs (s : State) (h : MacHdr) : Bool := decide (h.dst = .ext s.ownEui)

/-- A frame element that is not stale, and the right source for the cell (R274). -/
def State.sourceFits (s : State) (w0 : Word) (n : Option Nat) : Bool :=
  match n with
  | none => false
  | some n => if cellType w0 = 2 then decide (n = cellTarget w0) else decide (enState (s.nodeEntry n) = 2)

/-- θ_m in ns (R275). -/
def thetaMeas (b txofs : Nat) (tend : Long) (airNs : Nat) : Int :=
  let d := signed 48 (shortOf (b + txofs) - tend).toNat
  roundDiv (d * 1000000000) (2 ^ 32) + airNs

/-- The correction c = −θ_m in whole µs, limited (R243). -/
def corrOf (theta : Int) : Int := max (-2047) (min 2047 (roundDiv (-theta) 1000))

def State.addAck (s : State) (a : AckJob) : State := s.modSb (fun b => { b with acks := b.acks ++ [a] })

/-- PAN of an answer to a frame. -/
def State.answerPan (s : State) (h : MacHdr) : Nat := h.pan.getD (fld (s.reg (aKV 0x24B)) 23 8)

/-- The key index of a node's slot. -/
def State.nodeIndex (s : State) (n : Nat) : Nat := (s.keySlot (enKslot (s.nodeEntry n))).info.index.toNat

/-- An acknowledgement, or a steer, becomes due (R275, R295). -/
def State.dueAck (s : State) (n st b : Nat) (x : HeardFrame) (h : MacHdr) (node : Nat) (steer : Option (Fin 3)) : State :=
  let th := thetaMeas b (s.span5 (s.edTxofs st)) x.tend x.airNs
  let c := BitVec.ofInt 12 (corrOf th)
  let ie := match steer with
    | some k => s.steerIe k.val
    | none => timeIe c
  let r := enhAck h (s.answerPan h) (s.nodeIndex node) ie
  s.addAck
    { asn := n, band := x.band, chan := x.chan, handle := node, tend := x.tend, posted := s.shortTime, theta := th,
      corr := c, w1 := x.w1, lqi := x.lqi, steer := steer, body := r.1, mic := r.2 }

/-- A stale frame (R295). -/
def State.staleFrame (s : State) (n : Nat) (x : HeardFrame) (node : Option Nat) : State :=
  ((s.modSb (fun b => { b with stales := b.stales ++
      [{ asn := n, band := x.band, handle := node.getD 0x3FFFF, w1 := x.w1, lqi := x.lqi, tend := x.tend }] })).count
    (aSB 0x49)).occur 0x4D

/-- The cells of a path on a channel that a predicate names. -/
def State.heardCells (s : State) (st n : Nat) (x : HeardFrame) (p : Word → Bool) : List Nat :=
  (s.pathCells st n).filter (fun i =>
    let w0 := s.sbCell i 0
    p w0 && decide (cellBand w0 = x.band) && decide (s.cellChan st i n = x.chan))

/-- A frame heard in RX or SHARED cells with ACK = 1 (R273, R274, R295). -/
def State.heardUplink (s : State) (st n b : Nat) (x : HeardFrame) (h : MacHdr) : State :=
  let node := s.nodeOfFrame h
  let cells := s.heardCells st n x expectsAck
  if cells.isEmpty then s
  else
    match s.stale h with
    | some code =>
      let t := s.staleFrame n x node
      match node with
      | some k => if h.ackReq then t.dueAck n st b x h k (some code) else t
      | none => t
    | none =>
      match cells.find? (fun i => !s.sb.acked.contains (n, i) && s.sourceFits (s.sbCell i 0) node) with
      | some i =>
        if h.ackReq && s.toUs h then
          (s.modSb (fun y => { y with acked := y.acked ++ [(n, i)] })).dueAck n st b x h (node.getD 0) none
        else s
      | none => s

/-! ### Joins (R291–R293) -/

/-- A join item (Table 06-11). -/
def State.joinItem (s : State) (rejoin : Bool) (node eui : Nat) (lqi : Byte) : State :=
  (s.post (fld (s.reg (aSB 0x13)) 17 0)
    [ wd (b2n rejoin * 2 ^ 23 + node), wd (eui / 2 ^ 40), wd (eui / 2 ^ 16), wd (eui % 2 ^ 16 * 2 ^ 8 + lqi.toNat) ]).raise 67

/-- No credit (R291). -/
def State.joinDrop (s : State) : State := (s.count (aSB 0x4B)).occur 0x4F

/-- A join request with REJOIN = 0. -/
def State.joinNew (s0 : State) (eui : Nat) (lqi : Byte) : State :=
  let s := s0.settleCredit
  if s.sb.joinCredit < 16 * cycS then s.joinDrop
  else
    let full := fun (t : State) => (t.count (aSB 0x4C)).occur 0x50
    if s.joinMax ≤ s.sb.joinOut then full s
    else
      match s.sbInsert eui with
      | (⟨.ok, _, _, some h, _, _⟩, t) =>
        let u := t.modSb (fun b => { b with joinCredit := b.joinCredit - 16 * cycS, joinOut := b.joinOut + 1 })
        ((u.count (aSB 0x4A)).occur 0x4E).joinItem false h eui lqi
      | _ => full s

/-- A join request with REJOIN = 1 from a node that has an admitted entry. -/
def State.joinAgain (s0 : State) (eui : Nat) (lqi : Byte) : State :=
  let s := s0.settleCredit
  match s.findEui eui with
  | none => s
  | some h =>
    if enState (s.nodeEntry h) ≠ 2 then s
    else if s.sb.readmCredit < 16 * cycS then s.joinDrop
    else
      let u := s.modSb (fun b => { b with readmCredit := b.readmCredit - 16 * cycS })
      ((u.count (aSB 0x4D)).occur 0x51).joinItem true h eui lqi

/-- A frame heard in a JOIN occurrence: a join request, or a stale frame (R290, R291). -/
def State.heardJoin (s : State) (st n : Nat) (x : HeardFrame) (h : MacHdr) : State :=
  if (s.heardCells st n x (fun w0 => decide (cellType w0 = 4))).isEmpty then s
  else
    match s.element h 6, h.src with
    | some d, .ext eui => if bit (wd (d.getD 0 0).toNat) 0 then s.joinAgain eui x.lqi else s.joinNew eui x.lqi
    | some _, _ => s
    | none, _ =>
      if (s.heardCells st n x expectsAck).isEmpty && (s.stale h).isSome then s.staleFrame n x (s.nodeOfFrame h) else s

/-! ### Acknowledgements of the signal box's frames (R216, R270 order 4) -/

/-- The sequence number of a frame taken. -/
def State.frameSeq (s : State) (f : SbFrame) : Option Byte :=
  ((parseMac true (noFcs (s.chainOctets (bufCell f.w0) 0 f.len))).bind (fun h => h.seq))

/-- An acknowledgement from a node for a frame of the present path. -/
def State.heardAck (s : State) (x : HeardFrame) (h : MacHdr) : State :=
  let node := s.nodeOfFrame h
  let fits := fun (f : SbFrame) =>
    decide (f.kind = .node) && f.ack && f.launched && decide (f.asn = s.sb.asn) && decide (f.band = x.band) &&
    decide (f.chan = x.chan) && (decide (h.src = .absent) || decide (node = some f.queue)) && decide (s.frameSeq f = h.seq)
  let upd := fun (f : SbFrame) => if fits f then { f with heard := some (x.lqi, h.timeCorr.getD noEps) } else f
  s.modSb (fun b => { b with frames := b.frames.map upd })

/-- A report with STATUS = OK reaches the signal box (R216, R273). -/
def State.sbObserve (s : State) (x : HeardFrame) : State :=
  if s.sb.state ≠ .running then s
  else
    match parseMac true (noFcs x.psdu) with
    | none => s
    | some h =>
      if h.typ = 2 then s.heardAck x h
      else
        match s.pathAt x.tend with
        | none => s
        | some (n, st, b) => (s.heardUplink st n b x h).heardJoin st n x h

/-! ### Sending an acknowledgement (R275, R276) -/

def State.modAck (s : State) (i : Nat) (f : AckJob → AckJob) : State :=
  s.modSb (fun b => { b with acks := b.acks.modify i f })

/-- The launch time of an acknowledgement. -/
def State.ackTact (s : State) (a : AckJob) : Long := a.tend + ln (shortUs s.ackGap)

/-- It is not sent. -/
def State.ackMiss (s : State) (i : Nat) (st : Status) : State :=
  ((s.modAck i (fun a => { a with done := true, status := st })).count (aSB 0x48)).occur 0x4C

/-- The arming checks but the last, which a launch at the present time does not meet. -/
def State.armCheckNow (s : State) (bd : Band) (k : Nat) : Status :=
  match s.armCheck bd k with
  | .late => .ok
  | st => st

/-- Acknowledgement `i` is armed, keyed and launched, or missed. -/
def State.sendAck (s : State) (i : Nat) (a : AckJob) (busy : Bool) : State :=
  let tact := s.ackTact a
  let e := s.nodeEntry a.handle
  let psdu := a.body ++ List.replicate (a.mic + fcsLen) 0
  if after a.posted (tact - ln (shortUs 100)) ∨ enKv e = false then s.ackMiss i .late
  else
    match s.freeSlot a.band, s.ownFree with
    | some k, some c =>
      match s.secureTx (enKslot e) (some (enBlob e)) none psdu with
      | none => s.ackMiss i .late
      | some (sec, t) =>
        let fill : SlotFill :=
          { chan := a.chan, node := some a.handle, tpc := false, theta := 0, tnom := tact, len := psdu.length, cell := c }
        let t1 := (t.putCells c psdu).fillSlot a.band k fill
        match t1.armCheckNow a.band k with
        | .ok =>
          let t2 := t1.regsFrom (aTS a.band k 8) [hiWord tact, loWord tact]
          let t3 := ((t2.setReg (aTS a.band k 0xF) (BitVec.ofInt 24 (t2.ncoOf a.band k))).setSlot a.band k 1 .ok).setSlotFrame
            a.band k { sec := some sec }
          let t4 := t3.launch a.band k busy
          if t4.slotState a.band k = 2 then t4.modAck i (fun x => { x with done := true, status := .ok, tact := tact })
          else t4.ackMiss i (if t4.slotStatus a.band k = 10 then .dwell else .late)
        | st => (t1.setSlot a.band k 3 st).ackMiss i .late
    | _, _ => s.ackMiss i .late

end Sys2Proof.Machine
end

