-- ==== Sys2Proof/Machine/SbPath.lean ====
section
/-! DEFINITION. Path boundaries, completion, edition checks, starting and draining, and the SB registers
(R251, R259–R263, R267, R270–R272, R283, R284, R289, R297–R304). -/

namespace Sys2Proof.Machine

/-! ### Outcomes (R270–R272, Tables 06-8 and 06-9) -/

/-- The outcome of a wagon's attempt, with the counter and the occurrence that record it. -/
def SbFrame.outcome (f : SbFrame) : Status × Option (Nat × Nat) :=
  let timeout := (Status.timeout, some (0x44, 0x48))
  match f.status with
  | some .state => timeout
  | some .dwell => (.dwell, some (0x43, 0x47))
  | some .absent => (.late, some (0x40, 0x44))
  | some .full => (.late, some (0x41, 0x45))
  | some _ => (.late, some (0x42, 0x46))
  | none =>
    if !f.launched then (.late, some (0x42, 0x46))
    else if f.ack && f.heard.isNone then timeout
    else (.ok, none)

/-- An attempt LATE (event 68 once). -/
def State.tellLate (s : State) : State :=
  if s.sb.lateTold then s else (s.modSb (fun b => { b with lateTold := true })).raise 68

/-- The taken wagon of a queue. -/
def State.takenWagon (s : State) (q : Nat) : Option Wagon := (s.wagonsOf q).find? (fun w => w.taken)

/-- Milliseconds from now to the deadline of a TT wagon (R35, #49). -/
def State.msLeft (s : State) (w : Wagon) : Word :=
  match s.owner s.sb.asn with
  | none => 0
  | some e =>
    let d := w.acc + shortOf (s.edNpath e * s.span5 (s.edPlen e) * (fld w.w1 23 21 + 1))
    let left := signed 48 (d - s.shortTime).toNat
    wd (min (left.toNat * 1000 / 2 ^ 32) (2 ^ 24 - 1))

/-- A wagon's attempt is decided: its item, and the wagon leaves or stays (R271, R272). -/
def State.settleFrame (s : State) (f : SbFrame) : State :=
  let o := f.outcome
  let ok := decide (o.1 = Status.ok)
  let s1 := match o.2 with
    | some p => (s.count (aSB p.1)).occur p.2
    | none => s
  let s2 := if o.1 = .late then s1.tellLate else s1
  match s2.takenWagon f.queue with
  | none => s2
  | some w =>
    let fin := ok || decide (f.kind = .group) || decide (fld w.w1 23 21 ≤ f.att) || w.flushed
    let item : SbItem :=
      { status := o.1, att := f.att, final := fin, cls := clsOf w.w2, kind := 0, lqi := (f.heard.map Prod.fst).getD 0,
        handle := f.queue, buf := w.w0, asn := f.asn, tact := if f.launched then f.tact else 0, theta := f.theta,
        eps := (f.heard.map Prod.snd).getD noEps, tpc := f.tpc }
    let s3 := s2.postItem item
    let s4 := if fin && f.tt then s3.occurV 0x49 (s3.msLeft w) else s3
    let s5 := if fin && f.tt && !ok then s4.occur 0x4A else s4
    if fin then s5.endWagon f.queue { w with taken := false } ok
    else s5.modWagon f.queue w.id (fun v => { v with taken := false, att := f.att + 1 })

/-- A beacon that was not launched (R287). -/
def State.beaconMiss (s : State) : State :=
  let t := (s.count (aSB 0x47)).occur 0x4B
  if t.sb.bcnTold then t else (t.modSb (fun b => { b with bcnTold := true })).raise 70

/-- Insert in a list ordered by a key. -/
def insertBy {α : Type} (key : α → Nat) (x : α) : List α → List α
  | [] => [x]
  | y :: r => if key x < key y then x :: y :: r else y :: insertBy key x r

def sortBy {α : Type} (key : α → Nat) (l : List α) : List α := l.foldl (fun r x => insertBy key x r) []

/-- An order of short times near `b`, then of bands (R284). -/
def timeKey (b t : Long) (bd : Band) : Nat := (t - b + BitVec.ofNat 48 (2 ^ 47)).toNat * 2 + bd.idx

/-- The item of an uplink acknowledgement (kind b'01). -/
def AckJob.item (a : AckJob) : SbItem :=
  { status := a.status, kind := 1, lqi := a.lqi, handle := a.handle, buf := a.w1, asn := a.asn, tact := a.tact,
    theta := a.theta, eps := a.corr }

/-- The item of a stale frame (kind b'10). -/
def StaleItem.item (x : StaleItem) : SbItem :=
  { status := .state, kind := 2, lqi := x.lqi, handle := x.handle, buf := x.w1, asn := x.asn }

/-- Step 7 of Table 06-6 for path `n`: every outcome is decided and posted. -/
def State.completePath (s : State) (n : Nat) : State :=
  let b := shortOf s.sb.prevTime
  let fs := sortBy (fun (f : SbFrame) => timeKey b f.tact f.band) (s.sb.frames.filter (fun f => decide (f.asn = n)))
  let t := fs.foldl (fun (u : State) f =>
    if f.kind = .beacon then (if f.launched then u else u.beaconMiss) else u.settleFrame f) s
  let as := (t.sb.acks.filter (fun a => decide (a.asn ≤ n) && a.done && a.steer.isNone)).map
    (fun a => (timeKey b a.tend a.band, a.item))
  let ss := (t.sb.stales.filter (fun a => decide (a.asn ≤ n))).map (fun a => (timeKey b a.tend a.band, a.item))
  let t1 := (sortBy Prod.fst (as ++ ss)).foldl (fun (u : State) x => u.postItem x.2) t
  t1.modSb (fun y =>
    { y with
        comp := n + 1, frames := y.frames.filter (fun f => decide (f.asn ≠ n)),
        acks := y.acks.filter (fun a => !(decide (a.asn ≤ n) && a.done)),
        stales := y.stales.filter (fun a => decide (n < a.asn)),
        acked := y.acked.filter (fun a => decide (n ≤ a.1)) })

/-! ### Boundaries (R251, R252, R261, R265 step 5) -/

/-- A pending edition takes over (Table 06-3). -/
def State.edTakeOver (s : State) (n : Nat) : State :=
  match s.storeIn .pending with
  | none => s.modSb (fun b => { b with sinceTake := b.sinceTake + 1 })
  | some p =>
    if s.edTake p ≠ n then s.modSb (fun b => { b with sinceTake := b.sinceTake + 1 })
    else
      let old := (s.storeIn .active).map (fun e => BitVec.ofNat 16 (s.edEdn e))
      let t := s.freeStores.setStore p .active
      ((t.modSb (fun b => { b with act := Fin.ofNat 2 p, sinceTake := 0, prevEdn := old })).raise 64).occur 0x40

/-- The channels of path `n` that take EXP, in cell order (R267). -/
def State.expChannels (s : State) (st n : Nat) : List (Band × Nat) :=
  (s.pathCells st n).foldl (fun l i =>
    let w0 := s.sbCell i 0
    let c := (cellBand w0, (s.cellChan st i n).toNat)
    let want := decide (cellType w0 = 2 ∨ cellType w0 = 3) || (decide (cellType w0 = 1) && cellAck w0)
    if want && bit (s.chCfg c.1 c.2) 23 && !l.contains c then l ++ [c] else l) []

/-- CH_EXP for path `n`. A channel that takes EXP takes it with CONS = 0 (DEDUCED, log 36). -/
def State.writeExp (s : State) (n : Nat) : State :=
  match s.owner n with
  | none => s
  | some st =>
    let l := s.expChannels st n
    let m := fld (s.reg (aLN 0x1E)) 9 0
    let on := l.take m
    let t := [Band.a, Band.b].foldl (fun u bd =>
      (upTo 256).foldl (fun (v : State) c =>
        v.setReg (aCh bd c 3) (if on.contains (bd, c) then 0x800000 else 0)) u) s
    if m < l.length then (t.count (aSB 0x4F)).occur 0x54 else t

/-- TT wagons of a node whose reserved occurrences have passed during a stall (R299), with fuel. -/
def State.lateHeads (s : State) (q : Nat) : Nat → State
  | 0 => s
  | f + 1 =>
    match s.wagonsOf q with
    | [] => s
    | w :: _ =>
      if clsOf w.w2 ≠ 0 ∨ w.taken = true then s
      else if s.sb.asn ≤ w.claims.getLastD 0 then
        s.modWagon q w.id (fun v => { v with att := (v.claims.filter (fun n => decide (n < s.sb.asn))).length })
      else
        let item : SbItem :=
          { status := .late, att := w.claims.length - 1, final := true, cls := 0, kind := 0, handle := q, buf := w.w0,
            asn := s.sb.asn }
        State.lateHeads (((s.postItem item).occur 0x57).endWagon q w false) q f

/-- Exit from STALLED (R299): no path is prepared whose preparation time has passed. -/
def State.endStall (s : State) : State :=
  let t := (s.modSb (fun b => { b with state := .running })).raise 66
  let t1 := t.sb.ledger.foldl (fun (u : State) e =>
    match e.2 with
    | some f => if f ≤ u.sb.asn then u.lateHeads e.1 ((u.wagonsOf e.1).length + 1) else u
    | none => u) t
  let first := t1.firstPathFrom (t1.sc.time + t1.plenSpan (t1.storeIn .active) + t1.spanUs (t1.thlim + 100))
  t1.modSb (fun b => { b with prep := max b.prep first })

/-- A delivered e and a committed region record apply (R144, R167). -/
def State.applyPends (s : State) : State :=
  let t := [Band.a, Band.b].foldl (fun u bd =>
    match (State.radio u bd).ePend with
    | some e => u.applyE bd e
    | none => u) s
  if t.fe.rgnPend then t.regionInForce else t

/-- The time of the next boundary. -/
def State.nextBoundary (s : State) : Nat := if s.sb.begun then s.pathStart (s.sb.asn + 1) else s.sb.bTime

/-- The boundary that begins a path. -/
def State.boundary (s : State) : State :=
  let first := !s.sb.begun
  let n := if first then s.sb.asn else (s.sb.asn + 1) % 2 ^ 48
  let own := if first then none else (s.owner s.sb.asn).map (fun e => Fin.ofNat 2 e)
  let t := s.modSb (fun b =>
    { b with asn := n, begun := true, bTime := s.nextBoundary, prevTime := b.bTime, prevStore := own })
  let t1 := (t.edTakeOver n).applyPends
  let t2 := if t1.sb.state = .stalled ∧ t1.sbStallWord = 0 then t1.endStall else t1
  let t3 := if t2.sb.state = .running then t2.writeExp n else t2
  let t4 := t3.dropHolds (fun m => decide (m < n))
  if t4.sb.drain ∧ t4.maxFront < n ∧ t4.sb.state = .running then
    let u := if t4.sb.comp < n then t4.completePath (n - 1) else t4
    let v := u.sb.frames.foldl (fun (x : State) f => if f.kind = .beacon then x else x.untake f.queue) u.disarmAll
    v.freeStores.sbIdle 1
  else t4

/-! ### Edition checks (R256–R258, R263, Table 06-4) -/

def isTransmit (w0 : Word) : Bool := decide (cellType w0 = 1 ∨ cellType w0 = 5 ∨ cellType w0 = 6)
def isReceive (w0 : Word) : Bool := decide (cellType w0 = 2 ∨ cellType w0 = 3 ∨ cellType w0 = 4)

/-- CAUSE 3 for a cell. -/
def cellBad3 (w0 : Word) : Bool :=
  let t := cellType w0
  decide (t = 7) || ((decide (t = 0) || decide (t = 3) || decide (t = 4) || decide (t = 5)) && decide (cellTarget w0 ≠ 0))

/-- CAUSE 5 for a cell (R257). -/
def cellBad5 (w0 : Word) : Bool :=
  let t := cellType w0
  let x := cellTarget w0
  let node := decide (x < 131072)
  (bit w0 19 && !(decide (t = 1) && node)) ||
  (bit w0 18 && !((decide (t = 1) && node) || decide (t = 2) || decide (t = 3))) ||
  ((decide (t = 2) || decide (t = 6)) && !node) || (decide (t = 1) && decide (queueCount ≤ x))

/-- CAUSE 1. -/
def State.edBad1 (s : State) (e : Nat) : Bool :=
  let tlen := fld (s.reg (aED e 9)) 8 0
  let ao := fld (s.reg (aED e 0xA)) 8 0
  let eo := fld (s.reg (aED e 0xB)) 8 0
  decide (s.edPlen e < 200) || decide (10000 < s.edPlen e) || decide (s.edNpath e < 1) || decide (65536 < s.edNpath e) ||
  decide (s.edPlen e ≤ s.edTxofs e) || decide (380 < tlen) || decide (tlen < ao + 5) || decide (tlen < eo + 42) ||
  (decide (ao < eo + 42) && decide (eo < ao + 5))

/-- CAUSE 2. -/
def State.edBad2 (s : State) (e : Nat) : Bool :=
  let b := s.edBase e
  let n := s.edCount e
  let o := 1 - e
  decide (524288 < b + n) ||
  (decide (s.storeState o ≠ .free) && decide (b < s.edBase o + s.edCount o) && decide (s.edBase o < b + n))

/-- Cells of the edition up to `i` in one path and band that satisfy `p`. -/
def State.sameSlot (s : State) (e i : Nat) (p : Word → Bool) : Nat :=
  ((s.edCells e).filter (fun j =>
    decide (j ≤ i) && p (s.sbCell j 0) && decide (cellPath (s.sbCell j 1) = cellPath (s.sbCell i 1)) &&
    decide (cellBand (s.sbCell j 0) = cellBand (s.sbCell i 0)))).length

/-- CAUSE 6 at a cell (R256). -/
def State.cellBad6 (s : State) (e i : Nat) : Bool :=
  decide (512 < s.sameSlot e i isReceive) || decide (16 < s.sameSlot e i (fun w => isTransmit w || expectsAck w))

/-- CAUSE 7 at a cell (R258). -/
def State.cellBad7 (s : State) (e i : Nat) : Bool :=
  let w0 := s.sbCell i 0
  let upto := (s.edCells e).filter (fun j => decide (j ≤ i))
  (s.ttCell (cellTarget w0) true i && decide (8 < (upto.filter (s.ttCell (cellTarget w0) true)).length)) ||
  (decide (cellType w0 = 4) && decide (8 < (upto.filter (fun j => decide (cellType (s.sbCell j 0) = 4))).length))

/-- CAUSE 9: the preparation time is past, or TAKE is not above SB_MAXFRONT. -/
def State.edBad9 (s : State) (e : Nat) : Bool :=
  let n := s.edTake e
  let t := s.pathStart n
  let early := s.span5 (s.edPlen e) + s.spanUs (s.thlim + 100)
  (s.sbRuns && (decide (n ≤ s.sb.asn) || decide (t ≤ s.sc.time + early))) ||
  (!s.sb.ledger.isEmpty && decide (n ≤ s.maxFront))

/-- The first check that fails: its CAUSE and, for a cell, which. -/
def State.edCheck (s : State) (e : Nat) : Option (Nat × Nat) :=
  let cells := s.edCells e
  let at1 := fun (c : Nat) (p : Nat → Bool) (rest : Option (Nat × Nat)) =>
    match cells.find? p with
    | some i => some (c, i)
    | none => rest
  if s.edBad1 e then some (1, 0)
  else if s.edBad2 e then some (2, 0)
  else
    at1 3 (fun i => cellBad3 (s.sbCell i 0))
      (at1 4 (fun i =>
          decide (s.edNpath e ≤ cellPath (s.sbCell i 1)) ||
          (decide (s.edBase e < i) && decide (cellPath (s.sbCell i 1) < cellPath (s.sbCell (i - 1) 1))))
        (at1 5 (fun i => cellBad5 (s.sbCell i 0))
          (at1 6 (s.cellBad6 e)
            (at1 7 (s.cellBad7 e)
              (at1 8 (fun i => decide (s.edHopLen e (cellBand (s.sbCell i 0)) = 0))
                (if s.edBad9 e then some (9, 0) else none))))))

/-- An edition check ends (Table 06-3). -/
def State.edDone (s : State) (e : Nat) : State :=
  match s.edCheck e with
  | none => ((s.setStore e .pending).modSb (fun b => { b with edCause := 0 })).raise 65
  | some (c, i) => (((s.setStore e .free).modSb (fun b => { b with edCause := c, errCell := i })).raise 65).occur 0x41

/-! ### Commands of Table 06-12 -/

/-- The outcome of RUN: OK, LATE when only the time condition fails, else STATE. -/
def State.runCheck (s : State) : Status :=
  let sasn := (long (s.reg (aSB 4)) (s.reg (aSB 5))).toNat
  let t := long (s.reg (aSB 6)) (s.reg (aSB 7))
  let modeOk := decide (s.pw.mode = .provision ∨ s.pw.mode = .service ∨ s.pw.mode = .island ∨ s.pw.mode = .maintenance)
  match s.storeIn .pending with
  | none => .state
  | some e =>
    let lead := shortOf (s.span5 (s.edPlen e) + s.spanUs (s.thlim + 100))
    if s.sb.state ≠ .idle ∨ s.edTake e ≠ sasn ∨ modeOk = false ∨ s.on dSC = false then .state
    else if after (t - lead) s.shortTime && after t s.shortTime then .ok
    else .late

/-- RUN. -/
def State.sbRun (s : State) : Status × State :=
  match s.runCheck with
  | .ok => (.ok, s.modSb (fun b => { b with state := .wait, drain := false, ledger := [] }))
  | st => (st, s)

/-- WAIT ends: RUNNING with ASN = SB_SASN and B = SB_TSTART. -/
def State.sbBegin (s : State) : State :=
  let n := (long (s.reg (aSB 4)) (s.reg (aSB 5))).toNat
  let b := s.fullOf (long (s.reg (aSB 6)) (s.reg (aSB 7)))
  let t := s.modSb (fun x =>
    { x with
        state := .running, asn := n, begun := false, bTime := b, prevTime := b, prevStore := none, prep := n, comp := n,
        sinceTake := 0, prevEdn := none, frames := [], acks := [], stales := [], acked := [], lastBeacon := none,
        meshAlive := false })
  t.sbStall

/-- STOP. -/
def State.sbDrain (s : State) : Status × State :=
  match s.sb.state with
  | .wait => (.ok, s.sbIdle 1)
  | .running => (.ok, s.modSb (fun b => { b with drain := true }))
  | _ => (.state, s)

/-- ABORT. -/
def State.sbAborted (s : State) : Status × State :=
  match s.sb.state with
  | .idle => (.state, s)
  | _ => (.ok, s.sbStop 2)

/-- COMMIT of a store. -/
def State.edCommit (s : State) (e : Nat) : Status × State :=
  if s.storeState e = .free then (.ok, s.setStore e .check) else (.state, s)

/-- CANCEL of a store: not once the preparation of its first path has begun. -/
def State.edCancel (s : State) (e : Nat) : Status × State :=
  if s.storeState e = .pending ∧ (s.sbRuns = false ∨ s.sb.prep ≤ s.edTake e) then (.ok, s.setStore e .free) else (.state, s)

/-! ### Registers -/

/-- A cell lies in the range of a store that is not FREE (R262). -/
def State.cellKept (s : State) (i : Nat) : Bool :=
  [0, 1].any (fun e => decide (s.storeState e ≠ .free) && decide (s.edBase e ≤ i) && decide (i < s.edBase e + s.edCount e))

def State.sbCaddr (s : State) : Nat := fld (s.reg (aSB 0x38)) 18 0

/-- SB_CCMD.WR (R304). -/
def State.cellWrite (s : State) : Status × State :=
  let i := s.sbCaddr
  if s.cellKept i then (.state, s)
  else
    (.ok, s.modSb (fun b =>
      { b with cells := mapPut zeroWord (mapPut zeroWord b.cells (2 * i) (s.reg (aSB 0x39))) (2 * i + 1) (s.reg (aSB 0x3A)) }))

/-- SB_CCMD.RD. -/
def State.cellRead (s : State) : State :=
  let i := s.sbCaddr
  (s.setReg (aSB 0x39) (s.sbCell i 0)).setReg (aSB 0x3A) (s.sbCell i 1)

/-- The store whose register, hop entry or template word an offset is. -/
def sbStoreOf (o : Nat) : Option Nat :=
  if 0x100 ≤ o ∧ o < 0x200 then some ((o - 0x100) / 0x80)
  else if 0x1000 ≤ o ∧ o < 0x1400 then some ((o - 0x1000) / 0x200)
  else if 0x2000 ≤ o ∧ o < 0x2100 then some ((o - 0x2000) / 0x80)
  else none

/-- A store to the SB block. -/
def State.sbWrite (s : State) (a : Nat) (v : Word) : Status × State :=
  let o := a - blk 5
  if o = 0 then
    if bit v 21 then s.sbAborted else if bit v 22 then s.sbDrain else if bit v 23 then s.sbRun else (.ok, s)
  else if (4 ≤ o ∧ o < 8) ∨ o = 0x10 ∨ o = 0x11 ∨ o = 0x1D then
    if s.sb.state = .idle then (.ok, s.plainWrite a v) else (.state, s)
  else if o = 0x14 ∨ o = 0x15 then (.ok, s.settleCredit.plainWrite a v)
  else if o = 0x18 then (.ok, s.modSb (fun b => { b with joinOut := b.joinOut - fld v 17 0 }))
  else if o = 0x20 then
    let t := s.plainWrite a v
    let e := fld v 0 0
    if bit v 22 then t.edCancel e else if bit v 23 then t.edCommit e else (.ok, t)
  else if o = 0x3B then (if bit v 23 then s.cellWrite else if bit v 22 then (.ok, s.cellRead) else (.ok, s))
  else
    match sbStoreOf o with
    | some e => if s.storeState e = .free then (.ok, s.plainWrite a v) else (.state, s)
    | none => (.ok, s.plainWrite a v)

def StoreState.code : StoreState → Nat
  | .free => 0 | .check => 1 | .pending => 2 | .active => 3

def SbState.code : SbState → Nat
  | .idle => 0 | .wait => 1 | .running => 2 | .stalled => 3

/-- A load from the SB block. -/
def State.sbRead (s : State) (a : Nat) : Word × State :=
  let o := a - blk 5
  let r := s.plainRead a
  let h := fld (s.reg (aSB 0x30)) 17 0
  let pst := shortOf s.sb.bTime
  match o with
  | 1 => (wd (s.sb.state.code * 2 ^ 22 + b2n s.sb.drain * 2 ^ 21 + s.sb.act.val * 2 ^ 20 + s.sb.cause % 16 * 2 ^ 16), s)
  | 2 => (hiWord (ln s.sb.asn), s)
  | 3 => (loWord (ln s.sb.asn), s)
  | 8 => (hiWord pst, s)
  | 9 => (loWord pst, s)
  | 0xA => (hiWord (ln s.maxFront), s)
  | 0xB => (loWord (ln s.maxFront), s)
  | 0x17 => (wd s.sb.joinOut, s)
  | 0x21 => (wd (s.sb.st0.code * 2 ^ 22 + s.sb.st1.code * 2 ^ 20 + s.sb.edCause % 16 * 2 ^ 16), s)
  | 0x22 => (wd s.sb.errCell, s)
  | 0x28 => (wd s.sbStallWord, s)
  | 0x31 => (hiWord (ln ((s.front h).getD 0)), s)
  | 0x32 => (loWord (ln ((s.front h).getD 0)), s)
  | 0x33 => (wd (b2n (s.front h).isSome * 2 ^ 23 + s.ledgerAtt h), s)
  | 0x40 => r.map id (fun t => t.modSb (fun b => { b with lateTold := false }))
  | 0x45 => r.map id (fun t => t.modSb (fun b => { b with admTold := false }))
  | 0x47 => r.map id (fun t => t.modSb (fun b => { b with bcnTold := false }))
  | _ => r

end Sys2Proof.Machine
end

