-- ==== Sys2Proof/Machine/UpdateOps.lean ====
section
/-! DEFINITION. Field update: slots, manifests, the command ports of the UP block, and the boot (R527–R554). -/

namespace Sys2Proof.Machine

/-! ### Slots and regions (R527, R528) -/

def slotA : Nat := 0
def slotS : Nat := 0x400000
def slotP : Nat := 0x800000

/-- Offset of region `r` in a slot (Table 12-2). -/
def regionOfs (r : Nat) : Nat :=
  if r ≤ 4 then [0, 0x2000, 0x12000, 0x32000, 0x52000].getD r 0
  else if r ≤ 10 then 0x82000 + 0x60000 * (r - 5)
  else if r = 11 then 0x2C2000
  else 0x316000

/-- Blocks of region `r` (Table 12-2). -/
def regionBlocks (r : Nat) : Nat :=
  if r ≤ 4 then [8, 64, 128, 128, 192].getD r 0 else if r = 11 then 336 else 384

/-- The block of a slot that is block `i` of region `r`. -/
def slotBlock (r i : Nat) : Nat := regionOfs r / 1024 + i

/-- An octet range is read: its marked errors are counted (R529); the answer says whether an uncorrectable one lies
in it. -/
def State.mramScan (s : State) (a n : Nat) : Bool × State :=
  let l := s.up.ecc.filter (fun (e : Nat × Option Bool) => decide (a ≤ e.1 ∧ e.1 < a + n))
  let bad := l.any (fun (e : Nat × Option Bool) => e.2 == some true)
  (bad, l.foldl (fun (u : State) (e : Nat × Option Bool) =>
    match e.2 with
    | some true => ((u.count (aUP 0x4D)).raise 646).occur 0xAB
    | some false => (u.count (aUP 0x4C)).occur 0xAA
    | none => u) s)

/-! ### The manifest (R530–R532) -/

/-- `n` octets of a list from place `a` on. -/
def part (l : List Byte) (a n : Nat) : List Byte := (l.drop a).take n

/-- The same as a number. -/
def be (l : List Byte) (a n : Nat) : Nat := octetsToNat (part l a n)

def oct (l : List Byte) (i : Nat) : Nat := (l.getD i 0).toNat

/-- Octets of a manifest. -/
def manifestLen : Nat := 4597

def State.manifest (s : State) (base : Nat) : List Byte := s.mramBytes base manifestLen

/-- The component entry at position `j`, 1 to 12 (Table 12-4). -/
def entry (m : List Byte) (j : Nat) : List Byte := part m (40 + 96 * (j - 1)) 96

def eComp (e : List Byte) : Nat := oct e 0
def eSame (e : List Byte) : Bool := decide (oct e 1 % 2 = 1)
def eLen (e : List Byte) : Nat := be e 8 4
def eIfl (e : List Byte) : Nat := be e 12 2
def eNreq (e : List Byte) : Nat := oct e 14
def eDigest (e : List Byte) : List Byte := part e 40 48

/-- The requirements of an entry: component, lowest and highest IFL. -/
def eReqs (e : List Byte) : List (Nat × Nat × Nat) :=
  (upTo (min (eNreq e) 4)).map (fun i => (oct e (16 + 6 * i), be e (18 + 6 * i) 2, be e (20 + 6 * i) 2))

def positions : List Nat := (upTo 12).map (fun i => i + 1)

/-- The entry of component `c`. -/
def entryOf (m : List Byte) (c : Nat) : Option (List Byte) :=
  (positions.map (entry m)).find? (fun e => decide (eComp e = c))

def mSigner (m : List Byte) : Nat := oct m 24
def mRaise (m : List Byte) : Bool := decide (oct m 27 % 2 = 1)
def mSvn (m : List Byte) : Nat := be m 28 4
/-- CONFWIN in minutes: 0 acts as 15. -/
def mConfWin (m : List Byte) : Nat := if be m 32 2 = 0 then 15 else be m 32 2

def allZero (l : List Byte) : Bool := l.all (fun b => decide (b = 0))

/-- The fields an entry shows as 0 are 0. -/
def entryZeros (e : List Byte) : Bool :=
  decide (oct e 1 < 2) && allZero (part e 2 2) && allZero (part e 15 1) && allZero (part e 88 8) &&
    (upTo 4).all (fun i => allZero (part e (17 + 6 * i) 1) && (decide (i < eNreq e) || allZero (part e (16 + 6 * i) 6)))

/-- Magic, format, body length, component count, and zeros (order 1). -/
def headGood (m : List Byte) : Bool :=
  decide (part m 0 4 = ascii "K16M") && decide (be m 4 2 = 1) && decide (be m 6 2 = 1192) && decide (oct m 26 = 12) &&
    decide (oct m 27 < 2) && allZero (part m 34 6) && (decide (mSigner m = 2) || decide (oct m 25 = 0)) &&
    positions.all (fun j => entryZeros (entry m j))

/-- A signer that the life cycle permits (Table 12-5). -/
def State.signerOk (s : State) (signer : Nat) : Bool :=
  match s.kv.life.val with
  | 2 => (decide (signer = 1) && decide (s.up.policy ≠ 2)) || (decide (signer = 2) && decide (s.up.policy ≠ 1))
  | 3 => (decide (signer = 1) && decide (s.up.policy ≠ 2)) || (decide (signer = 2) && decide (s.up.policy ≠ 1))
  | 5 => false
  | _ => decide (signer = 1)

/-- The keys of a manifest's signer (R474). -/
def State.manifestKeys (s : State) (m : List Byte) : Option (List Byte × List Byte) :=
  if mSigner m = 1 then some vendorKeys else s.ownerKeys

def State.ecGood (s : State) (m : List Byte) : Bool :=
  match s.manifestKeys m with
  | some k => ecVerify k.1 (sha384 (part m 0 1192)) (part m 1192 96)
  | none => false

def State.mlGood (s : State) (m : List Byte) : Bool :=
  match s.manifestKeys m with
  | some k => Config.mlVerify k.2 (ascii "K16-MAN") (part m 0 1192) (part m 1288 3309)
  | none => false

/-- The most octets of a component (order 8). -/
def compMax (c : Nat) : Nat := if c = 0 then 36864 else 1024 * regionBlocks (c + 1)

/-- The entry at position `j` passes order 8. -/
def entryGood (m : List Byte) (j : Nat) : Bool :=
  let e := entry m j
  decide (eComp e < 12) && (upTo (j - 1)).all (fun i => decide (eComp (entry m (i + 1)) ≠ eComp e)) &&
    decide (1 ≤ eLen e) && decide (eLen e ≤ compMax (eComp e)) && decide (eNreq e ≤ 4)

/-- A failed check: CAUSE and position (R542). -/
abbrev BootErr := Nat × Nat

/-- Orders 1 to 8 of Table 12-10 on a manifest. -/
def State.checkManifest (s : State) (m : List Byte) : Option BootErr :=
  if !headGood m then some (1, 0)
  else if part m 8 16 ≠ devsn ∧ allZero (part m 8 16) = false then some (2, 0)
  else if !s.signerOk (mSigner m) then some (3, 0)
  else if mSigner m = 2 ∧ oct m 25 ≠ s.kv.epoch then some (4, 0)
  else if !s.ecGood m then some (5, 0)
  else if !s.mlGood m then some (6, 0)
  else if mSvn m < s.up.svnMin.toNat then some (7, 0)
  else (positions.find? (fun j => !entryGood m j)).map (fun j => (8, j))

/-! ### The boot checks (R542, R543) -/

/-- The CAUSE and position of the first entry at positions `ps` that a check refuses. -/
def State.findBad (chk : State → List Byte → Option Nat × State) (m : List Byte) :
    List Nat → State → Option BootErr × State
  | [], s => (none, s)
  | j :: r, s =>
    match chk s (entry m j) with
    | (none, t) => State.findBad chk m r t
    | (some cause, t) => (some (cause, j), t)

/-- A non-SAME entry's digest, in the slot at `base` (order 9); 12 where its octets hold an uncorrectable error. -/
def State.digestBad (base : Nat) (s : State) (e : List Byte) : Option Nat × State :=
  if eSame e then (none, s)
  else
    let a := base + regionOfs (eComp e + 1)
    let x := s.mramScan a (eLen e)
    (if x.1 then some 12 else if eDigest e = sha384 (s.mramBytes a (eLen e)) then none else some 9, x.2)

/-- A SAME entry's digest against slot A's entry (order 10); every SAME entry is refused where `noSame` (R551). -/
def State.sameBad (noSame : Bool) (s : State) (e : List Byte) : Option Nat × State :=
  if !eSame e then (none, s)
  else
    match entryOf (s.manifest slotA) (eComp e) with
    | none => (some 10, s)
    | some a => (if noSame ∨ eDigest e ≠ eDigest a then some 10 else none, s)

/-- Orders 9 and 10 for the entries at positions `ps` of the slot at `base`. -/
def State.checkEntries (s : State) (base : Nat) (noSame : Bool) (ps : List Nat) : Option BootErr × State :=
  let m := s.manifest base
  match State.findBad (State.digestBad base) m ps s with
  | (some e, t) => (some e, t)
  | (none, t) => State.findBad (State.sameBad noSame) m ps t

/-- Verify a slot: orders 1 to 10 (R541, R542). -/
def State.verifySlot (s : State) (base : Nat) (noSame : Bool) : Option BootErr × State :=
  let x := s.mramScan base manifestLen
  if x.1 then (some (12, 0), x.2)
  else
    match x.2.checkManifest (x.2.manifest base) with
    | some e => (some e, x.2)
    | none => x.2.checkEntries base noSame positions

/-- Component `k` of the set X_j: the entry that supplies it. -/
def supplied (new old : List Byte) (j k : Nat) : Option (List Byte) :=
  match ((positions.take j).map (entry new)).find? (fun e => decide (eComp e = k)) with
  | some e => some e
  | none => entryOf old k

/-- X_j is compatible (R543). -/
def compatible (new old : List Byte) (j : Nat) : Bool :=
  (upTo 12).all (fun k =>
    match supplied new old j k with
    | none => false
    | some e =>
      (eReqs e).all (fun q =>
        decide (q.1 ≠ k) &&
        (match supplied new old j q.1 with
         | none => false
         | some c => decide (q.2.1 ≤ eIfl c) && decide (eIfl c ≤ q.2.2))))

/-- The prefix rule of the image in slot S (order 11); only X_12 where slot A's manifest does not verify. -/
def State.prefixFails (s : State) : Option BootErr :=
  let new := s.manifest slotS
  let old := s.manifest slotA
  let js := if (s.checkManifest old).isNone then positions else [12]
  (js.find? (fun j => !compatible new old j)).map (fun j => (11, j))

/-! ### Activation and restore (R544, R545, R548) -/

/-- Copy region `r` from one slot to another. -/
def State.copyRegion (s : State) (src dst r : Nat) : State :=
  s.mramWrite (dst + regionOfs r) (s.mramBytes (src + regionOfs r) (1024 * regionBlocks r))

/-- The marker is written. -/
def State.setMarker (s : State) (k : Nat) (ph : Bool) : State :=
  s.modUp (fun u => { u with marker := some (Fin.ofNat 13 k, ph) })

/-- Steps 2k and 2k + 1 of Table 12-11 for position `k`; with `saved`, A to P has been made. -/
def State.activateAt (saved : Bool) (s : State) (k : Nat) : State :=
  let e := entry (s.manifest slotS) k
  let c := eComp e
  let s1 := if saved then s else (s.copyRegion slotA slotP (c + 1)).setMarker k false
  if eSame e then s1.setMarker k true
  else
    ((s1.copyRegion slotS slotA (c + 1)).modUp (fun u => { u with moved := u.moved ++ [Fin.ofNat 12 c] })).setMarker k true

/-- Activation from the marker on, to the beginning of the trial (Table 12-11). -/
def State.activate (s : State) : State :=
  let mk := match s.up.marker with
    | some m => (m.1.val, m.2)
    | none => (0, false)
  let s1 := if mk.1 ≠ 0 ∧ mk.2 = false then State.activateAt true s mk.1 else s
  let s2 := (positions.filter (fun k => decide (mk.1 < k))).foldl (State.activateAt false) s1
  let s3 := s2.copyRegion slotS slotA 0
  let f := s3.take
  (((f.2.modUp (fun u => { u with boot := .trial, session := .none, attempts := 0, fellBack := false, marker := none })).count
    (aUP 0x4E)).occur 0xA0).occurV 0xAC (wd f.1)

/-- A restore (R548). -/
def State.restore (s : State) : State :=
  let s1 := s.up.moved.foldl (fun (u : State) (c : Fin 12) => u.copyRegion slotP slotA (c.val + 1)) s
  let s2 := s1.copyRegion slotP slotA 0
  ((s2.modUp (fun u => { u with boot := .steady, fellBack := true, attempts := 0, ctimeout := false, marker := none })).count
    (aUP 0x4F)).occur 0xA2

/-! ### The boot (R541) -/

/-- The staged image is judged: activation begins, or the session is refused. -/
def State.bootVerify (s : State) : State :=
  let x := s.verifySlot slotS s.up.noImage
  let err := match x.1 with
    | some e => some e
    | none => x.2.prefixFails
  match err with
  | none =>
    ((x.2.copyRegion slotA slotP 0).modUp (fun u => { u with boot := .copy, moved := [] })).setMarker 0 false
  | some e =>
    (x.2.modUp (fun u => { u with boot := .steady, session := .refused, cause := e.1, pos := e.2 })).occur 0xA1

/-- An activation cut off is resumed, or given up where the entries left no longer verify. -/
def State.bootResume (s : State) : State :=
  let k := match s.up.marker with
    | some m => m.1.val
    | none => 0
  let x := s.checkEntries slotS s.up.noImage (positions.filter (fun j => decide (k ≤ j)))
  match x.1 with
  | some e =>
    (x.2.modUp (fun u => { u with boot := .restore, session := .refused, cause := e.1, pos := e.2 })).occur 0xA1
  | none => (x.2.occur 0xA6).activate

/-- The record's part of a boot: verification, activation, trial and restore. -/
def State.bootRecord (s : State) (dormant : Bool) : State :=
  let s1 := if s.up.boot = .steady ∧ s.up.session = .armed then s.modUp (fun u => { u with boot := .verify })
    else if s.up.boot = .verify then s.occur 0xA7
    else s
  let s2 := if s1.up.boot = .verify then
      let t := s1.bootVerify
      if t.up.boot = .copy then t.activate else t
    else if s1.up.boot = .copy then s1.bootResume
    else s1
  let s3 := if s2.up.boot = .trial ∧ dormant = false then
      (if s2.up.attempts = 3 ∨ s2.up.ctimeout = true then s2.modUp (fun u => { u with boot := .restore })
       else s2.modUp (fun u => { u with attempts := u.attempts + 1 }))
    else s2
  if s3.up.boot = .restore then s3.restore else s3

/-- BOOT2 of a slot is loaded into the boot region and measured, and shunter 48 jumps to it (Table 02-5, R528). -/
def State.loadBoot2 (s : State) (base : Nat) : State :=
  let m := s.manifest base
  let e := (entryOf m 0).getD []
  let l := packOctets (s.mramBytes (base + regionOfs 1) (eLen e))
  let s1 := (l.zip (upTo l.length)).foldl (fun (u : State) (p : Word × Nat) => u.setCode 6 (0x1C000 + p.2) p.1) s
  let s2 := s1.modKv (fun v => { v with meas := mapPut (fun _ => []) v.meas 0 (eDigest e) })
  s2.modShunter 48 (fun x => { x with pc := 0x1C000 })

/-- The confirm window of a boot (R546, R549). -/
def State.startWindow (s : State) : State :=
  let n := mConfWin (s.manifest slotA) * 60 * cycS
  s.modUp (fun u => { u with confLeft := if u.boot = .trial then n else 0, confAt := none, warned := false })

/-- An image is loaded from slot A, restored once where A does not verify; otherwise none is (R551). -/
def State.bootFromA (s : State) : State :=
  let a := s.verifySlot slotA false
  let done := fun (t : State) => (t.modUp (fun u => { u with noImage := false })).startWindow.loadBoot2 slotA
  match a.1 with
  | none => done a.2
  | some _ =>
    let p := a.2.verifySlot slotP false
    let t := if p.1.isNone then p.2.restore else p.2
    let b := if p.1.isNone then t.verifySlot slotA false else (a.1, t)
    match b.1 with
    | none => done b.2
    | some _ => (b.2.modUp (fun u => { u with noImage := true })).startWindow

/-- Slot P verifies with an SVN at or above the floor (R550). -/
def State.recoverable (s : State) : Bool × State :=
  let p := s.verifySlot slotP false
  (p.1.isNone && decide (s.up.svnMin.toNat ≤ mSvn (s.manifest slotP)), p.2)

/-- A boot (R541, R549–R551): `recovery` is a boot after a RESET_N hold of 8 s to 15 s, `dormant` one on exit from
DORMANT. The boot ROM has enabled the PCIe link (R753). -/
def State.bootRom (s : State) (recovery dormant : Bool) : State :=
  let s0 := (s.modUp (fun u => { u with fromP := false, confLeft := 0, confAt := none })).setRegFld (aHC 0) 23 23 1
  if s0.kv.life = 5 then s0
  else
    let r := if recovery then s0.recoverable else (false, s0)
    if r.1 then
      ((((r.2.modUp (fun u => { u with fromP := true, noImage := false })).modPw (fun p => { p with recov := true })).occur
        0xAD).loadBoot2 slotP).setMode .maintenance
    else (r.2.bootRecord dormant).bootFromA

/-! ### Command ports (R538–R540) -/

/-- Register `o` of port `p`. -/
def aUPort (p : Fin 2) (o : Nat) : Nat := aUP (8 * p.val + o)

def State.upBusy (s : State) (p : Fin 2) : Bool := bit (s.reg (aUPort p 1)) 23

/-- A command of port `p` completes. -/
def State.upDone (s : State) (p : Fin 2) (st : Status) (detail : Nat) : State :=
  let t := s.setReg (aUPort p 1) (wd (stCode st * 2 ^ 19 + detail * 2 ^ 8))
  if bit (s.reg (aUPort p 0)) 17 then t.raise (643 + p.val) else t

/-- A write of UP_CMD. -/
def State.upCmd (s : State) (p : Fin 2) (v : Word) : State :=
  let t := s.plainWrite (aUPort p 0) v
  if fld v 23 18 = 0 ∨ 8 < fld v 23 18 then t.upDone p .badarg 0
  else (t.setReg (aUPort p 1) 0x800000).modUp (fun u => { u with order := u.order ++ [p] })

/-- A store to the UP block. -/
def State.upWrite (s : State) (src : Src) (a : Nat) (v : Word) : Status × State :=
  let o := a - blk 10
  let p : Fin 2 := if o < 8 then 0 else 1
  if o < 0x10 then
    (if p = 1 ∧ src ≠ .host then (.denied, s)
     else if s.upBusy p then (.busy, s)
     else if o % 8 = 0 then (.ok, s.upCmd p v)
     else (.ok, s.plainWrite a v))
  else if o = 0x18 then
    (.ok, if s.kv.life = 2 then s.modUp (fun u => { u with policy := BitVec.ofNat 2 (fld v 1 0) }) else s)
  else (.ok, s.plainWrite a v)

/-! ### The session (R534–R536) -/

/-- Regions of a mask. -/
def maskRegions (m : BitVec 13) : List Nat := (upTo 13).filter (fun r => m.getLsbD r)

def State.regionCount (s : State) (r : Nat) : Nat := mapGet (fun _ => 0) s.up.counts r
def State.blockSet (s : State) (b : Nat) : Bool := mapGet (fun _ => false) s.up.blocks b

/-- Every region of the mask has its COUNT known and all its blocks set. -/
def State.sessionFull (s : State) : Bool :=
  (maskRegions s.up.mask).all (fun r =>
    decide (s.regionCount r ≠ 0) && (upTo (s.regionCount r)).all (fun i => s.blockSet (slotBlock r i)))

/-- The outcome of a command: STATUS, DETAIL and the state. -/
abbrev UpRes := Status × Nat × State

/-- A command not listed for the session's state. -/
def upState (s : State) : UpRes := (.state, 0, s)

def State.upOpen (s : State) (p : Fin 2) : UpRes :=
  let m := BitVec.ofNat 13 (fld (s.reg (aUPort p 3)) 12 0)
  if s.up.session ≠ .none then upState s
  else if m = 0 then (.badarg, 0, s)
  else
    (.ok, 0, s.modUp (fun u =>
      { u with session := .opened, sid := s.reg (aUPort p 2), mask := m, counts := [], blocks := [] }))

/-- A block record is refused (R535). -/
def State.blockRefuse (s : State) (st : Status) : UpRes := (st, 0, (s.count (aUP 0x4B)).occur 0xA5)

/-- A block record refused by its CRC. -/
def State.blockCrc (s : State) : UpRes :=
  let t := (s.count (aUP 0x4A)).occur 0xA4
  (.fault, 0, if t.up.crcTold then t else (t.modUp (fun u => { u with crcTold := true })).raise 642)

/-- A block record that passed is written, read back and marked (R536). -/
def State.blockStore (s : State) (r i count : Nat) (data : List Byte) (readBackOk : Bool) : UpRes :=
  let b := slotBlock r i
  let t := s.modUp (fun u => { u with counts := mapPut (fun _ => 0) u.counts r count })
  if t.blockSet b then (.ok, 1, t.count (aUP 0x49))
  else
    let w := t.mramWrite (slotS + 1024 * b) data
    if readBackOk then
      let x := (w.modUp (fun u => { u with blocks := mapPut (fun _ => false) u.blocks b true })).count (aUP 0x48)
      (.ok, 0, if x.sessionFull then (x.modUp (fun u => { u with session := .complete })).raise 641 else x)
    else (.fault, 0, w.occur 0xAB)

/-- WRBLK: the checks of Table 12-8, then the block; `readBackOk` is what the read-back shows. -/
def State.upBlock (s : State) (p : Fin 2) (readBackOk : Bool) : UpRes :=
  let a := (s.reg (aUPort p 4)).toNat
  let l := s.mainOctets a 1036
  let r := oct l 3
  let i := be l 4 2
  let count := be l 6 2
  if s.up.session ≠ .opened ∧ s.up.session ≠ .complete then s.blockRefuse .state
  else if a < baseMain ∨ 2 ^ 24 < a + 346 then s.blockRefuse .badarg
  else if !(s.on (if a < 0xA00000 then dMSTORE0 else dMSTORE1) && s.on (if a + 345 < 0xA00000 then dMSTORE0 else dMSTORE1)) then
    s.blockRefuse .state
  else if natToOctets 4 (crc32Of (l.take 1032)).toNat ≠ l.drop 1032 then s.blockCrc
  else if be l 0 3 ≠ s.up.sid.toNat then s.blockRefuse .denied
  else if 12 < r ∨ s.up.mask.getLsbD r = false ∨ count = 0 ∨ regionBlocks r < count ∨
      (s.regionCount r ≠ 0 ∧ s.regionCount r ≠ count) ∨ count ≤ i then s.blockRefuse .badarg
  else s.blockStore r i count (part l 8 1024) readBackOk

def State.upAbort (s : State) : UpRes :=
  if s.up.session = .none then upState s else (.ok, 0, s.modUp (fun u => { u with session := .none }))

def State.upArm (s : State) : UpRes :=
  if s.up.session = .complete ∧ s.up.boot = .steady then (.ok, 0, s.modUp (fun u => { u with session := .armed }))
  else upState s

def State.upDisarm (s : State) : UpRes :=
  if s.up.session = .armed then (.ok, 0, s.modUp (fun u => { u with session := .complete })) else upState s

/-- CONFIRM (R547). -/
def State.upConfirm (s : State) : UpRes :=
  if s.up.boot ≠ .trial then upState s
  else
    let m := s.manifest slotA
    let floor := if mRaise m then BitVec.ofNat 32 (max (mSvn m) s.up.svnMin.toNat) else s.up.svnMin
    (.ok, 0, ((s.modUp (fun u =>
      { u with boot := .steady, attempts := 0, ctimeout := false, svnMin := floor, confLeft := 0, confAt := none })).occurV 0xA9
        (wd s.up.attempts)).occur 0xA3)

/-- ROLLBACK (R550). -/
def State.upRollback (s : State) : UpRes :=
  if s.up.fromP = true ∧ s.up.boot = .steady then (.ok, 0, (s.modUp (fun u => { u with boot := .restore })).occur 0xAE)
  else upState s

/-- CLRREG (Table 12-7). -/
def State.upClear (s : State) (p : Fin 2) : UpRes :=
  let r := fld (s.reg (aUPort p 3)) 3 0
  if s.up.session = .none ∨ s.up.session = .armed then upState s
  else if 12 < r then (.badarg, 0, s)
  else
    let lo := slotBlock r 0
    (.ok, 0, s.modUp (fun u =>
      { u with session := .opened, counts := mapDel u.counts r,
               blocks := mapDrop (fun b => decide (lo ≤ b ∧ b < lo + regionBlocks r)) u.blocks }))

/-- Modes in which port `p` takes a command (Table 12-9, R540). -/
def State.upMode (s : State) (p : Fin 2) (op : Nat) : Bool :=
  match s.pw.mode with
  | .start => decide (p = 1) && decide (op ≠ 6) && decide (op ≠ 7)
  | .provision => decide (op ≠ 6) && decide (op ≠ 7)
  | .service => decide (op ≠ 7)
  | .island => decide (op ≠ 7)
  | .maintenance => decide (op ≠ 6)
  | _ => false

/-! ### Registers (Tables 12-13 and 12-14) -/

def Session.code : Session → Nat
  | .none => 0 | .opened => 1 | .complete => 2 | .armed => 3 | .refused => 4

def BootState.code : BootState → Nat
  | .steady => 0 | .verify => 1 | .copy => 2 | .trial => 3 | .restore => 4

/-- Core cycles left of the confirm window. -/
def State.confNow (s : State) : Nat := (s.up.holdWindow s.now).confLeft

/-- UP_BOOT. -/
def Update.word (u : Update) : Word :=
  let mk := match u.marker with
    | some m => m.1.val * 2 ^ 9 + b2n m.2 * 2 ^ 8
    | none => 0
  wd (u.boot.code * 2 ^ 21 + u.attempts * 2 ^ 19 + b2n u.fromP * 2 ^ 18 + b2n u.fellBack * 2 ^ 17 + b2n u.noImage * 2 ^ 16 +
    b2n u.ctimeout * 2 ^ 15 + mk)

/-- Component `k`'s version in slot A. -/
def State.versionWord (s : State) (k : Nat) : Word :=
  match entryOf (s.manifest slotA) k with
  | some e => wd (be e 4 3)
  | none => 0

/-- Word `k` of the received-block bitmap. -/
def State.bitmapWord (s : State) (k : Nat) : Word :=
  wd ((upTo 24).foldl (fun n i => n + (if s.blockSet (24 * k + i) then 2 ^ (23 - i) else 0)) 0)

/-- A read of UP_RDATA (R553). -/
def State.upData (s : State) : Word × State :=
  let a := (s.reg (aUP 0x40)).toNat
  let x := (s.mramScan a (min 3 (0xC00000 - a))).2
  let o := fun (i : Nat) => if a + i < 0xC00000 then s.mramByte (a + i) else 0
  (o 0 ++ o 1 ++ o 2, x.setReg (aUP 0x40) (wd (a + 3)))

/-- A load from the UP block. -/
def State.upRead (s : State) (a : Nat) : Word × State :=
  let o := a - blk 10
  let u := s.up
  if o = 0x10 then (wd (u.session.code * 2 ^ 21 + u.mask.toNat), s)
  else if o = 0x11 then (u.sid, s)
  else if o = 0x12 then (wd u.blocks.length, s)
  else if o = 0x13 then (wd ((upTo 13).foldl (fun n r => n + s.regionCount r) 0), s)
  else if o = 0x14 then (u.word, s)
  else if o = 0x15 then (wd (u.cause * 2 ^ 20 + u.pos * 2 ^ 16), s)
  else if o = 0x16 then (wd (mConfWin (s.manifest slotA) % 2 ^ 11), s)
  else if o = 0x17 then (wd (ceilDiv s.confNow cycS), s)
  else if o = 0x18 then (wd u.policy.toNat, s)
  else if o = 0x19 then (wd (u.svnMin.toNat / 2 ^ 24), s)
  else if o = 0x1A then (wd u.svnMin.toNat, s)
  else if 0x20 ≤ o ∧ o < 0x2D then (wd (s.regionCount (o - 0x20)), s)
  else if 0x30 ≤ o ∧ o < 0x3C then (s.versionWord (o - 0x30), s)
  else if o = 0x41 then s.upData
  else if o = 0x4A then (s.plainRead a).map id (fun t => t.modUp (fun u => { u with crcTold := false }))
  else if 0x100 ≤ o then (s.bitmapWord (o - 0x100), s)
  else s.plainRead a

end Sys2Proof.Machine
end

