-- ==== Sys2Proof/Machine/YardRegs.lean ====
section
/-! DEFINITION. The yard's registers and queue descriptors (R389–R391, R400, R401, R405, R413–R416, Tables 09-8 to
09-10). -/

namespace Sys2Proof.Machine

/-! ### Queue descriptors -/

/-- Why QCTL.EN = 1 is refused (R390). -/
def State.enableCheck (s : State) (q : Nat) (v : Word) : Status :=
  let kind := fld v 22 21
  let egr := fld v 5 0
  let base := fld (s.reg (aQ q 1)) 13 0
  let size := fld (s.reg (aQ q 2)) 14 0
  if kind = 3 then .badarg
  else if isNodeQueue q = true ∧ (kind ≠ 0 ∨ 15 < egr) then .badarg
  else if isNodeQueue q = false ∧ kind = 0 ∧ (egr < 0x20 ∨ 0x23 < egr) then .badarg
  else if kind ≠ 0 ∧ (size = 0 ∨ 16384 < base + size) then .badarg
  else if kind ≠ 0 ∧ 4096 ≤ s.wordQueues then .full
  else .ok

/-- The queue holds a wagon or a packet. -/
def State.holdsAny (s : State) (q : Nat) : Bool :=
  if s.qKind q = 0 then !(s.wagonsOf q).isEmpty else !(s.wordQ q).packets.isEmpty

/-- A write of QCTL (R390, R391). A word queue that is enabled begins empty. -/
def State.qctlStore (s : State) (q : Nat) (v : Word) : Status × State :=
  let old := s.qctl q
  if bit old 23 then
    if fld old 22 21 ≠ fld v 22 21 ∨ fld old 5 0 ≠ fld v 5 0 then (.state, s)
    else if !bit v 23 && s.holdsAny q then (.state, s)
    else (.ok, s.setReg (aQ q 0) v)
  else if bit v 23 then
    match s.enableCheck q v with
    | .ok =>
      let t := s.setReg (aQ q 0) v
      (.ok, if fld v 22 21 = 0 then t else t.setWordQ q { last := (s.wordQ q).last })
    | st => (st, s)
  else (.ok, s.setReg (aQ q 0) v)

/-- A store to a queue descriptor. -/
def State.qdwWrite (s : State) (a : Nat) (v : Word) : Status × State :=
  let q := (a - baseQDW) / 8
  match (a - baseQDW) % 8 with
  | 0 => s.qctlStore q v
  | 1 | 2 => if s.qEn q then (.state, s) else (.ok, s.plainWrite a v)
  | 7 => if 95 < fld v 6 0 then (.badarg, s) else (.ok, s.plainWrite a v)
  | _ => (.ok, s)

/-- A load from a queue descriptor. -/
def State.qdwRead (s : State) (a : Nat) : Word × State :=
  let q := (a - baseQDW) / 8
  match (a - baseQDW) % 8 with
  | 3 => (wd (if s.qKind q = 0 then (s.wagonsOf q).length else (s.wordQ q).used), s)
  | 4 =>
    (wd (if s.qKind q = 0 then (match s.wagonsOf q with
        | w :: _ => b2n w.taken * 2 ^ 23
        | [] => 0)
      else (s.wordQ q).packets.length), s)
  | _ => s.plainRead a

/-! ### The YD block -/

/-- A write of YD_CELLBASE or YD_CELLCNT (R400). -/
def State.cellRange (s : State) (a : Nat) (v : Word) : Status × State :=
  let t := s.plainWrite a v
  if bit (s.reg (aYD 0)) 23 then (.state, s)
  else if 196608 < t.cellBase + t.cellCount then (.badarg, s)
  else (.ok, t)

/-- A write of YD_CELLINIT (R400, R401). A GO clears INITDONE until the run completes (DEDUCED, log 22). -/
def State.cellInit (s : State) (v : Word) : Status × State :=
  if !bit v 0 then (.ok, s)
  else if bit (s.reg (aYD 0)) 23 then (.state, s)
  else if s.yd.initRun then (.busy, s)
  else (.ok, s.modYd (fun y => { y with initRun := true, initDone := false }))

/-- A write of YD_CTL (R401). -/
def State.ydCtl (s : State) (v : Word) : Status × State :=
  if bit v 23 && !s.yd.initDone then (.state, s) else (.ok, s.plainWrite (aYD 0) v)

/-- A write of YD_HCMD (R405): BUSY, or BADARG at once for an OP that Table 09-4 does not have. -/
def State.hostCmd (s : State) (v : Word) : State :=
  let t := s.setReg (aYD 0x100) v
  let op := fld v 23 20
  if op = 0 ∨ 10 < op then t.setReg (aYD 0x102) (wd (2 * 2 ^ 19))
  else t.modYd (fun y => { y with hostBusy := true })

def State.shAddr (s : State) : Nat := fld (s.reg (aYD 0x200)) 13 0

/-- A write of a shaper word goes to the shadow (R413). -/
def State.shaperStore (s : State) (k : Nat) (v : Word) : State :=
  let x := s.shaper s.shAddr
  s.setShaper s.shAddr (match k with
    | 1 => { x with newIdle := some (fld v 19 0) }
    | 2 => { x with newSend := some (fld v 19 0) }
    | 3 => { x with newBurst := some (fld v 22 0) }
    | _ => { x with newCredit := some (signed 24 v.toNat) })

/-- A shaper word as it reads: the values in force and the live credit. -/
def State.shaperWord (s : State) (k : Nat) : Word :=
  let x := s.shaper s.shAddr
  match k with
  | 1 => wd x.idle
  | 2 => wd x.send
  | 3 => wd x.burst
  | _ => BitVec.ofInt 24 x.credit

def State.mlAddr (s : State) : Nat := fld (s.reg (aYD 0x300)) 11 0
def State.repList (s : State) (l : Nat) : RepList := mapGet (fun _ => {}) s.yd.lists l
def State.setRepList (s : State) (l : Nat) (r : RepList) : State :=
  s.modYd (fun y => { y with lists := mapPut (fun _ => {}) y.lists l r })

/-- YD_MLIDX, and its advance after a YD_MLDATA access. -/
def State.mlIdx (s : State) : Nat := fld (s.reg (aYD 0x303)) 5 0
def State.mlNext (s : State) : State := s.setReg (aYD 0x303) (wd ((s.mlIdx + 1) % 64))

/-- A write of a replication list register. -/
def State.listStore (s : State) (k : Nat) (v : Word) : State :=
  let l := s.mlAddr
  let r := s.repList l
  match k with
  | 1 => s.setRepList l { r with count := fld v 6 0 }
  | 2 => s.setRepList l { r with cq := fld v 17 0 }
  | _ => (s.setRepList l { r with targets := mapPut (fun _ => 0) r.targets s.mlIdx (fld v 17 0) }).mlNext

/-- A read of a replication list register. -/
def State.listLoad (s : State) (k : Nat) : Word × State :=
  let r := s.repList s.mlAddr
  match k with
  | 1 => (wd r.count, s)
  | 2 => (wd r.cq, s)
  | _ => (wd (mapGet (fun _ => 0) r.targets s.mlIdx), s.mlNext)

/-! ### Gate list registers (R415, R416) -/

def aGL (e k : Nat) : Nat := aYD (0x400 + 0x10 * e + k)

def State.glNent (s : State) (e : Nat) : Nat := fld (s.reg (aGL e 4)) 10 0

/-- COMMIT (R415, R416). -/
def State.glCommit (s : State) (e : Nat) : Status × State :=
  let g := s.gate e
  let n := s.glNent e
  let l := listWords g.pend n
  let refused := (s.count (aYD 0x26)).occur 0x77
  if g.armed.isSome then (.state, refused)
  else if 1024 < n ∨ l.any (fun w => decide (gateLen w = 0)) = true then (.badarg, refused)
  else
    let f := s.take
    let t := takeTime (long (s.reg (aGL e 2)) (s.reg (aGL e 3))) s.shortTime (cycleOf l) f.1
    (.ok, (if cycleOf l = 0 then f.2 else s).setGate e { g with armed := some t, take := t })

/-- CANCEL (R416): too late at the tick of T. -/
def State.glCancel (s : State) (e : Nat) : Status × State :=
  let g := s.gate e
  match g.armed with
  | none => (.state, s)
  | some t => if after t s.shortTime then (.ok, s.setGate e { g with armed := none }) else (.state, s)

def State.glAddr (s : State) (e : Nat) : Nat := fld (s.reg (aGL e 5)) 9 0
def State.glNext (s : State) (e : Nat) : State := s.setReg (aGL e 5) (wd ((s.glAddr e + 1) % 1024))

/-- A write of a gate list register. -/
def State.glStore (s : State) (e k : Nat) (v : Word) : Status × State :=
  let g := s.gate e
  if k = 0 then
    if bit v 23 then s.glCommit e else if bit v 22 then s.glCancel e else (.ok, s)
  else if k = 1 ∨ 7 ≤ k then (.ok, s)
  else if g.armed.isSome then (.state, s)
  else if k = 6 then (.ok, (s.setGate e { g with pend := mapPut zeroWord g.pend (s.glAddr e) v }).glNext e)
  else (.ok, s.plainWrite (aGL e k) v)

/-- A read of a gate list register. -/
def State.glLoad (s : State) (e k : Nat) : Word × State :=
  let g := s.gate e
  match k with
  | 1 => (wd (b2n g.armed.isSome * 2 ^ 22 + g.entries), s)
  | 6 => (mapGet zeroWord g.pend (s.glAddr e), s.glNext e)
  | 7 => (hiWord g.take, s)
  | 8 => (loWord g.take, s)
  | _ => s.plainRead (aGL e k)

/-! ### The block -/

/-- A store to the YD block. -/
def State.ydWrite (s : State) (a : Nat) (v : Word) : Status × State :=
  let o := a - blk 7
  if o = 0 then s.ydCtl v
  else if o = 2 ∨ o = 3 then s.cellRange a v
  else if o = 4 then s.cellInit v
  else if 8 ≤ o ∧ o < 0xB then (.ok, State.poolsChanged s (s.plainWrite a v))
  else if 0x100 ≤ o ∧ o < 0x180 then
    (.ok, if s.yd.hostBusy then s else if o = 0x100 then s.hostCmd v else s.plainWrite a v)
  else if 0x201 ≤ o ∧ o < 0x205 then (.ok, s.shaperStore (o - 0x200) v)
  else if o = 0x301 ∨ o = 0x302 ∨ o = 0x304 then (.ok, s.listStore (o - 0x300) v)
  else if 0x400 ≤ o then s.glStore ((o - 0x400) / 16) (o % 16) v
  else (.ok, s.plainWrite a v)

/-- A load from the YD block. -/
def State.ydRead (s : State) (a : Nat) : Word × State :=
  let o := a - blk 7
  if o = 1 then (wd (b2n s.yd.initDone * 2 ^ 23 + b2n s.yd.initRun * 2 ^ 22 + s.wordQueues), s)
  else if o = 5 then (wd s.yd.cellFree, s)
  else if o = 6 then (wd s.wagFree, s)
  else if 0x10 ≤ o ∧ o < 0x13 then (wd (s.used (o - 0x10)), s)
  else if o = 0x20 then (s.plainRead a).map id (fun t => t.modYd (fun y => { y with fullTold := false }))
  else if o = 0x2A then (wd (s.yd.multicasts.filter (fun e => e.2.isSome)).length, s)
  else if o = 0x102 then (setBit (s.reg a) 23 s.yd.hostBusy, s)
  else if 0x201 ≤ o ∧ o < 0x205 then (s.shaperWord (o - 0x200), s)
  else if o = 0x301 ∨ o = 0x302 ∨ o = 0x304 then s.listLoad (o - 0x300)
  else if 0x400 ≤ o then s.glLoad ((o - 0x400) / 16) (o % 16)
  else s.plainRead a

/-! ### Ticks -/

/-- CELLINIT completes (R401). -/
def State.cellsReady (s : State) : State :=
  (s.modYd (fun y => { y with cells := [], used := [], cellFree := s.cellCount, initRun := false, initDone := true })).raise 423

/-- One refill tick of every shaper (R411, R413). -/
def State.refill (s : State) : State :=
  let busy := fun (n : Nat) => s.yd.sentSince.any (fun q => decide (s.boundShaper q = some n))
  let t := s.yd.shapers.foldl (fun u e => u.setShaper e.1 (e.2.tick (busy e.1))) s
  t.modYd (fun y => { y with refillAt := y.refillAt + 3072, sentSince := y.sending })

/-- A gate list takes over at T (R416). -/
def State.takeOver (s : State) (e : Nat) (t : Long) : State :=
  let g := s.gate e
  ((s.setGate e { g with active := g.pend, pend := g.active, entries := s.glNent e, start := t, armed := none }).raise
    (424 + e)).occur 0x76

end Sys2Proof.Machine
end

