-- ==== Sys2Proof/Machine/Power.lean ====
section
/-! DEFINITION. The power controller: domains going off and on, resets, DORMANT and KEEPALIVE, requests, and the PW
registers (R623–R650, R660). -/

namespace Sys2Proof.Machine

/-! ### What a domain holds (Table 15-3, R631, R632) -/

/-- The registers of a domain take their reset values; those that `keep` names stay. -/
def State.dropRegs (s : State) (d : Nat) (keep : Nat → Bool) : State :=
  { s with
    regs := mapDrop (fun a => decide (wordDomain a = d) && !keep a) s.regs,
    locked := mapDrop (fun a => decide (wordDomain a = d) && !keep a) s.locked }

/-- The readings of a domain's temperature sensors. -/
def State.dropTemps (s : State) (d : Nat) : State :=
  s.modHm (fun h =>
    { h with temps := mapDrop (fun i => decide (sensorDomain i = d)) h.temps,
             tripRuns := mapDrop (fun i => decide (sensorDomain i = d)) h.tripRuns })

/-- Keys of a depot's memories of `n` words each. -/
def inDepot (d n k : Nat) : Bool := decide (k / n = d)

/-- A depot's shunters, memories, records and tokens (R134, R754). -/
def State.clearDepot (s : State) (d : Nat) : State :=
  let t := s.modDp (fun q =>
    { q with
        records := q.records.filter (fun r => decide (r.depot.val ≠ d)),
        lastTook := mapDrop (fun k => decide (k / 1024 = d)) q.lastTook,
        signals := (q.signals.filter (fun e => decide (depotOf e.src ≠ d))).map (fun e =>
          { e with todo := e.todo.filter (fun x => decide (x.val ≠ d)) }),
        tokens := mapDrop (fun k => decide (k / 32 = d)) q.tokens,
        codeEcc := mapDrop (inDepot d 131072) q.codeEcc })
  { t with
    shunters := mapDrop (fun k => decide (k / 8 = d)) t.shunters,
    code := mapDrop (inDepot d 131072) t.code,
    scratch := mapDrop (inDepot d 16384) t.scratch,
    locals := mapDrop (fun k => decide (k / 131072 = d)) t.locals }

/-- The vault but its fuses, its records in MRAM and what the last power-up derived (R521). -/
def Vault.cleared (v : Vault) : Vault :=
  { fManuf := v.fManuf, fProv := v.fProv, fEpoch := v.fEpoch, fDepl := v.fDepl, fReturn := v.fReturn, fDecom := v.fDecom,
    life := v.life, epoch := v.epoch, owners := v.owners, ownerTags := v.ownerTags, helper := v.helper,
    wrapKept := v.wrapKept, test := v.test }

/-- A domain's contents beside its registers are lost. -/
def State.clearUnit (s : State) (d : Nat) : State :=
  if 6 ≤ d ∧ d < 14 then s.clearDepot (d - 6)
  else
    match d with
    | 0 => (s.modRtc (fun _ => {})).modPw (fun p => { p with noteVbat := false, noteDisc := false })
    | 2 => s.nfcPowerOff
    | 3 => s.modKv Vault.cleared
    | 4 => (s.modFe (fun f => { f with staging := [], committing := false })).modUp (fun u =>
        { u with order := [], crcTold := false })
    | 5 => (s.modSc (fun _ => {})).modRtc (fun r => { r with staged := if r.staged = some true then none else r.staged })
    | 14 => { s with main := mapDrop (fun a => decide (a < 0xA00000)) s.main }
    | 15 => { s with main := mapDrop (fun a => decide (0xA00000 ≤ a)) s.main }
    | 16 => s.modPt (fun _ => {})
    | 17 => (s.modYd (fun _ => {})).bhSharedUp
    | 18 => s.modSb (fun _ => {})
    | 19 => s.modRadio .a (fun r => { r with tuneAt := none, ePend := none })
    | 20 => s.modRadio .b (fun r => { r with tuneAt := none, ePend := none })
    | 21 => s.modRadio .a (fun r => { tuneAt := r.tuneAt, ePend := r.ePend })
    | 22 => s.modRadio .b (fun r => { tuneAt := r.tuneAt, ePend := r.ePend })
    | 25 => s.modLanes (fun l => { lanes := mapDrop (fun n => decide (n < 256)) l.lanes })
    | 26 => s.modLanes (fun l => { l with lanes := mapDrop (fun n => decide (256 ≤ n)) l.lanes })
    | 30 => s.modHc (fun h => { usb := { vbus := h.usb.vbus }, nfc := h.nfc, pins := h.pins, tap := h.tap })
    | 31 => { s with dram := [] }.modDp (fun q => { q with freight := [] })
    | _ => s

/-- A domain that carries no power any more. -/
def State.clearDomain (s : State) (d : Nat) : State := ((s.dropRegs d (fun _ => false)).dropTemps d).clearUnit d

/-- What the units do as a domain is turned off by request: tokens released, launches and receptions ended, requests
that wait there answered with STATE, the path OFF (R149, R217, R338, R459, R754). -/
def State.offActions (s : State) (d : Nat) : State :=
  if 6 ≤ d ∧ d < 14 then
    (upTo 8).foldl (fun (u : State) p =>
      let sh := shOf (d - 6) p
      (u.shunter sh).held.foldl (fun (v : State) t => v.release t) (u.withdraw sh)) s
  else
    let silence := fun (u : State) (bd : Band) => ((u.modRadio bd (fun r => { r with paEn := false })).dropOnAir bd).dropArmed bd
    match d with
    | 3 => (upTo 8).foldl (fun (u : State) k => u.wakeVault k 0 .state) s
    | 4 => s.cutSnapshot
    | 5 => s.sbStop 4
    | 16 => (upTo 8).foldl (fun (u : State) k => u.wakePoints k 0 .state) s
    | 19 => (silence s .a).endLanes .a 5
    | 20 => (silence s .b).endLanes .b 5
    | 21 => silence s .a
    | 22 => silence s .b
    | 23 => s.endLanes .a 5
    | 24 => s.endLanes .b 5
    | 28 => s.portOff .a
    | 29 => s.portOff .b
    | _ => s

/-- The domains that carry power. -/
def State.setOn (s : State) (d : Nat) (b : Bool) : State :=
  let m : BitVec 32 := BitVec.ofNat 32 (2 ^ d)
  s.modPw (fun p => { p with don := if b then p.don ||| m else p.don &&& ~~~m })

/-- A domain is turned off by request. -/
def State.domainOff (s : State) (d : Nat) : State := ((s.offActions d).setOn d false).clearDomain d

/-! ### Powering up -/

/-- The vault at power-up: the life cycle from the fuses, the check of the owner record's tag (R471, R475, R477, R483,
R506). -/
def State.vaultPowerUp (s : State) : State :=
  let e := s.kv.fEpoch
  let has := decide (1 ≤ e)
  let good := has && decide (mapGet (fun _ => []) s.kv.ownerTags e = hmac384 ownerKey (s.ownerRec e)) &&
    !(s.ownerRec e).isEmpty
  let t := s.modKv (fun v =>
    { v with life := v.fuseLife, epoch := e, ownerOk := good, wrapNext := v.wrapKept, entAt := s.now })
  if has && !good then t.occur 0x9E else t

/-- What a domain does as it powers up; `ret` says that it leaves retention. -/
def State.upActions (s : State) (d : Nat) (ret : Bool) : State :=
  match d with
  | 2 => s.nfcPowerUp
  | 3 => s.vaultPowerUp
  | 5 => s.scPowerUp
  | 16 => if ret then s.tablesRetained else s
  | 17 => s.modYd (fun y => { y with refillAt := s.now, histAt := s.now })
  | 18 => s.modSb (fun b => { b with creditAt := s.now })
  | 19 => s.loadRegion .a
  | 20 => s.loadRegion .b
  | 21 => s.loadRegion .a
  | 22 => s.loadRegion .b
  | 25 => s.modLanes (fun l => { l with sampleAt := s.now })
  | 28 => s.portPowerUp .a
  | 29 => s.portPowerUp .b
  | 30 => s.hostPowerUp
  | _ => s

/-- A domain powers up, or leaves retention. -/
def State.domainOn (s : State) (d : Nat) : State :=
  let ret := s.pw.dret.getLsbD d
  let t := (s.setOn d true).modPw (fun p =>
    { p with dret := p.dret &&& ~~~(BitVec.ofNat 32 (2 ^ d)), onAt := mapPut (fun _ => 0) p.onAt d s.now })
  t.upActions d ret

/-- DEPOT6 powered up outside a reset: no boot ROM overlay, no profiles of shunter 48 (R134). -/
def State.depot6Plain (s : State) : State :=
  ((s.setReg (aDP 6 0) 0).setReg (aDP 6 0x44) 0).setReg (aDP 6 0x45) 0

/-- Domains that START powers (Table 15-3). -/
def startDomains : List Nat := (upTo 17).map (fun i => i + 2) ++ [30, 31]

/-- The START domains that are not on power up. -/
def State.powerStart (s : State) : State :=
  (startDomains.filter (fun d => !s.on d)).foldl (fun (u : State) d => u.domainOn d) s

/-! ### The recorder and the wear counts (R641, R668, R680, R688) -/

/-- HM registers that a reset leaves: the ring's place, the last prediction, and the monitors' D0. -/
def hmKept (a : Nat) : Bool :=
  let o := a - blk 12
  decide (o = 6) || decide (o = 7) || decide (o = 0x27) || decide (o = 0x28) || (decide (0x60 ≤ o ∧ o < 0xC0) && decide (o % 4 = 2))

/-- The slots of valid headers in the ring, with their sequence numbers. -/
def State.ringHeaders (s : State) : List (Nat × Nat) :=
  ((upTo 8192).filter (fun n => s.slotValid n && decide (fld (s.slotWord n 0) 15 14 = 3))).map (fun n =>
    (n, (s.slotWord n 1).toNat))

/-- The first slot from `n` on, at most `k` further, that holds no valid record of sequence `seq`. -/
def State.ringEnd (s : State) (seq : Nat) : Nat → Nat → Nat
  | 0, n => n
  | k + 1, n =>
    if s.slotValid n && decide ((s.slotWord n 62).toNat = seq) && decide (fld (s.slotWord n 0) 15 14 ≠ 3) then
      s.ringEnd seq k ((n + 1) % 8192)
    else n

/-- HM_RINGHEAD and HM_SNAPSEQ as the ring gives them (R680). -/
def State.rebuildRing (s : State) : State :=
  match s.ringHeaders with
  | [] => s
  | h :: r =>
    let b := r.foldl (fun (x : Nat × Nat) y => if x.2 < y.2 then y else x) h
    (s.setReg (aHM 6) (wd b.2)).setReg (aHM 7) (wd (s.ringEnd b.2 8191 ((b.1 + 1) % 8192)))

/-- AON after a loss of its power: the recorder empty, the wear counts from the committed ones (R668, R680, R688). -/
def State.aonLost (s : State) : State :=
  let keep := fun (a : Nat) => decide (a = aHM 0x27) || decide (a = aHM 0x28) || (hmKept a && decide (0x60 ≤ a - blk 12))
  let t := (s.dropRegs dAON keep).modHm (fun h =>
    { h with
        records := [], configs := [], buckets := [], pending := [], suppTold := false, temps := [], tripRuns := [],
        coolRun := 0, twarned := false, lastStamp := none, unsent := [],
        monitors := h.monitors.map (fun e => (e.1, { e.2 with valid := false, d := 0, warned := false })),
        sectors := h.sectors.map (fun e =>
          (e.1, { e.2 with live := min (e.2.committed + 4096) (2 ^ 32 - 1), inc := 0, warned := false })) })
  t.rebuildRing

/-! ### Reset (R640–R646) -/

/-- PW_SSC through a reset: CORE_EN is cleared (R641). -/
def State.sscKept (s : State) : Word := setFld (s.reg (aPW 6)) 23 23 0

/-- The PW, HM and GWD registers at a reset; those of R641 stay. The wake words of the ports stay on exit from
DORMANT (R467). -/
def State.aonReset (s : State) (c : BitVec 4) : State :=
  let ssc := s.sscKept
  let keep := fun (a : Nat) =>
    decide (a = aPW 4) || decide (a = aPW 8) || decide (a = aPW 9) || (decide (blk 12 ≤ a ∧ a < blk 13) && hmKept a) ||
      (decide (c = 9) && decide (blk 8 ≤ a ∧ a < blk 9))
  (s.dropRegs dAON keep).setReg (aPW 6) ssc

/-- The device is put in reset with a cause: every domain but BKP, AON and NFC is off (R641); retention survives a
wake from DORMANT alone (R633). -/
def State.enterReset (s : State) (c : BitVec 4) : State :=
  let s1 := if s.on dMRAM then s.cutSnapshot else s
  let kept := fun (d : Nat) => decide (c = 9) && s.pw.dret.getLsbD d
  let s2 := (((upTo 29).map (fun i => i + 3)).filter (fun d => !kept d)).foldl (fun (u : State) d => u.clearDomain d) s1
  let s3 := s2.modDp (fun q => { freight := q.freight })
  let s4 := if c = 0 ∨ c = 10 then s3.aonLost else s3.aonReset c
  let s5 := s4.modPw (fun p =>
    { p with recov := false, modeReq := none, modeStat := .ok, modeTarget := 0, domReq := none, domStat := .ok,
             don := p.don &&& 7, dret := if c = 9 then p.dret else 0, sleep := false, wakeHeld := 0, inReset := some c,
             resetAt := s.now })
  ((s5.modKv (fun v => { v with test := false })).modHm (fun h => { h with predRun := false, coolRun := 0, twarned := false })).modUp (fun u => u.holdWindow s.now)

/-- A reset of the running device, or of DORMANT. -/
def State.resetDevice (s : State) (c : BitVec 4) : State := if s.on dAON then s.enterReset c else s

/-- The hold of a THERMAL reset has ended (R665). -/
def State.cooled (s : State) : Bool := decide (1000 ≤ s.hm.coolRun) && decide (s.pw.resetAt + cycS ≤ s.now)

/-- Occurrences that the next START records: #06, #07 (R657), #B7 (R581) and #CB (R687). -/
def State.startNotes (s : State) : State :=
  let a := if s.pw.noteVbat then s.occur 0x06 else s
  let b := if s.pw.noteDisc then a.occur 0x07 else a
  let c := if s.hc.nfc.noteCommit then b.occur 0xB7 else b
  let d := match s.hm.snapCutSlot with
    | some n => (c.occurV 0xCB (wd n)).setRegFld (aHM 1) 22 22 1
    | none => c
  ((d.modPw (fun p => { p with noteVbat := false, noteDisc := false })).modNfc (fun n => { n with noteCommit := false })).modHm
    (fun h => { h with snapCutSlot := none })

/-- The reset is released: START, shunter 48 at #1_F000, and the boot (R640, R647, Tables 02-5 and 15-7). -/
def State.release48 (s : State) (c : BitVec 4) : State :=
  let t := s.powerStart.modPw (fun p =>
    { p with inReset := none, cause := c, supplyEn := true, kaWake := false })
  let u := ((t.setReg (aPW 3) (wd (c.toNat * 2 ^ 20))).occurV 0x00 (wd c.toNat)).startNotes.setMode .start
  let v := u.modShunter 48 (fun x => { x with run := .running, pc := 0x1F000, wdFrom := s.now })
  (v.modHm (fun h => { h with snapAt := s.now, hotAt := s.now })).bootRom (decide (c = 3)) (decide (c = 9))

/-! ### DORMANT (R634–R637) -/

/-- Every shunter halts and the global watchdog stops (Table 15-4, step 1). -/
def State.haltAll (s : State) : State :=
  ((upTo 64).foldl (fun (u : State) i => u.haltShunter (Fin.ofNat 64 i)) s).modDp (fun q =>
    { q with gwd := { q.gwd with since := none, warned := false } })

/-- Every DIRTY slot is written back (R522). -/
def State.flushVault (s : State) : State :=
  if !s.canLoad then s
  else
    let t := s.kv.slots.foldl (fun (u : State) (e : Nat × KeySlot) =>
      if e.2.dirty then (u.evictWb e.1).setKeySlot e.1 { u.keySlot e.1 with dirty := false } else u) s
    t.kv.wb.foldl (fun (u : State) _ => u.wbDone) t

/-- Points registers that retention keeps (Table 08-10). -/
def ptKept (a : Nat) : Bool :=
  let o := a - blk 6
  decide (blk 6 ≤ a ∧ a < blk 7) &&
    (decide (o = 0x20) || decide (o = 0x21) || decide (0x60 ≤ o ∧ o < 0x80) || decide (0xA0 ≤ o ∧ o < 0xB0))

/-- TABLES, SB and DRAM enter retention: only the arrays of Table 15-3 stay (R632). -/
def State.retain (s : State) : State :=
  let t := ((s.dropRegs dTABLES ptKept).dropRegs dSB (fun _ => false)).dropRegs dDRAM (fun _ => false)
  ((t.modSb (fun b => { cells := b.cells })).modDp (fun q => { q with freight := [] })).modPt (fun p =>
    { p with hash := {}, direct := [], filter := [], eccDirect := [], eccFilter := [], told := [], passAt := 0, routesSeen := 0 })

/-- Domains in retention in DORMANT. -/
def retained : List Nat := [14, 16, 18, 31]

/-- The places of wake sources in PW_WAKEEN [23:18]. -/
def wakeBit : WakeSrc → BitVec 6
  | .rtc => 32 | .pin => 16 | .portA => 8 | .portB => 4 | .nfc => 2 | .pfail => 1

/-- PW_WAKEEN [23:18]. -/
def State.wakeEn (s : State) : BitVec 6 := BitVec.ofNat 6 (fld (s.reg (aPW 7)) 23 18)

/-- The device leaves DORMANT (Table 15-5). The time from the wake to shunter 48 at #1_F000 is a free value. -/
def State.leaveDormant (s : State) (w : BitVec 6) : State :=
  let slept := min (s.rtc.sec - s.pw.sleptFrom) (2 ^ 24 - 1)
  let t := ((s.setReg (aPW 8) (wd (w.toNat * 2 ^ 18))).setReg (aPW 9) (wd slept)).occurV 0x04 (wd slept)
  let f := (t.enterReset 9).take
  (f.2.occurV 0x05 (wd f.1)).release48 9

/-- A wake source fires: held while entry to DORMANT goes on, a wake in DORMANT, otherwise nothing (R635, R636). -/
def State.wakeBy (s : State) (w : WakeSrc) : State :=
  if s.wakeEn &&& wakeBit w = 0 ∨ s.pw.inReset ≠ none then s
  else if s.pw.sleep then s.modPw (fun p => { p with wakeHeld := p.wakeHeld ||| wakeBit w })
  else if s.pw.mode = .dormant then s.leaveDormant (wakeBit w)
  else s

/-- Entry to DORMANT completes (Table 15-4, steps 2 to 4, R635). -/
def State.enterDormant (s : State) : State :=
  let s1 := s.flushVault.freightAll.cutSnapshot
  let off := ((upTo 29).map (fun i => i + 3)).filter (fun d => !retained.contains d)
  let s2 := (off.foldl (fun (u : State) d => u.clearDomain d) s1).retain
  let s3 := s2.modPw (fun p => { p with don := 7 ||| 0x80054000, dret := 0x80054000, sleep := false, sleptFrom := s.rtc.sec })
  let s4 := ((s3.setMode .dormant).modPw (fun p => { p with modeReq := none, modeStat := .ok })).raise 769
  if s4.pw.wakeHeld = 0 then s4 else (s4.modPw (fun p => { p with wakeHeld := 0 })).leaveDormant s4.pw.wakeHeld

/-! ### KEEPALIVE and loss of power (R648, R657) -/

/-- Everything but BKP loses power, and BKP too where nothing feeds it. -/
def State.powerLost (s : State) (bkp : Bool) : State :=
  let s1 := if s.on dMRAM then s.cutSnapshot else s
  let s2 := (((upTo 30).map (fun i => i + 2))).foldl (fun (u : State) d => u.clearDomain d) s1
  let s3 := if bkp then s2 else s2.clearDomain dBKP
  ((s3.modDp (fun q => { freight := q.freight })).modUp (fun u => u.holdWindow s.now)).modPw (fun p =>
    { p with mode := if bkp then .keepalive else .off, recov := false, modeReq := none, domReq := none, sleep := false,
             don := if bkp then 1 else 0, dret := 0, inReset := none, pinHold := false, supplyEn := false, kaWake := false,
             wakeHeld := 0 })

/-- Entry to KEEPALIVE by request: steps 1 and 2 of Table 15-4, the wear counts, then SUPPLY_EN falls (R648, R668). -/
def State.enterKeepalive (s : State) : State := (s.haltAll.flushVault.freightAll.commitWear).powerLost true

/-- AON is released in KEEPALIVE or as its supplies come: its power-on reset begins (Table 15-7, step 1). -/
def State.aonStart (s : State) : State :=
  let c : BitVec 4 := if s.pw.kaWake then 10 else 0
  ((s.modPw (fun p => { p with don := 7, rtcLocked := false })).nfcPowerUp).enterReset c

/-- A KEEPALIVE wake source raises SUPPLY_EN; with the supplies present the start proceeds at once (R648). -/
def State.keepaliveUp (s : State) : State :=
  if s.pw.mode = .keepalive ∧ s.pw.inReset = none then
    let t := s.modPw (fun p => { p with supplyEn := true, kaWake := true })
    if t.pw.ioAonGood then t.aonStart else t
  else s

/-! ### Requests (R623–R631) -/

/-- PROVISION, SERVICE, ISLAND or MAINTENANCE. -/
def Mode.works : Mode → Bool
  | .provision | .service | .island | .maintenance => true
  | _ => false

/-- A request is in progress. -/
def State.pwBusy (s : State) : Bool := s.pw.modeReq.isSome || s.pw.domReq.isSome || s.pw.sleep

/-- The first condition of a listed request that fails, in the order DENIED, STATE, BADARG; STATE where Table 15-2 does
not list it (R624, R628). -/
def State.modeCheck (s : State) (target : Nat) : Status :=
  let m := s.pw.mode
  let boot := decide (m = .start) || decide (m = .provision) || decide (m = .maintenance)
  let life := s.kv.life.val
  match target with
  | 4 =>
    if !(boot || decide (m = .service)) then .state
    else if life = 5 then .denied
    else if s.pw.recov then .state
    else .ok
  | 7 =>
    if !(boot || decide (m = .service) || decide (m = .island)) then .state
    else if life = 5 then .denied
    else .ok
  | 5 =>
    if !boot then .state
    else if life ≠ 2 ∧ life ≠ 3 then .denied
    else if s.pw.recov then .state
    else .ok
  | 2 =>
    if !m.works then .state
    else if s.sb.state ≠ .idle then .state
    else if s.wakeEn = 0 then .badarg
    else .ok
  | 1 =>
    if !m.works then .state
    else if s.sb.state ≠ .idle then .state
    else if fld (s.reg (aRTC 0xE)) 23 22 = 0 then .badarg
    else .ok
  | _ => .state

/-- A refused request (R625). -/
def State.pwRefuse (s : State) : State := (s.count (aPW 0xB)).occur 0x03

def modeOf (target : Nat) : Mode :=
  match target with
  | 0 => .off | 1 => .keepalive | 2 => .dormant | 3 => .start | 4 => .provision | 5 => .service | 6 => .island
  | _ => .maintenance

/-- A mode request completes: PW_MODESTAT, event 769 (R626). -/
def State.modeDone (s : State) (st : Status) (target : Nat) : State :=
  (s.modPw (fun p => { p with modeStat := st, modeTarget := target })).raise 769

/-- A write of PW_MODEREQ (R624, R625). -/
def State.modeRequest (s : State) (target : Nat) : Status × State :=
  if s.pwBusy then (.busy, (s.pwRefuse).raise 769)
  else if target = 0 ∨ target = 3 then (.badarg, s.pwRefuse.modeDone .badarg target)
  else if target = s.pw.mode.code then (.ok, s.modeDone .ok target)
  else
    match s.modeCheck target with
    | .ok =>
      let t := s.modPw (fun p => { p with modeReq := some (modeOf target), modeTarget := target })
      if target = 1 then (.ok, t.enterKeepalive)
      else if target = 2 then (.ok, t.haltAll.modPw (fun p => { p with sleep := true }))
      else (.ok, t)
    | st => (st, s.pwRefuse.modeDone st target)

/-- An accepted change among PROVISION, SERVICE and MAINTENANCE completes (R626, R627, R30). -/
def State.modeChanged (s : State) : State :=
  match s.pw.modeReq with
  | some m =>
    if s.pw.sleep then s
    else
      let tgt := if m = .service ∧ s.bh.isl = true then Mode.island else m
      (((s.setMode tgt).modPw (fun p => { p with modeReq := none })).modeDone .ok s.pw.modeTarget).followIsl
  | none => s

/-- The domains that firmware wants on. -/
def State.wanted (s : State) : BitVec 32 :=
  BitVec.ofNat 32 ((s.reg (aPW 0x10)).toNat + fld (s.reg (aPW 0x11)) 7 0 * 2 ^ 24)

/-- Domains marked Sw in Table 15-3. -/
def swDomain (d : Nat) : Bool := decide (d = 3) || (decide (5 ≤ d ∧ d < 32) && decide (d ≠ 30))

/-- A request would turn domain `d` off. -/
def State.turnsOff (s : State) (w : BitVec 32) (d : Nat) : Bool := swDomain d && s.on d && !w.getLsbD d

/-- A token homed in depot `d` is held by, or waited for by, a shunter of another depot (R754). -/
def State.homesForeign (s : State) (d : Nat) : Bool :=
  s.dp.tokens.any (fun (e : Nat × Token) =>
    decide (e.1 / 32 = d) &&
      ((match e.2.owner with
        | some sh => decide (depotOf sh ≠ d)
        | none => false) || e.2.waiters.any (fun x => decide (depotOf x.1 ≠ d))))

/-- A lane of lanes `lo` on is bound, or a codeword waits or is decoded (R223). -/
def State.laneBound (s : State) (lo : Nat) : Bool :=
  s.lanes.lanes.any (fun (e : Nat × LaneRec) => decide (lo ≤ e.1 ∧ e.1 < lo + 256) && decide (e.2.state ≠ .free))
def State.poolBusy (s : State) : Bool := s.lanes.lanes.any (fun (e : Nat × LaneRec) => decide (e.2.codewords ≠ 0))

/-- The request's change of domain `d` is refused (R630). -/
def State.offRefused (s : State) (src : Src) (w : BitVec 32) (d : Nat) : Bool :=
  s.turnsOff w d &&
    (if 6 ≤ d ∧ d < 14 then
       (match src with
        | .shunter sh => decide (depotOf sh = d - 6)
        | .host => false) || s.homesForeign (d - 6)
     else if d = 18 then decide (s.sb.state ≠ .idle)
     else if d = 25 then s.laneBound 0 || s.poolBusy
     else if d = 26 then s.laneBound 256 || s.poolBusy
     else if d = 27 then s.poolBusy
     else false)

/-- A domain request completes: PW_DSTAT, event 770 (R631). -/
def State.domDone (s : State) (st : Status) : State := (s.modPw (fun p => { p with domStat := st })).raise 770

/-- A write of PW_DCMD with GO (R625, R630). -/
def State.domainRequest (s : State) (src : Src) : Status × State :=
  let w := s.wanted
  if s.pwBusy then (.busy, s.pwRefuse.raise 770)
  else if !s.pw.mode.works ∨ (upTo 32).any (s.offRefused src w) = true then (.state, s.pwRefuse.domDone .state)
  else (.ok, s.modPw (fun p => { p with domReq := some w }))

/-- Every change of the request takes effect: VAULT first, once its DIRTY slots are written back (R522, R631). -/
def State.domainsChanged (s : State) : State :=
  match s.pw.domReq with
  | none => s
  | some w =>
    let s1 := if s.turnsOff w dVAULT then s.flushVault else s
    let s2 := ((upTo 32).filter (s.turnsOff w)).foldl (fun (u : State) d => u.domainOff d) s1
    let ups := (upTo 32).filter (fun d => swDomain d && w.getLsbD d && !s.on d)
    let s3 := ups.foldl (fun (u : State) d =>
      let v := u.domainOn d
      if d = 12 then v.depot6Plain else v) s2
    ((s3.modPw (fun p => { p with domReq := none })).domDone .ok).sbStall

/-! ### PW registers (Tables 15-8 and 15-9) -/

/-- A write of PW_SSC (R29, R650). -/
def State.sscWrite (s : State) (v : Word) : Status × State :=
  if bit v 23 ∧ s.pw.mode ≠ .provision ∧ s.pw.mode ≠ .maintenance then (.state, s.occur 0x0F)
  else (.ok, s.plainWrite (aPW 6) v)

/-- A store to the PW block. -/
def State.pwWrite (s : State) (src : Src) (a : Nat) (v : Word) : Status × State :=
  match a - blk 0 with
  | 1 => s.modeRequest (fld v 23 21)
  | 5 => (.ok, if v = 0x5AA55A then s.resetDevice 5 else s)
  | 6 => s.sscWrite v
  | 0x12 => if bit v 23 then s.domainRequest src else (.ok, s)
  | _ => (.ok, s.plainWrite a v)

/-- A load from the PW block. -/
def State.pwRead (s : State) (a : Nat) : Word × State :=
  let p := s.pw
  match a - blk 0 with
  | 0 => (wd (p.mode.code * 2 ^ 21 + b2n p.modeReq.isSome * 2 ^ 20 + b2n p.recov * 2 ^ 19), s)
  | 2 => (wd (b2n p.modeReq.isSome * 2 ^ 23 + stCode p.modeStat * 2 ^ 19 + p.modeTarget % 8 * 2 ^ 16), s)
  | 0xA => (wd (b2n p.pfailLow * 2 ^ 23), s)
  | 0x13 => (wd (b2n p.domReq.isSome * 2 ^ 23 + stCode p.domStat * 2 ^ 19), s)
  | 0x14 => (wd (p.don &&& ~~~p.dret).toNat, s)
  | 0x15 => (wd ((p.don &&& ~~~p.dret).toNat / 2 ^ 24), s)
  | 0x16 => (wd p.dret.toNat, s)
  | 0x17 => (wd (p.dret.toNat / 2 ^ 24), s)
  | _ => s.plainRead a

end Sys2Proof.Machine
end

