-- ==== Sys2Proof/Machine/Bus.lean ====
section
/-! DEFINITION. Accesses to the word space above the shunters' own memories: profile, address and power domain
(R7, R8, R22–R24, R80, R116, R557, R558), and the block that answers. -/

namespace Sys2Proof.Machine

/-- Does the word space hold something there, as the host and the units see it (R6, R21, R557)? -/
def wordExists (a : Nat) : Bool := decide (baseMain ≤ a ∧ a < 2 ^ 24) || (rowAt a).isSome

/-- The profile bit that grants a register or descriptor access (Table 02-11). -/
def profBit (a : Nat) : Nat := if a < baseQDW then (a - blk 0) / 0x10000 else 16

/-- May the agent read (`rd`) or write the word by its profile (R116, R558)? -/
def State.granted (s : State) (src : Src) (rd : Bool) (a : Nat) : Bool :=
  if baseMain ≤ a ∨ a < blk 0 ∨ (0x320000 ≤ a ∧ a < baseMain) then true
  else
    match src with
    | .shunter sh => bit (s.reg (aDP (depotOf sh) ((if rd then 0x44 else 0x45) + 8 * placeOf sh))) (profBit a)
    | .host => bit (s.reg (aHC (if rd then 2 else 3))) (profBit a)

/-- The words the host reaches during entry to DORMANT: PW, HM and RTC (Table 15-4, step 1). -/
def awakeWord (a : Nat) : Bool :=
  decide (blk 0 ≤ a ∧ a < blk 1) || decide (blk 12 ≤ a ∧ a < blk 14)

/-- Check an access by profile, address and power domain, in that order (R80). -/
def State.accessStatus (s : State) (src : Src) (rd : Bool) (a : Nat) : Status :=
  if !s.granted src rd a then .denied
  else if !wordExists a then .fault
  else if !s.on (wordDomain a) || (s.pw.sleep && decide (src = .host) && !awakeWord a) then .state
  else .ok

/-- What a refused access leaves: occurrence #0E for a shunter (R116); HC_HREF, #B0 and event 705 for the host
(R558). -/
def State.refuse (s : State) (src : Src) (st : Status) : State :=
  if st ≠ .denied then s
  else
    match src with
    | .shunter _ => s.occur 0x0E
    | .host =>
      let s1 := (s.count (aHC 4)).occur 0xB0
      if s1.hc.hrefTold then s1 else { s1 with hc := { s1.hc with hrefTold := true } }.raise 705

/-- A register's block takes a store. -/
def State.blockWrite (s : State) (src : Src) (a : Nat) (v : Word) : Status × State :=
  if baseQDW ≤ a then s.qdwWrite a v
  else
    match (a - blk 0) / 0x10000 with
    | 0 => s.pwWrite src a v
    | 1 => s.scWrite a v
    | 2 => s.feWrite a v
    | 3 => s.lnWrite a v
    | 4 => s.txWrite a v
    | 5 => s.sbWrite a v
    | 6 => s.ptWrite src a v
    | 7 => s.ydWrite a v
    | 8 => s.bhWrite a v
    | 9 => s.kvWrite src a v
    | 10 => s.upWrite src a v
    | 11 => s.hcWrite a v
    | 12 => s.hmWrite a v
    | 13 => s.rtcWrite a v
    | 15 => s.dpWrite src a v
    | _ => (.ok, s.plainWrite a v)

/-- A register's block answers a load. -/
def State.blockRead (s : State) (src : Src) (a : Nat) : Word × Status × State :=
  let ok := fun (r : Word × State) => (r.1, Status.ok, r.2)
  if baseQDW ≤ a then ok (s.qdwRead a)
  else
    match (a - blk 0) / 0x10000 with
    | 0 => ok (s.pwRead a)
    | 1 => ok (s.scRead src a)
    | 2 => ok (s.feRead a)
    | 3 => ok (s.lnRead a)
    | 4 => ok (s.txRead a)
    | 5 => ok (s.sbRead a)
    | 6 => ok (s.ptRead a)
    | 7 => ok (s.ydRead a)
    | 8 => ok (s.bhRead src a)
    | 9 => ok (s.kvRead a)
    | 10 => ok (s.upRead a)
    | 11 => s.hcRead a
    | 12 => ok (s.hmRead a)
    | 13 => ok (s.rtcRead a)
    | 14 => ok (s.frRead a)
    | 15 => ok (s.dpRead a)
    | _ => ok (s.plainRead a)

/-- A store to the main store, the queue descriptor window or a register. -/
def State.writeWord (s : State) (src : Src) (a : Nat) (v : Word) : Status × State :=
  match s.accessStatus src false a with
  | .ok => if baseMain ≤ a then (.ok, s.setMain a v) else s.blockWrite src a v
  | st => (st, s.refuse src st)

/-- A load from the main store, the queue descriptor window or a register; a refused one returns 0. -/
def State.readWord (s : State) (src : Src) (a : Nat) : Word × Status × State :=
  match s.accessStatus src true a with
  | .ok => if baseMain ≤ a then (s.mainWord a, .ok, s) else s.blockRead src a
  | st => (0, st, s.refuse src st)

/-- Can the agent make accesses: a shunter while its depot is on, the host while its link is up with memory space
enabled (R22, R555)? -/
def State.agentOn (s : State) (src : Src) : Bool :=
  match src with
  | .shunter sh => s.on (6 + depotOf sh)
  | .host => s.on dHOST && s.hc.link.isSome && s.hc.memEn

/-- A shunter's AST takes the status of its access (R80). -/
def State.noteAccess (s : State) (src : Src) (st : Status) (n : Word) : State :=
  match src with
  | .shunter sh => s.modShunter sh (fun x => x.access st n)
  | .host => s

/-- A write access as a command: the status is kept (log 10). An agent that can make no access changes nothing
(log 12). -/
def State.regWrite (s : State) (src : Src) (a : Nat) (v : Word) : Host.Outcome State Fault Refusal :=
  if s.agentOn src then
    let w := s.writeWord src a v
    .next { w.2.noteAccess src w.1 (wd a) with lastStatus := w.1 }
  else .next s

/-- A read access as a command: the word and the status are kept. -/
def State.regRead (s : State) (src : Src) (a : Nat) : Host.Outcome State Fault Refusal :=
  if s.agentOn src then
    let r := s.readWord src a
    .next { r.2.2.noteAccess src r.2.1 (wd a) with readback := r.1, lastStatus := r.2.1 }
  else .next s

end Sys2Proof.Machine
end

