-- ==== Sys2Proof/Machine/Issue.lean ====
section
/-! DEFINITION. How a shunter's instruction issues: loads that it needs arrive first, stores drain in order, and the
program counter moves on (R66–R73, R694, R697–R699). -/

namespace Sys2Proof.Machine

/-- The head of a store buffer drains (R70); AST takes the store's status (R80). -/
def State.drainHead (s : State) (sh : Sh) (buf : Buf) : State :=
  let x := s.shunter sh
  match buf with
  | .scratch =>
    match x.scrBuf with
    | [] => s
    | e :: r => (s.setShunter sh { x with scrBuf := r }).setScr (depotOf sh) (e.addr.toNat - 0x4000) e.val
  | .main =>
    match x.mainBuf with
    | [] => s
    | e :: r =>
      let w := (s.setShunter sh { x with mainBuf := r }).writeWord (.shunter sh) e.addr.toNat e.val
      w.2.modShunter sh (fun y => y.access w.1 e.addr)

/-- Drain the first `n` stores of a buffer. -/
def State.drainN (s : State) (sh : Sh) (buf : Buf) : Nat → State
  | 0 => s
  | n + 1 => (s.drainHead sh buf).drainN sh buf n

/-- Every earlier store of the shunter drains. -/
def State.drainAll (s : State) (sh : Sh) : State :=
  let s1 := s.drainN sh .main (s.shunter sh).mainBuf.length
  s1.drainN sh .scratch (s1.shunter sh).scrBuf.length

/-- How many stores at the front of the main buffer go up to the last one, older than `q`, to word `a` (R73). -/
def upToStore (a : Word) (q : Nat) : List StoreEntry → Nat
  | [] => 0
  | e :: r =>
    let n := upToStore a q r
    if n = 0 then (if e.addr = a ∧ e.seq < q then 1 else 0) else n + 1

/-- A load arrives: its word goes to its register, its status to AST (R66, R73, R80). -/
def State.arriveLoad (s : State) (sh : Sh) (e : LoadEntry) : State :=
  match e.got with
  | some (w, st) => s.modShunter sh (fun x => (x.setR e.dest w).access st e.addr)
  | none =>
    let s1 := s.drainN sh .main (upToStore e.addr e.seq (s.shunter sh).mainBuf)
    let r := s1.readWord (.shunter sh) e.addr.toNat
    r.2.2.modShunter sh (fun x => (x.setR e.dest r.1).access r.2.1 e.addr)

/-- The load at the head of a list, taken out of those outstanding, arrives; and so on. -/
def State.arriveList (s : State) (sh : Sh) : List LoadEntry → State
  | [] => s
  | e :: r =>
    let s1 := s.modShunter sh (fun x => { x with loads := removeFirst (fun f => decide (f = e)) x.loads })
    (s1.arriveLoad sh e).arriveList sh r

/-- The loads into registers that an instruction uses arrive before it runs (R66, R698). -/
def State.settle (s : State) (sh : Sh) (uses : List Reg) : State :=
  s.arriveList sh ((s.shunter sh).loads.filter (fun e => uses.contains e.dest))

/-- Every outstanding load arrives. -/
def State.settleAll (s : State) (sh : Sh) : State := s.arriveList sh (s.shunter sh).loads

/-- An instruction of `len` words that works on registers alone: where the shunter may issue, the loads it uses
arrive, `f` gives its registers and flags, and the program counter moves on. -/
def State.plain (s : State) (sh : Sh) (len : Nat) (uses : List Reg) (f : Shunter → Shunter) :
    Host.Outcome State Fault Refusal :=
  if (s.shunter sh).canIssue then
    .next ((s.settle sh uses).modShunter sh (fun x => { (f x).advance len with stepping := false }))
  else .next s

/-- The shunter faults on an instruction it cannot execute (R121, R693). -/
def State.illegal (s : State) (sh : Sh) : State := s.faultShunter sh 1 (s.shunter sh).pc

/-- An instruction on registers that is ILLEGAL where `ok` is false (R693). -/
def State.plainIf (s : State) (ok : Bool) (sh : Sh) (len : Nat) (uses : List Reg) (f : Shunter → Shunter) :
    Host.Outcome State Fault Refusal :=
  if ok then s.plain sh len uses f
  else if (s.shunter sh).canIssue then .next (s.illegal sh)
  else .next s

/-- Does the field name a pair (R693)? -/
def isPair (r : Reg) : Bool := r.val % 2 == 0

/-- An instruction that sends a request: its loads arrive, `pre` decides the checks made before any wait (a status
completes at once), then every earlier store drains and `run` acts. -/
def State.request (s : State) (sh : Sh) (uses : List Reg) (drain : Bool) (run : State → State) :
    Host.Outcome State Fault Refusal :=
  if (s.shunter sh).canIssue then
    let s1 := (s.settle sh uses).modShunter sh (fun x => { x with stepping := false, busy := true })
    let s2 := if drain then s1.drainAll sh else s1
    if (s2.shunter sh).busy then .next (run (s2.modShunter sh (fun x => { x with busy := false })))
    else .next s2
  else .next s

/-- A request ends: its outcome, and the next instruction. -/
def State.finish (s : State) (sh : Sh) (st : Status) : State :=
  s.modShunter sh (fun x => (x.outcome st).advance 1)

/-- A request ends with a register written. -/
def State.finishReg (s : State) (sh : Sh) (st : Status) (d : Reg) (v : Word) : State :=
  s.modShunter sh (fun x => ((x.setR d v).outcome st).advance 1)

/-- The write profile grants block `b` (R117, R723). -/
def State.writeBit (s : State) (sh : Sh) (i : Nat) : Bool :=
  bit (s.reg (aDP (depotOf sh) (0x45 + 8 * placeOf sh))) i

end Sys2Proof.Machine
end

