-- ==== Sys2Proof/Machine/Operands.lean ====
section
/-! DEFINITION. The operand forms of the instructions: immediates, effective addresses, shifts and rotations, bit
fields, and the shapes of one-word and pair operations (R62, R63, R705, R709, R710). -/

namespace Sys2Proof.Machine

/-- An 8-bit immediate, sign-extended. -/
def sext8 (i : BitVec 8) : Word := i.signExtend 24

/-- An 8-bit immediate, zero-extended. -/
def zext8 (i : BitVec 8) : Word := i.setWidth 24

/-- The effective address (Table 17-13). -/
def effAddr (x : Shunter) (a : Reg) (ofs : Word) : Word := x.r a + ofs

inductive Shift where
  | shl | shr | sar | rol | ror
deriving DecidableEq, Repr

/-- A shift or rotation by `n` of a value of `w` bits, with C as it was (R705, R709). -/
def shiftBy {w : Nat} (k : Shift) (a : BitVec w) (n : Nat) (c : Bool) : BitVec w × Bool :=
  match k with
  | .shl => if n = 0 then (a, c) else if w ≤ n then (0, false) else (a <<< n, a.getLsbD (w - n))
  | .shr => if n = 0 then (a, c) else if w ≤ n then (0, false) else (a >>> n, a.getLsbD (n - 1))
  | .sar =>
    if n = 0 then (a, c)
    else if w ≤ n then ((if a.msb then BitVec.allOnes w else 0), a.msb)
    else (a.sshiftRight n, a.getLsbD (n - 1))
  | .rol =>
    let m := n % w
    if m = 0 then (a, c) else (a.rotateLeft m, a.getLsbD (w - m))
  | .ror =>
    let m := n % w
    if m = 0 then (a, c) else (a.rotateRight m, a.getLsbD (m - 1))

/-- An operation on two registers: its result and its flags. -/
def regOp (f : Shunter → Word → Word → Word × Shunter) (d a b : Reg) (x : Shunter) : Shunter :=
  let r := f x (x.r a) (x.r b)
  r.2.setR d r.1

/-- An operation on a register and an immediate. -/
def immOp (f : Shunter → Word → Word → Word × Shunter) (d a : Reg) (i : Word) (x : Shunter) : Shunter :=
  let r := f x (x.r a) i
  r.2.setR d r.1

def opAdd (x : Shunter) (a b : Word) : Word × Shunter := (a + b, x.addFlags a b (a + b) false)

def opAdc (x : Shunter) (a b : Word) : Word × Shunter :=
  let r := a + b + wd (b2n x.c)
  (r, x.addFlags a b r x.c)

def opSub (x : Shunter) (a b : Word) : Word × Shunter := (a - b, x.subFlags a b (a - b) false)

def opSbc (x : Shunter) (a b : Word) : Word × Shunter :=
  let r := a - b - wd (b2n !x.c)
  (r, x.subFlags a b r (!x.c))

/-- A logical operation: N and Z. -/
def opLogic (f : Word → Word → Word) (x : Shunter) (a b : Word) : Word × Shunter := (f a b, x.nz (f a b))

/-- A shift of a register by a count. -/
def shiftOp (k : Shift) (d a : Reg) (n : Nat) (x : Shunter) : Shunter :=
  let r := shiftBy k (x.r a) n x.c
  (x.nzc r.1 r.2).setR d r.1

/-- A pair operation: its result and its flags. -/
def pairOp (f : Shunter → Long → Long → Long × Shunter) (d a b : Reg) (x : Shunter) : Shunter :=
  let r := f x (x.pair a) (x.pair b)
  r.2.setPair d r.1

/-- A shift of a pair by a count. -/
def pairShift (k : Shift) (d a : Reg) (n : Nat) (x : Shunter) : Shunter :=
  let r := shiftBy k (x.pair a) n x.c
  (x.nzc r.1 r.2).setPair d r.1

/-- The field of `wid` bits at `pos` (R710). -/
def extract (a : Word) (pos wid : Nat) : Word := (a >>> pos) &&& wd (2 ^ wid - 1)

/-- The same, sign-extended from its top bit. -/
def extractSigned (a : Word) (pos wid : Nat) : Word :=
  if a.getLsbD (pos + wid - 1) then extract a pos wid ||| ~~~wd (2 ^ wid - 1) else extract a pos wid

/-- `old` with the field of `wid` bits at `pos` replaced by the low bits of `a`. -/
def insertField (old a : Word) (pos wid : Nat) : Word :=
  let m := wd (2 ^ wid - 1)
  (old &&& ~~~(m <<< pos)) ||| ((a &&& m) <<< pos)

/-- The range of a bit field (R710). -/
def fieldOk (pos w1 : BitVec 5) : Bool := decide (pos.toNat ≤ 23) && decide (pos.toNat + w1.toNat + 1 ≤ 24)

/-- The bits of a word in reverse order. -/
def bitReverse (a : Word) : Word :=
  (List.range 24).foldl (fun r i => if a.getLsbD i then r ||| ((1 : Word) <<< (23 - i)) else r) 0

/-- Leading zeros of a word, 0 to 24. -/
def leadingZeros (a : Word) : Nat :=
  match (List.range 24).find? (fun i => a.getLsbD (23 - i)) with
  | some i => i
  | none => 24

/-- The registers of a pair. -/
def both (r : Reg) : List Reg := [r, r + 1]

end Sys2Proof.Machine
end

