-- ==== Sys2Proof/Machine/Alu.lean ====
section
/-! DEFINITION. Arithmetic and logic (R704, R705, Table 17-9). -/

namespace Sys2Proof.Machine

/-- add: N, Z, C and V. -/
def execAdd (sh : Sh) (d a b : Reg) (s : State) : Host.Outcome State Fault Refusal :=
  s.plain sh 1 [d, a, b] (regOp opAdd d a b)

/-- adc: N, Z, C and V. -/
def execAdc (sh : Sh) (d a b : Reg) (s : State) : Host.Outcome State Fault Refusal :=
  s.plain sh 1 [d, a, b] (regOp opAdc d a b)

/-- sub: N, Z, C and V. -/
def execSub (sh : Sh) (d a b : Reg) (s : State) : Host.Outcome State Fault Refusal :=
  s.plain sh 1 [d, a, b] (regOp opSub d a b)

/-- sbc: N, Z, C and V. -/
def execSbc (sh : Sh) (d a b : Reg) (s : State) : Host.Outcome State Fault Refusal :=
  s.plain sh 1 [d, a, b] (regOp opSbc d a b)

/-- and: N and Z. -/
def execAnd (sh : Sh) (d a b : Reg) (s : State) : Host.Outcome State Fault Refusal :=
  s.plain sh 1 [d, a, b] (regOp (opLogic (fun p q => p &&& q)) d a b)

/-- or: N and Z. -/
def execOr (sh : Sh) (d a b : Reg) (s : State) : Host.Outcome State Fault Refusal :=
  s.plain sh 1 [d, a, b] (regOp (opLogic (fun p q => p ||| q)) d a b)

/-- xor: N and Z. -/
def execXor (sh : Sh) (d a b : Reg) (s : State) : Host.Outcome State Fault Refusal :=
  s.plain sh 1 [d, a, b] (regOp (opLogic (fun p q => p ^^^ q)) d a b)

/-- andn: ga AND NOT gb. -/
def execAndn (sh : Sh) (d a b : Reg) (s : State) : Host.Outcome State Fault Refusal :=
  s.plain sh 1 [d, a, b] (regOp (opLogic (fun p q => p &&& ~~~q)) d a b)

/-- addi, with the immediate sign-extended. -/
def execAddi (sh : Sh) (d a : Reg) (imm : BitVec 8) (s : State) : Host.Outcome State Fault Refusal :=
  s.plain sh 1 [d, a] (immOp opAdd d a (sext8 imm))

/-- subi, with the immediate sign-extended. -/
def execSubi (sh : Sh) (d a : Reg) (imm : BitVec 8) (s : State) : Host.Outcome State Fault Refusal :=
  s.plain sh 1 [d, a] (immOp opSub d a (sext8 imm))

/-- andi, with the immediate zero-extended. -/
def execAndi (sh : Sh) (d a : Reg) (imm : BitVec 8) (s : State) : Host.Outcome State Fault Refusal :=
  s.plain sh 1 [d, a] (immOp (opLogic (fun p q => p &&& q)) d a (zext8 imm))

/-- ori, with the immediate zero-extended. -/
def execOri (sh : Sh) (d a : Reg) (imm : BitVec 8) (s : State) : Host.Outcome State Fault Refusal :=
  s.plain sh 1 [d, a] (immOp (opLogic (fun p q => p ||| q)) d a (zext8 imm))

/-- xori, with the immediate zero-extended. -/
def execXori (sh : Sh) (d a : Reg) (imm : BitVec 8) (s : State) : Host.Outcome State Fault Refusal :=
  s.plain sh 1 [d, a] (immOp (opLogic (fun p q => p ^^^ q)) d a (zext8 imm))

/-- movs: no flag changes. -/
def execMovs (sh : Sh) (d : Reg) (imm : BitVec 8) (s : State) : Host.Outcome State Fault Refusal :=
  s.plain sh 1 [d] (fun x => x.setR d (sext8 imm))

/-- movi, with its extension word: no flag changes. -/
def execMovi (sh : Sh) (d : Reg) (ext : Word) (s : State) : Host.Outcome State Fault Refusal :=
  s.plain sh 2 [d] (fun x => x.setR d ext)

/-- shl by gb[4:0] (R705). -/
def execShl (sh : Sh) (d a b : Reg) (s : State) : Host.Outcome State Fault Refusal :=
  s.plain sh 1 [d, a, b] (fun x => shiftOp .shl d a (fld (x.r b) 4 0) x)

/-- shr by gb[4:0] (R705). -/
def execShr (sh : Sh) (d a b : Reg) (s : State) : Host.Outcome State Fault Refusal :=
  s.plain sh 1 [d, a, b] (fun x => shiftOp .shr d a (fld (x.r b) 4 0) x)

/-- sar by gb[4:0] (R705). -/
def execSar (sh : Sh) (d a b : Reg) (s : State) : Host.Outcome State Fault Refusal :=
  s.plain sh 1 [d, a, b] (fun x => shiftOp .sar d a (fld (x.r b) 4 0) x)

/-- rol by gb[4:0] (R705). -/
def execRol (sh : Sh) (d a b : Reg) (s : State) : Host.Outcome State Fault Refusal :=
  s.plain sh 1 [d, a, b] (fun x => shiftOp .rol d a (fld (x.r b) 4 0) x)

/-- ror by gb[4:0] (R705). -/
def execRor (sh : Sh) (d a b : Reg) (s : State) : Host.Outcome State Fault Refusal :=
  s.plain sh 1 [d, a, b] (fun x => shiftOp .ror d a (fld (x.r b) 4 0) x)

/-- clz: leading zeros; N and Z. -/
def execClz (sh : Sh) (d a : Reg) (s : State) : Host.Outcome State Fault Refusal :=
  s.plain sh 1 [d, a] (fun x => let v := x.r a; (x.nz (wd (leadingZeros v))).setR d (wd (leadingZeros v)))

/-- popc: ones; N and Z. -/
def execPopc (sh : Sh) (d a : Reg) (s : State) : Host.Outcome State Fault Refusal :=
  s.plain sh 1 [d, a] (fun x => let v := x.r a; (x.nz (wd (popCount v))).setR d (wd (popCount v)))

/-- brev: the bits in reverse order; N and Z. -/
def execBrev (sh : Sh) (d a : Reg) (s : State) : Host.Outcome State Fault Refusal :=
  s.plain sh 1 [d, a] (fun x => let v := x.r a; (x.nz (bitReverse v)).setR d (bitReverse v))

/-- shli by 0 to 23; a larger count is ILLEGAL. -/
def execShli (sh : Sh) (d a : Reg) (n : BitVec 5) (s : State) : Host.Outcome State Fault Refusal :=
  s.plainIf (decide (n.toNat < 24)) sh 1 [d, a] (shiftOp .shl d a n.toNat)

/-- shri by 0 to 23; a larger count is ILLEGAL. -/
def execShri (sh : Sh) (d a : Reg) (n : BitVec 5) (s : State) : Host.Outcome State Fault Refusal :=
  s.plainIf (decide (n.toNat < 24)) sh 1 [d, a] (shiftOp .shr d a n.toNat)

/-- sari by 0 to 23; a larger count is ILLEGAL. -/
def execSari (sh : Sh) (d a : Reg) (n : BitVec 5) (s : State) : Host.Outcome State Fault Refusal :=
  s.plainIf (decide (n.toNat < 24)) sh 1 [d, a] (shiftOp .sar d a n.toNat)

/-- roli by 0 to 23; a larger count is ILLEGAL. -/
def execRoli (sh : Sh) (d a : Reg) (n : BitVec 5) (s : State) : Host.Outcome State Fault Refusal :=
  s.plainIf (decide (n.toNat < 24)) sh 1 [d, a] (shiftOp .rol d a n.toNat)

/-- rori by 0 to 23; a larger count is ILLEGAL. -/
def execRori (sh : Sh) (d a : Reg) (n : BitVec 5) (s : State) : Host.Outcome State Fault Refusal :=
  s.plainIf (decide (n.toNat < 24)) sh 1 [d, a] (shiftOp .ror d a n.toNat)

end Sys2Proof.Machine
end

