-- ==== Sys2Proof/Machine/BhCmds.lean ====
section
/-! DEFINITION. The commands of the backhaul ports: offers, frames sent and received, probes, links, pauses and counters
(R437–R470). -/

namespace Sys2Proof.Machine

/-! ### Sending (R439, R447, R452, R453, R457, R463) -/

/-- The octets that a port sends for a wagon, its R-TAG and FCS included. -/
def State.wagonFrame (s : State) (p : Band) (q : Nat) (w : Wagon) : List Byte :=
  let n := wagonLen w.w1
  let c := s.reg (aBH p 0)
  let raw := padTo60 ((s.chainOctets (bufCell w.w0) 0 n).take (n - 4))
  let k := (vlanTags raw).1
  let l3 := if bit c 19 then insertL3 raw k else raw
  let l4 := if bit c 18 then insertL4 l3 k else l3
  let body := if s.isPr q w then addRtag l4 (w.prSeq.getD 0) else l4
  body ++ etherFcs body

/-- The short time at which a frame started now has its timestamp point: 8 octets of preamble and SFD on. -/
def State.stampPoint (s : State) (p : Band) : Long := s.tcap + ln (s.bitCycles p 64 * 2 ^ 32 / cycS)

/-- The port starts the frame of the wagon it has taken (R439, R452). -/
def State.sendFrame (s : State) (p : Band) (f : PortFrame) : State :=
  match s.wagon f.queue f.wagon with
  | none => s.modPort p (fun x => { x with frame := none })
  | some w =>
    let l := s.wagonFrame p f.queue w
    let at_ := s.stampPoint p
    let late := w.timedNow && after at_ w.time
    let launch := if w.timedNow && !late then w.time else at_
    let t := (s.modPort p (fun x => { x with
      frame := some { f with started := true, octets := l.length, launch := launch, dly := late } })).sendBegins f.queue
    let t1 := if late then (t.bhCount p.idx 19 1).bhTold p 6 else t
    { t1.firstFrame p with out := .octets l }

/-- The item of a timed launch (Table 10-5). -/
def State.timedItem (s : State) (p : Band) (f : PortFrame) (w : Wagon) : State :=
  s.post (fld (s.reg (aBH p 0xE)) 17 0)
    [ wd (p.idx * 2 ^ 19 + b2n f.dly * 2 ^ 18 + f.queue), w.w0, w.w2, hiWord f.launch, loWord f.launch ]

/-- The sending of a port's frame has ended (R453, R457, R461). -/
def State.frameSent (s : State) (p : Band) (f : PortFrame) : State :=
  let t := (((s.bhCount p.idx 0 1).bhCount p.idx 1 f.octets).sendEnds f.queue).modPort p (fun x => { x with frame := none })
  let t1 := match s.wagon f.queue f.wagon with
    | none => t
    | some w =>
      let u := if w.timedNow then t.timedItem p f w else t
      if s.isPr f.queue w then (u.modWagon f.queue w.id (fun x => x.setSent p)).prRelease f.queue w.id
      else u.endWagon f.queue w true
  if t1.bh.swapPend ∧ t1.path p = .active then t1.performSwap p else t1

/-! ### Receiving (R440–R444, R464, R465) -/

/-- BH_MAXLEN. -/
def State.maxLen (s : State) (p : Band) : Nat :=
  let n := fld (s.reg (aBH p 4)) 13 0
  if 64 ≤ n ∧ n ≤ 9216 then n else 9216

/-- The probe destination. -/
def State.prbDa (s : State) : Nat := (long (s.reg (aBHC 6)) (s.reg (aBHC 7))).toNat

/-- A destination address that the port accepts (R440). -/
def State.daAccepted (s : State) (p : Band) (dst : Nat) : Bool :=
  let c := s.reg (aBH p 0)
  decide (dst = (long (s.reg (aBH p 2)) (s.reg (aBH p 3))).toNat) || decide (dst = 2 ^ 48 - 1) || decide (dst = s.prbDa) ||
    (upTo 16).any (fun i => bit (s.reg (aBH p 0xF)) i &&
      decide ((long (s.reg (aBH p (0x20 + 2 * i))) (s.reg (aBH p (0x21 + 2 * i)))).toNat = dst)) ||
    (bit c 17 && dst.testBit 40) || bit c 16

/-- The receive queue of a frame with EtherType `typ` whose headers begin at `k` (R442). -/
def State.rxQueue (s : State) (p : Band) (l : List Byte) (k : Nat) : Nat :=
  let fits := fun (i : Nat) =>
    let w := s.reg (aBH p (0x18 + i))
    bit w 23 && (if bit w 22 then decide (udpPort l k = some (fld w 15 0)) else decide (be16 l k = fld w 15 0))
  match (upTo 8).find? fits with
  | some i => fld (s.reg (aBH p (0x18 + i))) 21 19
  | none => 7

/-- The heard records of a probe list this chip and port with a number of the last three intervals (R455). -/
def State.listedBy (s : State) (p : Band) (d : List Byte) : Bool :=
  let x := s.port p
  (upTo 8).any (fun k =>
    let r := octetsToNat ((d.drop (12 + 4 * k)).take 4)
    r.testBit 31 && decide (r / 2 ^ 30 % 2 = p.idx) && decide (r / 2 ^ 16 % 2 ^ 14 = x.chip.toNat) &&
      x.prbSent.flatten.contains (BitVec.ofNat 16 r))

/-- A probe arrives; `d` are the octets after its EtherType (R455, R465, Table 10-10). -/
def State.probeHeard (s : State) (p : Band) (d : List Byte) : State :=
  if octN d 0 ≠ 0x10 ∨ d.length < 46 then s
  else
    let from_ := fun (i : Nat) =>
      let w := s.prbSrc p i
      bit w 23 && decide (fld w 13 0 = be16 d 2 % 2 ^ 14) && decide (fld w 14 14 = octN d 1 / 128)
    let listed := s.listedBy p d
    ((upTo 8).filter from_).foldl (fun (u : State) i =>
      (u.bhCount p.idx 16 1).modPort p (fun x => { x with
        heard := mapUpd (fun _ => {}) x.heard i (fun h =>
          { h with valid := true, seq := BitVec.ofNat 16 (be16 d 4), now := true, listed := h.listed || listed }) })) s

/-- A frame's R-TAG is taken out and its stream judged (R464): the octets left, and for a tagged frame its stream entry
and number; none where it is discarded. -/
def State.untag (s : State) (l : List Byte) : Option (List Byte × Option (Option Nat × Nat)) × State :=
  let k := (vlanTags l).1
  if be16 l k ≠ 0xF1C1 then (some (l, none), s)
  else
    let n := be16 l (k + 4)
    let r := l.take k ++ l.drop (k + 6)
    match s.streamOf (mac48 l 6) ((vlanTags l).2.headD 0) with
    | none => (some (r, some (none, n)), s.bhCount 2 2 1)
    | some i =>
      let e := s.eliminate i n
      (if e.1 then some (r, some (some i, n)) else none, e.2)

/-- The receive report of Table 10-2. -/
def rxReport (p : Band) (tag : Option (Option Nat × Nat)) (l3 l4 rq vlans cell len : Nat) (trx : Long) : List Word :=
  let pr := tag.isSome
  let ns := match tag with
    | some (none, _) => true
    | _ => false
  let stream := match tag with
    | some (some i, _) => i
    | _ => 0
  let sq := match tag with
    | some (_, n) => n
    | none => 0
  [ wd (p.idx * 2 ^ 19 + b2n pr * 2 ^ 18 + l3 * 2 ^ 16 + l4 * 2 ^ 14 + rq * 2 ^ 11 + vlans * 2 ^ 9 + b2n ns * 2 ^ 8),
    wd (cell * 64), wd len, hiWord trx, loWord trx, wd (stream * 2 ^ 16 + sq) ]

/-- A frame that is kept: cells, report and counts (R441–R443, R447). -/
def State.keepFrame (s : State) (p : Band) (l : List Byte) (tag : Option (Option Nat × Nat)) (trx : Long) : State :=
  let v := vlanTags l
  let body := l.take (l.length - 4)
  let c3 := l3Check body v.1
  let c4 := l4Check body v.1
  let s1 := if c3 = 2 ∨ c4 = 2 then (s.bhCount p.idx 11 1).occur 0x8B else s
  let r : Status × Nat × State := if s1.yardOn then s1.allocCells 1 (cellsFor l.length) else (.state, 0, s1)
  match r with
  | (.ok, cell, t) =>
    let rq := s.rxQueue p body v.1
    let q := fld (s.reg (aBH p (0x10 + rq))) 17 0
    let t1 := t.fillChain cell l
    if t1.isReport q && (t1.wordQ q).sound && decide ((t1.wordQ q).used + 8 ≤ t1.region q) then
      (((t1.putPacket q (rxReport p tag c3 c4 rq v.2.length cell l.length trx)).2.bhCount p.idx 2 1).bhCount p.idx 3 l.length)
    else (t1.freeChain cell).rxDrop p 20
  | (_, _, t) => t.rxDrop p 8

/-- A frame has arrived whole at a port (R440). -/
def State.receiveFrame (s : State) (p : Band) (f : RxFrame) : State :=
  let l := f.octets
  if f.pcsError then ((s.bhCount p.idx 7 1).occur 0x89).addError p
  else if !fcsGood l then (((s.bhCount p.idx 4 1).occur 0x89).bhTold p 7).addError p
  else if l.length < 64 then s.bhCount p.idx 6 1
  else if s.maxLen p < l.length then s.bhCount p.idx 5 1
  else if f.bufferFull then s.rxDrop p 9
  else
    match s.macControl p l with
    | some t => t
    | none =>
      if !s.daAccepted p (mac48 l 0) then s.bhCount p.idx 10 1
      else
        let k := (vlanTags l).1
        if mac48 l 0 = s.prbDa ∧ be16 l k = fld (s.reg (aBHC 8)) 15 0 then s.probeHeard p ((l.take (l.length - 4)).drop (k + 2))
        else
          match s.untag l with
          | (none, t) => t
          | (some r, t) => t.keepFrame p r.1 r.2 f.trx

/-! ### Probes (R465, Table 10-10) -/

/-- The heard record of source `i`. -/
def State.heardRecord (s : State) (p : Band) (i : Nat) : List Byte :=
  let w := s.prbSrc p i
  let h := s.prbHeard p i
  natToOctets 4 (b2n h.valid * 2 ^ 31 + fld w 14 14 * 2 ^ 30 + fld w 13 0 * 2 ^ 16 + h.seq.toNat)

/-- A probe frame of the port. -/
def State.probeFrame (s : State) (p : Band) : List Byte :=
  let x := s.port p
  let v := s.reg (aBHC 9)
  let tag := if bit v 23 then natToOctets 2 0x8100 ++ natToOctets 2 (fld v 14 12 * 2 ^ 13 + fld v 11 0) else []
  let head := natToOctets 6 s.prbDa ++ natToOctets 6 (long (s.reg (aBH p 2)) (s.reg (aBH p 3))).toNat ++ tag ++
    natToOctets 2 (fld (s.reg (aBHC 8)) 15 0)
  let body := [(0x10 : Byte), BitVec.ofNat 8 (128 * p.idx)] ++ natToOctets 2 x.chip.toNat ++ natToOctets 2 x.prbSeq.toNat ++
    natToOctets 6 (s.stampPoint p).toNat ++ ((upTo 8).map (s.heardRecord p)).flatten ++ [0, 0]
  head ++ body ++ etherFcs (head ++ body)

/-- The port sends its probe. -/
def State.sendProbe (s : State) (p : Band) : State :=
  let x := s.port p
  let sent := match x.prbSent with
    | l :: r => (x.prbSeq :: l) :: r
    | [] => [[x.prbSeq]]
  let t := (s.modPort p (fun y => { y with prbSeq := y.prbSeq + 1, prbSent := sent, probeAt := y.probeAt + 10 * cycMs })).bhCount
    p.idx 15 1
  { t.firstFrame p with out := .octets (s.probeFrame p) }

/-! ### The commands -/

/-- WAGON_OFFER (R408, R409). -/
def execWagonOffer (p : Band) (s : State) : Host.Outcome State Fault Refusal :=
  if s.bhEn p ∧ s.yardOn = true ∧ (s.port p).frame = none ∧ s.probeDue p = false then
    match s.choose p with
    | some (q, w, t) => .next (t.takeWagon p q w)
    | none => .next s
  else .next s

/-- FRAME_SEND (R439). -/
def execFrameSend (p : Band) (s : State) : Host.Outcome State Fault Refusal :=
  match (s.port p).frame with
  | some f => .next (if f.started then s else s.sendFrame p f)
  | none => .next s

/-- FRAME_SENT (R457). -/
def execFrameSent (p : Band) (s : State) : Host.Outcome State Fault Refusal :=
  match (s.port p).frame with
  | some f => .next (if f.started then s.frameSent p f else s)
  | none => .next s

/-- FRAME_RECEIVE (R440). -/
def execFrameReceive (p : Band) (f : RxFrame) (s : State) : Host.Outcome State Fault Refusal :=
  .next (if s.bhEn p && (s.port p).link then s.receiveFrame p f else s)

/-- PROBE_SEND (R465). -/
def execProbeSend (p : Band) (s : State) : Host.Outcome State Fault Refusal :=
  let busy := match (s.port p).frame with
    | some f => f.started
    | none => false
  .next (if s.bhEn p && s.probeDue p && !busy then s.sendProbe p else s)

/-- PROBE_INTERVAL (R455). -/
def execProbeInterval (p : Band) (s : State) : Host.Outcome State Fault Refusal :=
  .next (if s.bhEn p ∧ s.path p ≠ .off ∧ (s.port p).intAt + 10 * cycMs ≤ s.now then s.endInterval p else s)

/-- LINK_UP (R454). -/
def execLinkUp (p : Band) (speed : Fin 3) (s : State) : Host.Outcome State Fault Refusal :=
  .next (if s.bhEn p then s.linkUp p (BitVec.ofNat 2 speed.val) else s)

/-- LINK_LOSS (R454, R460). -/
def execLinkLoss (p : Band) (why : LinkFault) (s : State) : Host.Outcome State Fault Refusal :=
  if !s.bhEn p then .next s
  else
    let t := s.modPort p (fun x => { x with
      link := false, linkBroke := true, lf := decide (why = .localFault), rf := decide (why = .remoteFault) })
    .next (if (s.path p).live then
      (((t.bhCount p.idx 18 1).raise (512 + 16 * p.idx + 1)).occur 0x80).toPath p .down else t)

/-- HOLD_EXPIRY (R462). -/
def execHoldExpiry (s : State) : Host.Outcome State Fault Refusal :=
  match s.bh.islAt with
  | some t => .next (if s.on dYARD ∧ t + max (fld (s.reg (aBHC 3)) 15 0) 1 * cycMs ≤ s.now then s.holdEnds else s)
  | none => .next s

/-- SWAP (R461). -/
def execSwap (src : Src) (s : State) : Host.Outcome State Fault Refusal :=
  s.regWrite src (aBHC 0) (s.reg (aBHC 0) ||| 0x800000)

/-- The key of a priority's pause, or of the port's. -/
def pauseKey : Option (Fin 8) → Nat
  | some k => k.val
  | none => 8

/-- PAUSE_WATCHDOG (R450). -/
def execPauseWatchdog (p : Band) (prio : Option (Fin 8)) (s : State) : Host.Outcome State Fault Refusal :=
  let k := pauseKey prio
  let x := s.pause p k
  let w := s.reg (aBH p 0xA)
  if s.on (dBH p) ∧ fld w 11 0 ≠ 0 ∧ x.stop.isSome = true ∧ x.since + fld w 11 0 * 100 * cycUs ≤ s.now then
    .next ((((s.setPause p k { x with stop := none, ignore := some (s.now + fld w 23 12 * cycMs) }).bhCount p.idx 14 1).raise
      (512 + 16 * p.idx + 3)).occur 0x87)
  else .next s

/-- FLOW_CONTROL_REPEAT (R449). -/
def execFlowControlRepeat (p : Band) (s : State) : Host.Outcome State Fault Refusal :=
  let x := s.port p
  if s.fcEnabled p ∧ x.fcOn = true ∧ x.fcAt + s.bitCycles p (256 * s.fcQuanta p) ≤ s.now then
    .next { (s.setPort p { x with fcAt := s.now }).bhCount p.idx 13 1 with out := .octets (s.fcFrame p (s.fcQuanta p)) }
  else .next s

/-- ERRCNT_DECAY (R455). -/
def execErrcntDecay (p : Band) (s : State) : Host.Outcome State Fault Refusal :=
  let x := s.port p
  let per := max (fld (s.reg (aBH p 0xB)) 15 8) 1 * 10 * cycMs
  .next (if 0 < x.errCnt ∧ x.decayAt + per ≤ s.now then
    s.setPort p { x with errCnt := x.errCnt - 1, decayAt := x.decayAt + per } else s)

/-- BH_CTL_WRITE (R437). -/
def execBhCtlWrite (src : Src) (p : Band) (v : Word) (s : State) : Host.Outcome State Fault Refusal :=
  s.regWrite src (aBH p 0) v

/-- BH_CNT_LO_READ (R466): counter `i` of a port, or of the shared block. -/
def execBhCntLoRead (src : Src) (blk : Option Band) (i : Nat) (s : State) : Host.Outcome State Fault Refusal :=
  match blk with
  | some p => s.regRead src (aBH p (0x101 + 2 * (i % 21)))
  | none => s.regRead src (aBHC (0x101 + 2 * (i % 6)))

/-- PR_SKEW_SAMPLE (R470): the largest lead over the queues, 0 unless both paths carry PR (DEDUCED, log 28). -/
def execPrSkewSample (s : State) : Host.Outcome State Fault Refusal :=
  if s.on dYARD ∧ s.bh.skewAt + cycMs ≤ s.now then
    let lead := (s.yd.wagons.filter (fun e => decide (s.qEgr e.1 = 0x23))).foldl
      (fun (n : Nat) e => max n (max (skewOf e.2 .a) (skewOf e.2 .b))) 0
    .next ((s.modBh (fun y => { y with skewAt := s.now })).occurV 0x8F (wd (if s.carries .a && s.carries .b then lead else 0)))
  else .next s

/-- PAUSE_EXPIRY (R448). -/
def execPauseExpiry (p : Band) (prio : Option (Fin 8)) (s : State) : Host.Outcome State Fault Refusal :=
  let x := s.pause p (pauseKey prio)
  match x.stop with
  | some t => .next (if t ≤ s.now then s.setPause p (pauseKey prio) { x with stop := none } else s)
  | none => .next s

/-- PAUSE_IGNORE_END (R450). -/
def execPauseIgnoreEnd (p : Band) (prio : Option (Fin 8)) (s : State) : Host.Outcome State Fault Refusal :=
  let x := s.pause p (pauseKey prio)
  match x.ignore with
  | some t => .next (if t ≤ s.now then s.setPause p (pauseKey prio) { x with ignore := none } else s)
  | none => .next s

/-- PCS_CODE_ERROR (R455). -/
def execPcsCodeError (p : Band) (s : State) : Host.Outcome State Fault Refusal :=
  .next (if s.bhEn p then ((s.bhCount p.idx 7 1).occur 0x89).addError p else s)

end Sys2Proof.Machine
end

