-- ==== Sys2Proof/Machine/BranchSystem.lean ====
section
/-! DEFINITION. Branches (R714, Table 17-14) and the system instructions (R729, Table 17-17). -/

namespace Sys2Proof.Machine

/-- p + sext(disp14), modulo 2^17. -/
def branchTarget (p : BitVec 17) (disp : BitVec 14) : BitVec 17 := p + disp.signExtend 17

/-- An instruction that sets the program counter itself. -/
def State.jumping (s : State) (sh : Sh) (uses : List Reg) (f : Shunter → Shunter × BitVec 17) : Host.Outcome State Fault Refusal :=
  if (s.shunter sh).canIssue then
    .next ((s.settle sh uses).modShunter sh (fun x => { (f x).1.branch (f x).2 with stepping := false }))
  else .next s

/-- b.cond. -/
def execBCond (sh : Sh) (cond : BitVec 4) (disp : BitVec 14) (s : State) : Host.Outcome State Fault Refusal :=
  s.jumping sh [] (fun x => (x, if x.holds cond then branchTarget x.pc disp else x.pc + 1))

/-- call.cond: g31 takes p + 1 when taken. -/
def execCallCond (sh : Sh) (cond : BitVec 4) (disp : BitVec 14) (s : State) : Host.Outcome State Fault Refusal :=
  s.jumping sh [31] (fun x =>
    if x.holds cond then (x.setR 31 ((x.pc + 1).setWidth 24), branchTarget x.pc disp) else (x, x.pc + 1))

/-- jr: gd ← p + 1; PC ← ga[16:0]. -/
def execJr (sh : Sh) (d a : Reg) (s : State) : Host.Outcome State Fault Refusal :=
  s.jumping sh [d, a] (fun x => (x.setR d ((x.pc + 1).setWidth 24), (x.r a).setWidth 17))

/-- jl: gd ← p + 2; PC ← ext[16:0]; an extension with bits above 16 is ILLEGAL. -/
def execJl (sh : Sh) (d : Reg) (ext : Word) (s : State) : Host.Outcome State Fault Refusal :=
  if fld ext 23 17 = 0 then
    s.jumping sh [d] (fun x => (x.setR d ((x.pc + 2).setWidth 24), ext.setWidth 17))
  else if (s.shunter sh).canIssue then .next (s.illegal sh)
  else .next s

/-- fence: every earlier store drains. -/
def execFence (sh : Sh) (s : State) : Host.Outcome State Fault Refusal :=
  s.request sh [] true (fun s => s.modShunter sh (fun x => x.advance 1))

/-- rdast: AST, and STICKY is cleared (R80). -/
def execRdast (sh : Sh) (d : Reg) (s : State) : Host.Outcome State Fault Refusal :=
  s.plain sh 1 [d] (fun x => { x.setR d x.ast with sticky := false })

/-- rdfl: the flags word. -/
def execRdfl (sh : Sh) (d : Reg) (s : State) : Host.Outcome State Fault Refusal :=
  s.plain sh 1 [d] (fun x => x.setR d x.flagsWord)

/-- wrfl: N, Z, C, V ← ga[3:0]. -/
def execWrfl (sh : Sh) (a : Reg) (s : State) : Host.Outcome State Fault Refusal :=
  s.plain sh 1 [a] (fun x => x.setFlags (x.r a))

/-- rdid: the shunter id. -/
def execRdid (sh : Sh) (d : Reg) (s : State) : Host.Outcome State Fault Refusal :=
  s.plain sh 1 [d] (fun x => x.setR d (wd sh.val))

/-- rdpc: p + 1. -/
def execRdpc (sh : Sh) (d : Reg) (s : State) : Host.Outcome State Fault Refusal :=
  s.plain sh 1 [d] (fun x => x.setR d ((x.pc + 1).setWidth 24))

/-- halts: HALTED after this instruction; tokens stay held (R104). -/
def execHalts (sh : Sh) (s : State) : Host.Outcome State Fault Refusal :=
  if (s.shunter sh).canIssue then
    .next ((s.modShunter sh (fun x => { x.advance 1 with stepping := false })).haltShunter sh)
  else .next s

/-- A word that is no instruction faults the shunter (R121, R693). -/
def execIllegal (sh : Sh) (_w _ext : Word) (s : State) : Host.Outcome State Fault Refusal :=
  if (s.shunter sh).canIssue then .next (s.illegal sh) else .next s

end Sys2Proof.Machine
end

