-- ==== Sys2Proof/Machine/ClockCmds.lean ====
section
/-! DEFINITION. The commands of the station clock (chapter 07). -/

namespace Sys2Proof.Machine

/-- SC_FREQ (R311, R315). -/
def execScFreqWrite (src : Src) (v : Word) (s : State) : Host.Outcome State Fault Refusal := s.regWrite src (aSC 0x12) v

/-- A change of rate reaches ADD, no earlier than 1 µs after it was written (R311). -/
def execAddUpdate (s : State) : Host.Outcome State Fault Refusal :=
  match s.sc.addPend with
  | none => .next s
  | some t => if s.on dSC = true ∧ t + cycUs ≤ s.now then .next s.rateApply else .next s

/-- SC_SLEW (R312). -/
def execScSlewWrite (src : Src) (v : Word) (s : State) : Host.Outcome State Fault Refusal := s.regWrite src (aSC 0x13) v

/-- SC_SLEWLEN (R313). -/
def execScSlewlenWrite (src : Src) (v : Word) (s : State) : Host.Outcome State Fault Refusal :=
  s.regWrite src (aSC 0x14) v

/-- A slew has run its length (R313). -/
def execSlewEnd (s : State) : Host.Outcome State Fault Refusal :=
  if s.on dSC = true ∧ s.sc.slewing = true ∧ s.sc.slewTicks = 0 then .next s.endSlew else .next s

/-- SC_CMD.LOAD (R316–R320). -/
def execScLoad (src : Src) (s : State) : Host.Outcome State Fault Refusal := s.regWrite src (aSC 2) 0x800000

/-- SC_CMD.STEP (R316–R320). -/
def execScStep (src : Src) (s : State) : Host.Outcome State Fault Refusal := s.regWrite src (aSC 2) 0x400000

/-- SC_MEAS (R321–R323). -/
def execScMeasWrite (src : Src) (v : Word) (s : State) : Host.Outcome State Fault Refusal := s.regWrite src (aSC 0x18) v

/-- No measurement has been taken for HOLDTO s in LOCKED (R322). -/
def execHoldoverTimeout (s : State) : Host.Outcome State Fault Refusal :=
  if s.on dSC = true ∧ s.sc.lock = .locked ∧ max s.sc.entered s.sc.lastTaken + s.holdTo * cycS ≤ s.now then
    .next ((s.setLock .holdover).occur 0x12)
  else .next s

/-- SC_CTL.LEADER (R322). -/
def execLeaderWrite (src : Src) (v : Word) (s : State) : Host.Outcome State Fault Refusal := s.regWrite src (aSC 0) v

/-- SC_TIME0 latches the full time for its reader (R326). -/
def execScTime0Read (src : Src) (s : State) : Host.Outcome State Fault Refusal := s.regRead src (aSC 4)

/-- Short time reaches the target of an armed unit, or a step has passed it (R328, R329). -/
def execCompareFire (c : Fin 16) (s : State) : Host.Outcome State Fault Refusal :=
  if s.on dSC = true ∧ s.cmpArmed c.val = true ∧
      (s.cmpSkips c.val = true ∨ after (s.cmpTarget c.val) s.shortTime = false) then
    .next (s.cmpFire c.val)
  else .next s

/-- A compare register: 0 CTL, 1 and 2 the target, 3 the period (R329, R330). -/
def execCmpWrite (src : Src) (c : Fin 16) (r : Fin 4) (v : Word) (s : State) : Host.Outcome State Fault Refusal :=
  s.regWrite src (aCMP c.val r.val) v

end Sys2Proof.Machine
end

