-- ==== Sys2Proof/Machine/Crc.lean ====
section
/-! DEFINITION. CRC and hash helpers (R728, Table 17-16). -/

namespace Sys2Proof.Machine

/-- The result of a 32-bit state: bits [47:32] are 0. -/
def crcPair (c : BitVec 32) : Long := c.setWidth 48

/-- The three octets of a word in the order of R4, or its low octet. -/
def crcInput (all : Bool) (b : Word) : List Byte := if all then octets b else [b.extractLsb' 0 8]

/-- Advance the 32-bit state of a pair. -/
def crc32Op (poly : BitVec 32) (all : Bool) (d a b : Reg) (x : Shunter) : Shunter :=
  let r := crcPair ((crcInput all (x.r b)).foldl (crc32Octet poly) ((x.pair a).extractLsb' 0 32))
  (x.zOnly r).setPair d r

/-- Advance the 16-bit state of a register. -/
def crc16Op (all : Bool) (d a b : Reg) (x : Shunter) : Shunter :=
  let r : Word := ((crcInput all (x.r b)).foldl crc16Octet ((x.r a).extractLsb' 0 16)).setWidth 24
  (x.zOnly r).setR d r

/-- crc32: Z. -/
def execCrc32 (sh : Sh) (d a b : Reg) (s : State) : Host.Outcome State Fault Refusal :=
  s.plainIf (isPair d && isPair a) sh 1 (both d ++ both a ++ [b]) (crc32Op polyCrc32 true d a b)

/-- crc32c: Z. -/
def execCrc32c (sh : Sh) (d a b : Reg) (s : State) : Host.Outcome State Fault Refusal :=
  s.plainIf (isPair d && isPair a) sh 1 (both d ++ both a ++ [b]) (crc32Op polyCrc32c true d a b)

/-- crc32b: Z. -/
def execCrc32b (sh : Sh) (d a b : Reg) (s : State) : Host.Outcome State Fault Refusal :=
  s.plainIf (isPair d && isPair a) sh 1 (both d ++ both a ++ [b]) (crc32Op polyCrc32 false d a b)

/-- crc32cb: Z. -/
def execCrc32cb (sh : Sh) (d a b : Reg) (s : State) : Host.Outcome State Fault Refusal :=
  s.plainIf (isPair d && isPair a) sh 1 (both d ++ both a ++ [b]) (crc32Op polyCrc32c false d a b)

/-- crc16: Z. -/
def execCrc16 (sh : Sh) (d a b : Reg) (s : State) : Host.Outcome State Fault Refusal :=
  s.plain sh 1 [d, a, b] (crc16Op true d a b)

/-- crc16b: Z. -/
def execCrc16b (sh : Sh) (d a b : Reg) (s : State) : Host.Outcome State Fault Refusal :=
  s.plain sh 1 [d, a, b] (crc16Op false d a b)

/-- The mixing function of fmix. -/
def mix (a b : Word) : Word :=
  let x0 := a ^^^ b
  let x1 := x0 ^^^ (x0 >>> 12)
  let x2 := x1 * 0x9E3779
  x2 ^^^ (x2 >>> 11)

/-- fmix: N and Z. -/
def execFmix (sh : Sh) (d a b : Reg) (s : State) : Host.Outcome State Fault Refusal :=
  s.plain sh 1 [d, a, b] (regOp (opLogic mix) d a b)

/-- red: the high word of the product; N and Z. -/
def execRed (sh : Sh) (d a b : Reg) (s : State) : Host.Outcome State Fault Refusal :=
  s.plain sh 1 [d, a, b] (regOp (opLogic (fun p q => wd (p.toNat * q.toNat / 2 ^ 24))) d a b)

end Sys2Proof.Machine
end

