-- ==== Sys2Proof/Machine/DebugCmds.lean ====
section
/-! DEFINITION. The commands of the unlock engine, the TAP and the debug access port (R583–R588). -/

namespace Sys2Proof.Machine

/-- CHAL (Table 13-6). -/
def execChal (src : Src) (s : State) : Host.Outcome State Fault Refusal := s.regWrite src (aHC 0xA00) 0x800000

/-- SUBMIT (Table 13-6). -/
def execSubmit (src : Src) (s : State) : Host.Outcome State Fault Refusal := s.regWrite src (aHC 0xA00) 0x400000

/-- RELOCK (Table 13-6). -/
def execRelock (src : Src) (s : State) : Host.Outcome State Fault Refusal := s.regWrite src (aHC 0xA00) 0x200000

/-- 60 s after CHAL (Table 13-6). -/
def execChallengeExpiry (s : State) : Host.Outcome State Fault Refusal :=
  if s.on dHOST = true ∧ s.hc.dbg.state = .challenged ∧ s.hc.dbg.nonceAt + 60 * cycS ≤ s.now then
    .next (s.modDbg (fun d => { d with state := .closed }))
  else .next s

/-- EXTEST, CLAMP and HIGHZ take effect only here (R583). -/
def State.tapDrives (s : State) : Bool :=
  s.pw.resetLow || (decide (s.pw.mode = .maintenance) && s.on dHOST && s.hc.dbg.scope.getLsbD 1)

/-- A TAP instruction, or BYPASS in its place (R583, R589). -/
def execTapInstruction (i : TapInstr) (s : State) : Host.Outcome State Fault Refusal :=
  if s.pw.ioAonGood then
    let j := match i with
      | .extest => if s.tapDrives then .extest else .bypass
      | .clamp => if s.tapDrives then .clamp else .bypass
      | .highz => if s.tapDrives then .highz else .bypass
      | x => x
    .next (s.modHc (fun h => { h with tap := j }))
  else .next s

/-- The scope that a debug access needs: 0 OBSERVE, 1 CONTROL, 2 TEST. -/
def dbgScope : DbgOp → Nat
  | .readReg _ _ | .readPc _ | .readLocal _ _ | .readScratch _ _ | .readCode _ _ | .readWord _ => 0
  | .test => 2
  | _ => 1

/-- The depot whose domain an access to shunter state or a depot memory needs. -/
def dbgDepot : DbgOp → Option Nat
  | .readReg sh _ | .readPc sh | .readLocal sh _ | .writeReg sh _ _ | .writePc sh _ | .writeLocal sh _ _ | .halt sh
  | .step sh => some (depotOf sh)
  | .readScratch d _ | .readCode d _ | .writeScratch d _ _ | .writeCode d _ _ => some d.val
  | _ => none

/-- Scope TEST is entered: every key slot is emptied without write-back (R585). -/
def State.enterTest (s : State) : State := s.modKv (fun v => { v with test := true, slots := [] })

/-- A permitted debug access: the word it reads, its status, and what it leaves. -/
def State.dbgRun (s : State) : DbgOp → Word × Status × State
  | .readReg sh r => ((s.shunter sh).r r, .ok, s)
  | .readPc sh => (wd (s.shunter sh).pc.toNat, .ok, s)
  | .readLocal sh a => (s.localWord sh a.toNat, .ok, s)
  | .readScratch d a => (s.scrWord d.val a.toNat, .ok, s)
  | .readCode d a => (s.codeWord d.val a.toNat, .ok, s)
  | .readWord a => s.readWord .host a.toNat
  | .writeReg sh r v => (0, .ok, s.modShunter sh (fun x => x.setR r v))
  | .writePc sh v => (0, .ok, s.modShunter sh (fun x => { x with pc := v }))
  | .writeLocal sh a v => (0, .ok, s.setLocal sh a.toNat v)
  | .writeScratch d a v => (0, .ok, s.setScr d.val a.toNat v)
  | .writeCode d a v => (0, .ok, s.setCode d.val a.toNat v)
  | .writeMain a v => if baseMain ≤ a.toNat then (0, (s.writeWord .host a.toNat v).1, (s.writeWord .host a.toNat v).2) else (0, .badarg, s)
  | .halt sh => (0, .ok, s.haltShunter sh)
  | .step sh => if (s.shunter sh).run = .halted then (0, .ok, s.modShunter sh (fun x => { x with stepping := true }))
      else (0, .state, s)
  | .test => (0, .ok, s.enterTest)

/-- DBGACC (R583–R585): an access outside the open scopes completes with DENIED, one to a domain that is off with
STATE. -/
def execDbgacc (op : DbgOp) (s : State) : Host.Outcome State Fault Refusal :=
  if !s.on dHOST then .next s
  else if !s.hc.dbg.scope.getLsbD (dbgScope op) then .next { s with lastStatus := .denied }
  else if (match dbgDepot op with
      | some d => !s.on (6 + d)
      | none => false) then .next { s with lastStatus := .state, readback := 0 }
  else
    let r := s.dbgRun op
    .next { r.2.2 with readback := r.1, lastStatus := r.2.1 }

end Sys2Proof.Machine
end

