-- ==== Sys2Proof/Machine/DepotCtl.lean ====
section
/-! DEFINITION. Register writes as commands, run control of shunters, program loading, routes, and the depot and global
watchdogs (R21, R121–R135). -/

namespace Sys2Proof.Machine

/-- A write of any register, descriptor word or main-store word (R9, R10). -/
def execRegisterWrite (src : Src) (addr v : Word) (s : State) : Host.Outcome State Fault Refusal :=
  s.regWrite src addr.toNat v

/-- DP_SCTL of a shunter. -/
def aSCTL (sh : Sh) : Nat := aDP (depotOf sh) (0x40 + 8 * placeOf sh)

/-- GO at an entry (Table 02-9). -/
def execGo (src : Src) (sh : Sh) (entry : BitVec 17) (s : State) : Host.Outcome State Fault Refusal :=
  s.regWrite src (aSCTL sh) (wd (2 ^ 23 + entry.toNat))

/-- HALT (R104, R702). -/
def execHalt (src : Src) (sh : Sh) (s : State) : Host.Outcome State Fault Refusal :=
  s.regWrite src (aSCTL sh) (setBit (s.reg (aSCTL sh)) 22 true)

/-- RESET (R64, R91, R104). -/
def execReset (src : Src) (sh : Sh) (s : State) : Host.Outcome State Fault Refusal :=
  s.regWrite src (aSCTL sh) (setBit (s.reg (aSCTL sh)) 21 true)

/-- An instruction word written at DP_IMADDR (R128, R129). -/
def execDpImdataWrite (src : Src) (dp : Depot) (v : Word) (s : State) : Host.Outcome State Fault Refusal :=
  s.regWrite src (aDP dp.val 7) v

/-- An instruction word read at DP_IMADDR. -/
def execDpImdataRead (src : Src) (dp : Depot) (s : State) : Host.Outcome State Fault Refusal :=
  s.regRead src (aDP dp.val 7)

/-- A write of a route entry word (R91). -/
def execRouteWrite (src : Src) (dp : Depot) (e : Fin 1024) (hi : Bool) (v : Word) (s : State) :
    Host.Outcome State Fault Refusal :=
  s.regWrite src (aDP dp.val (0x800 + 2 * e.val + b2n hi)) v

/-- A write of DP_DCTL: ROMEN = 0 removes the boot ROM (R132). -/
def execRomenWrite (src : Src) (dp : Depot) (v : Word) (s : State) : Host.Outcome State Fault Refusal :=
  s.regWrite src (aDP dp.val 0) v

/-- A write of GWD_KICK through a depot's block (R125). -/
def execGwdKick (src : Src) (dp : Depot) (v : Word) (s : State) : Host.Outcome State Fault Refusal :=
  s.regWrite src (aDP dp.val 0x301) v

/-- DP_WDLIM.LIMIT in core cycles. -/
def State.wdLimit (s : State) (sh : Sh) : Nat := fld (s.reg (aDP (depotOf sh) 2)) 15 0 * 4096

/-- A shunter's count reaches its limit the first time (R124). -/
def execDepotWatchdogLimit (sh : Sh) (s : State) : Host.Outcome State Fault Refusal :=
  let x := s.shunter sh
  let a := aDP (depotOf sh) 3
  if s.wdLimit sh ≠ 0 ∧ s.wdLimit sh ≤ x.watch s.now ∧ x.counts = true ∧ x.wdFirst = false then
    .next ((((s.setShunter sh { x with wdFirst := true }).setReg a (setBit (s.reg a) (placeOf sh) true)).raise
      (872 + depotOf sh)).occur 0x09)
  else .next s

/-- A shunter's count reaches twice its limit: it faults (R124). -/
def execWatchdogFault (sh : Sh) (s : State) : Host.Outcome State Fault Refusal :=
  let x := s.shunter sh
  if s.wdLimit sh ≠ 0 ∧ 2 * s.wdLimit sh ≤ x.watch s.now ∧ x.counts = true then .next (s.faultShunter sh 3 x.pc)
  else .next s

/-- 1 ms after the first kick value the pending value is dropped (R125). -/
def execKickWindowExpiry (s : State) : Host.Outcome State Fault Refusal :=
  match s.dp.gwd.first with
  | none => .next s
  | some t =>
    if t + cycMs ≤ s.now then .next (s.modDp (fun q => { q with gwd := { q.gwd with first := none } })) else .next s

/-- PERIOD passes without a kick (R126). -/
def execGlobalWatchdogWarning (s : State) : Host.Outcome State Fault Refusal :=
  match s.dp.gwd.since with
  | none => .next s
  | some t =>
    if t + s.gwdPeriod ≤ s.now ∧ s.dp.gwd.warned = false then
      .next (((s.modDp (fun q => { q with gwd := { q.gwd with warned := true } })).raise 831).occur 0x0A)
    else .next s

end Sys2Proof.Machine
end

