-- ==== Sys2Proof/Machine/EventToken.lean ====
section
/-! DEFINITION. Events, signals and time at a shunter (R81–R95, R105, R106, R715–R719), and tokens (R96–R104,
R720–R722). -/

namespace Sys2Proof.Machine

/-- Count a refusal of R89 or R96 (DP_DENCNT). -/
def State.countDenied (s : State) (sh : Sh) : State := s.count (aDP (depotOf sh) 5)

/-- waitev: DENIED with a token held (R89), else the first record addressed to it, else park (R715). -/
def execWaitev (sh : Sh) (d a : Reg) (s : State) : Host.Outcome State Fault Refusal :=
  s.request sh [d, a] false (fun s =>
    let x := s.shunter sh
    if x.held ≠ [] then (s.countDenied sh).finishReg sh .denied d 0
    else
      match s.takeRecord sh d with
      | some t => t
      | none =>
        let n := (x.r a).toNat
        s.setShunter sh { x with
          wait := .parked (if n = 0 then none else some (s.now + 16 * n)) d, wdAcc := x.watch s.now, wdFrom := s.now })

/-- The limit of a parked waitev passes (R90). -/
def execWaitevTimeout (sh : Sh) (s : State) : Host.Outcome State Fault Refusal :=
  match (s.shunter sh).wait with
  | .parked (some t) d =>
    if t ≤ s.now then .next (s.modShunter sh (fun x => ((x.setR d 0).outcome .timeout).resume s.now))
    else .next s
  | _ => .next s

/-- An event that was raised arrives at the depots and the host (R81). -/
def execEventArrival (e : Fin 1024) (s : State) : Host.Outcome State Fault Refusal :=
  if s.dp.inflight.contains e then
    .next (State.arrive { s with dp := { s.dp with inflight := s.dp.inflight.erase e } } e)
  else .next s

/-- signal: event 896 + imm8[6:0], or ga[9:0] (R717); BADARG outside 896–1023 (R105). -/
def execSignal (sh : Sh) (a : Reg) (imm : BitVec 8) (s : State) : Host.Outcome State Fault Refusal :=
  let fromReg := imm.getLsbD 7
  if !(s.shunter sh).canIssue then .next s
  else if (fromReg && decide (imm.toNat ≠ 128)) || (!fromReg && decide (a ≠ 0)) then .next (s.illegal sh)
  else
    s.request sh [a] false (fun s =>
      let x := s.shunter sh
      let n := if fromReg then fld (x.r a) 9 0 else 896 + imm.toNat
      if n < 896 then s.finish sh .badarg
      else
        let g : SignalEntry := ⟨sh, Fin.ofNat 1024 n, x.seq, (upTo 8).map (Fin.ofNat 8)⟩
        (s.modDp (fun q => { q with signals := q.signals ++ [g] })).finish sh .ok)

/-- The oldest signal of a shunter that a depot has not had reaches it, once the stores issued before it have
drained (R106). -/
def execSignalDelivery (sh : Sh) (dp : Depot) (s : State) : Host.Outcome State Fault Refusal :=
  match s.dp.signals.find? (fun g => decide (g.src = sh) && g.todo.contains dp) with
  | none => .next s
  | some g =>
    if (s.shunter sh).olderStores g.seq then .next s
    else
      let g1 := { g with todo := g.todo.filter (fun d => d != dp) }
      let upd := fun (h : SignalEntry) => if h = g then g1 else h
      let l := (s.dp.signals.map upd).filter (fun h => !h.todo.isEmpty)
      let s1 : State := { s with dp := { s.dp with signals := l } }
      let s2 := if g.todo.length = 8 then s1.hostEvent g.event.val else s1
      .next (s2.arriveAt dp g.event)

/-- tcap: the short time of this core cycle (R718, R325); 0 with STATE while the SC domain is off (R93). -/
def execTcap (sh : Sh) (d : Reg) (s : State) : Host.Outcome State Fault Refusal :=
  if !(s.shunter sh).canIssue then .next s
  else if !isPair d then .next (s.illegal sh)
  else
    s.request sh (both d) false (fun s =>
      let on := s.on dSC
      s.modShunter sh (fun x =>
        ((x.setPair d (if on then s.tcap else 0)).outcome (if on then .ok else .state)).advance 1))

/-- waitt: STATE, LATE or BADARG at once, or wait for the target (R719). -/
def execWaitt (sh : Sh) (a : Reg) (s : State) : Host.Outcome State Fault Refusal :=
  if !(s.shunter sh).canIssue then .next s
  else if !isPair a then .next (s.illegal sh)
  else
    s.request sh (both a) false (fun s =>
      let x := s.shunter sh
      let t := x.pair a
      if !s.on dSC then s.finish sh .state
      else if !after t s.tcap then s.finish sh .late
      else if 2 ^ 32 < (t - s.tcap).toNat then s.finish sh .badarg
      else s.setShunter sh { x with wait := .time t })

/-- A waitt ends at the first core cycle at or after its target (R719). -/
def execWaittTarget (sh : Sh) (s : State) : Host.Outcome State Fault Refusal :=
  match (s.shunter sh).wait with
  | .time t =>
    if after t s.tcap then .next s
    else .next (s.modShunter sh (fun x => (x.outcome .ok).resume s.now))
  | _ => .next s

/-! ### Tokens -/

/-- The home depot of a token (32 tokens a depot). -/
def tokenHome (t : BitVec 8) : Nat := t.toNat / 32

/-- The checks of tkacq and tktry, in their order (R96, R97, R754): none when the request goes to the home. -/
def State.tokenRefusal (s : State) (sh : Sh) (t : BitVec 8) : Option Status :=
  let x := s.shunter sh
  if x.held.any (fun u => decide (t.toNat ≤ u.toNat)) then some .denied
  else if 8 ≤ x.held.length then some .full
  else if !s.on (dDEPOT (tokenHome t)) then some .state
  else none

/-- A refused token request; one refused by order is counted and recorded (R96). -/
def State.refuseToken (s : State) (sh : Sh) (st : Status) : State :=
  ((if st = .denied then (s.countDenied sh).occur 0x0B else s)).finish sh st

/-- tkacq (R720). -/
def execTkacq (sh : Sh) (t : BitVec 8) (s : State) : Host.Outcome State Fault Refusal :=
  s.request sh [] false (fun s =>
    match s.tokenRefusal sh t with
    | some st => s.refuseToken sh st
    | none =>
      let k := s.token t.toNat
      if k.owner = none ∧ k.waiters = [] then (s.own t sh).finish sh .ok
      else
        (s.setToken t.toNat { k with waiters := k.waiters ++ [(sh, s.now)] }).modShunter sh
          (fun x => { x with wait := .token t }))

/-- tktry (R721). -/
def execTktry (sh : Sh) (t : BitVec 8) (s : State) : Host.Outcome State Fault Refusal :=
  s.request sh [] false (fun s =>
    match s.tokenRefusal sh t with
    | some st => s.refuseToken sh st
    | none =>
      let k := s.token t.toNat
      if k.owner = none ∧ k.waiters = [] then (s.own t sh).finish sh .ok else s.finish sh .busy)

/-- tkrel (R722): BADARG for a token not held. -/
def execTkrel (sh : Sh) (t : BitVec 8) (s : State) : Host.Outcome State Fault Refusal :=
  s.request sh [] false (fun s =>
    if (s.shunter sh).held.contains t then (s.issueRelease sh t).finish sh .ok else s.finish sh .badarg)

/-- A release takes effect at the token's home once the releaser's earlier stores have drained (R101). -/
def execTokenRelease (t : BitVec 8) (s : State) : Host.Outcome State Fault Refusal :=
  let k := s.token t.toNat
  match k.owner, k.relSeq with
  | some sh, some q => if (s.shunter sh).olderStores q then .next s else .next (s.release t)
  | _, _ => .next s

/-- A token has been held for the limit of its home depot (R103). -/
def execTokenHoldLimit (t : BitVec 8) (s : State) : Host.Outcome State Fault Refusal :=
  let k := s.token t.toNat
  let d := tokenHome t
  let lim := fld (s.reg (aDP d 4)) 15 0 * 1024
  if k.owner.isSome ∧ k.limitDone = false ∧ lim ≠ 0 ∧ k.since + lim ≤ s.now then
    .next (((s.setToken t.toNat { k with limitDone := true }).raise (888 + d)).occur 0x0C)
  else .next s

end Sys2Proof.Machine
end

