-- ==== Sys2Proof/Machine/Field.lean ====
section
/-! DEFINITION. Bit fields and single bits (R710, Table 17-12). -/

namespace Sys2Proof.Machine

/-- extu: the field of W bits at POS; N and Z. -/
def execExtu (sh : Sh) (d a : Reg) (pos w1 : BitVec 5) (s : State) : Host.Outcome State Fault Refusal :=
  s.plainIf (fieldOk pos w1) sh 2 [d, a] (fun x =>
    let v := extract (x.r a) pos.toNat (w1.toNat + 1)
    (x.nz v).setR d v)

/-- exts: the field of W bits at POS; N and Z. -/
def execExts (sh : Sh) (d a : Reg) (pos w1 : BitVec 5) (s : State) : Host.Outcome State Fault Refusal :=
  s.plainIf (fieldOk pos w1) sh 2 [d, a] (fun x =>
    let v := extractSigned (x.r a) pos.toNat (w1.toNat + 1)
    (x.nz v).setR d v)

/-- ins: the low W bits of ga into the field of gd; N and Z. -/
def execIns (sh : Sh) (d a : Reg) (pos w1 : BitVec 5) (s : State) : Host.Outcome State Fault Refusal :=
  s.plainIf (fieldOk pos w1) sh 2 [d, a] (fun x =>
    let v := insertField (x.r d) (x.r a) pos.toNat (w1.toNat + 1)
    (x.nz v).setR d v)

/-- btst: Z is the complement of bit gb mod 24. -/
def execBtst (sh : Sh) (a b : Reg) (s : State) : Host.Outcome State Fault Refusal :=
  s.plain sh 1 [a, b] (fun x => { x with z := !(bit (x.r a) ((x.r b).toNat % 24)) })

/-- The mask of bit gb mod 24. -/
def bitMask (b : Word) : Word := (1 : Word) <<< (b.toNat % 24)

/-- bset: bit gb mod 24 of ga; N and Z. -/
def execBset (sh : Sh) (d a b : Reg) (s : State) : Host.Outcome State Fault Refusal :=
  s.plain sh 1 [d, a, b] (regOp (opLogic (fun p q => p ||| bitMask q)) d a b)

/-- bclr: bit gb mod 24 of ga; N and Z. -/
def execBclr (sh : Sh) (d a b : Reg) (s : State) : Host.Outcome State Fault Refusal :=
  s.plain sh 1 [d, a, b] (regOp (opLogic (fun p q => p &&& ~~~bitMask q)) d a b)

/-- bflip: bit gb mod 24 of ga; N and Z. -/
def execBflip (sh : Sh) (d a b : Reg) (s : State) : Host.Outcome State Fault Refusal :=
  s.plain sh 1 [d, a, b] (regOp (opLogic (fun p q => p ^^^ bitMask q)) d a b)

end Sys2Proof.Machine
end

