-- ==== Sys2Proof/Machine/HealthCmds.lean ====
section
/-! DEFINITION. The commands of the health block and the event recorder (chapter 16). -/

namespace Sys2Proof.Machine

/-- The reading of a sensor that has stood at the trip level for 1,000 samples resets the device (R665). -/
def State.tripCheck (s : State) (i : Nat) (t : BitVec 10) : State :=
  if 1000 ≤ (mapGet (fun _ => 0) s.hm.tripRuns i : Nat) ∧ s.pw.inReset ≠ some 11 then
    (s.occurV 0xC1 (BitVec.ofInt 24 (degrees t.toInt))).resetDevice 11
  else s

/-- A sensor is sampled while its domain is on (R663–R665). -/
def execTemperatureSample (sensor : Fin 12) (t : BitVec 10) (s : State) : Host.Outcome State Fault Refusal :=
  if s.on (sensorDomain sensor.val) then .next ((s.tempSample sensor.val t).tripCheck sensor.val t) else .next s

/-- The highest reading is recorded every second (R664). -/
def execHighestTemperatureRecord (s : State) : Host.Outcome State Fault Refusal :=
  if s.on dAON = true ∧ s.hm.hotAt + cycS ≤ s.now then
    let t := s.modHm (fun h => { h with hotAt := s.now })
    match s.hottest with
    | some (x, _) =>
      .next ((t.occurV 0xC2 (BitVec.ofInt 24 (degrees x))).occurV 0xC3 (BitVec.ofInt 24 (degrees x)))
    | none => .next t
  else .next s

/-- The measurement of a whole hour of RTC seconds, while HM_CTL.MEN is set (R666, R667). `counts` are N_ref and N_str of each monitor. -/
def execAgeingMeasurement (counts : List (Nat × Nat)) (s : State) : Host.Outcome State Fault Refusal :=
  if s.on dAON = true ∧ bit (s.reg (aHM 0)) 23 = true ∧ s.rtc.sec % 3600 = 0 ∧ s.hm.ageSec ≠ some s.rtc.sec then
    .next ((s.measureAll counts).modHm (fun h => { h with ageSec := some s.rtc.sec }))
  else .next s

/-- The daily prediction starts, or one that waited for the MRAM domain (R670). -/
def execPrediction (s : State) : Host.Outcome State Fault Refusal :=
  if s.on dAON = true ∧ s.rtc.sec % 86400 = 3600 ∧ s.hm.predSec ≠ some s.rtc.sec then
    .next (s.startPrediction.2.modHm (fun h => { h with predSec := some s.rtc.sec }))
  else if s.on dMRAM = true ∧ s.hm.predDue = true then .next s.startPrediction.2
  else .next s

/-- HM_PREDCMD.GO (R670). -/
def execHmPredcmd (src : Src) (s : State) : Host.Outcome State Fault Refusal := s.regWrite src (aHM 0x26) 0x800000

/-- A prediction completes (R670–R673). -/
def execPredictionDone (s : State) : Host.Outcome State Fault Refusal :=
  if s.on dMRAM = true ∧ s.hm.predRun = true then .next s.predicted else .next s

/-- A code's pending aggregate reaches its record (R675–R678, R682). -/
def execOccurrenceUpdate (code : Byte) (s : State) : Host.Outcome State Fault Refusal :=
  if s.on dAON then .next (s.applyPending code) else .next s

/-- HM_REC (R681). -/
def execHmRec (src : Src) (v : Word) (s : State) : Host.Outcome State Fault Refusal := s.regWrite src (aHM 3) v

/-- A write of HM_CURn (R684). -/
def execHmCurWrite (src : Src) (n : Fin 2) (v : Word) (s : State) : Host.Outcome State Fault Refusal :=
  s.regWrite src (aCUR n.val) v

/-- A read of a window's word 63 (R684). -/
def execHmWindowAdvance (src : Src) (n : Fin 2) (s : State) : Host.Outcome State Fault Refusal :=
  s.regRead src (aHM (0x13F + 0x100 * n.val))

/-- HM_EDGEDATA (R679). -/
def execHmEdgedataWrite (src : Src) (v : Word) (s : State) : Host.Outcome State Fault Refusal := s.regWrite src (aHM 0x13) v

/-- HM_CFG (R679, R682). -/
def execHmCfgWrite (src : Src) (v : Word) (s : State) : Host.Outcome State Fault Refusal := s.regWrite src (aHM 0x11) v

/-- HM_SNAP (R686, R687). -/
def execHmSnap (src : Src) (v : Word) (s : State) : Host.Outcome State Fault Refusal := s.regWrite src (aHM 4) v

/-- HM_SNAPCTL.PERIOD in core cycles. -/
def State.snapPeriod (s : State) : Nat := fld (s.reg (aHM 5)) 15 0 * 60 * cycS

/-- A snapshot starts by the period, or one that waited for the MRAM domain (R687). -/
def execPeriodicSnapshot (s : State) : Host.Outcome State Fault Refusal :=
  if !s.on dAON then .next s
  else if s.snapPeriod ≠ 0 ∧ s.hm.snapAt + s.snapPeriod ≤ s.now then
    let t := s.modHm (fun h => { h with snapAt := s.now })
    if s.on dMRAM then .next (t.startSnapshot false).2 else .next (t.modHm (fun h => { h with snapDue := true }))
  else if s.hm.snapDue = true ∧ s.on dMRAM = true then
    .next ((s.modHm (fun h => { h with snapDue := false })).startSnapshot false).2
  else .next s

/-- A snapshot completes (R685, R686). -/
def execSnapshotDone (s : State) : Host.Outcome State Fault Refusal :=
  match s.hm.snap with
  | some clr => if s.on dMRAM then .next (s.snapshot clr) else .next s
  | none => .next s

end Sys2Proof.Machine
end

