-- ==== Sys2Proof/Machine/HostCmds.lean ====
section
/-! DEFINITION. The commands of the PCIe endpoint (R555–R563). -/

namespace Sys2Proof.Machine

/-- The words of a write TLP in address order; one whose byte enables are not all set is discarded (R556). -/
def State.tlpWrite (s : State) : Nat → List (Word × Bool) → State
  | _, [] => s
  | a, (v, full) :: r =>
    let t := if 2 ^ 24 ≤ a then s
      else if full then (s.writeWord .host a v).2
      else (s.count (aHC 5)).occur 0xB0
    t.tlpWrite (a + 1) r

/-- A BAR0 write TLP (R556). -/
def execBar0Write (addr : Word) (dws : List (Word × Bool)) (s : State) : Host.Outcome State Fault Refusal :=
  if s.agentOn .host then .next (s.tlpWrite addr.toNat dws) else .next s

/-- `n` words sampled in address order (R559). -/
def State.tlpRead (s : State) : Nat → Nat → List Word × State
  | _, 0 => ([], s)
  | a, n + 1 =>
    let r := if 2 ^ 24 ≤ a then (0, Status.fault, s) else s.readWord .host a
    let u := r.2.2.tlpRead (a + 1) n
    (r.1 :: u.1, u.2)

/-- A BAR0 read of `n` doublewords; the words are its completion (R559). -/
def execBar0Read (addr : Word) (n : Nat) (s : State) : Host.Outcome State Fault Refusal :=
  if s.agentOn .host then
    let r := s.tlpRead addr.toNat n
    .next { r.2 with out := .words r.1 }
  else .next s

/-- A doorbell that is discarded (R561). -/
def State.bellLost (s : State) : State :=
  let t := (s.count (aHC 6)).occur 0xB1
  if t.hc.dbTold then t else (t.modHc (fun h => { h with dbTold := true })).raise 706

/-- A write of doorbell `d` (R560, R561). -/
def execDoorbell (d : BitVec 10) (v : Word) (s : State) : Host.Outcome State Fault Refusal :=
  if s.agentOn .host = true ∧ d.toNat < 64 then
    let q := fld (s.reg (aHC (0x100 + d.toNat))) 17 0
    if s.isMailbox q then
      match s.putPacket q [v] with
      | (.ok, t) => .next t
      | (_, t) => .next t.bellLost
    else .next s.bellLost
  else .next s

/-- An MSI-X entry at reset: masked, as the PCI Express specification defines. -/
def msixReset (_ : Nat) : MsixEntry := { addr := 0, data := 0, masked := true }

/-- The entry of an MSI-X vector. -/
def State.msixEntry (s : State) (v : Nat) : MsixEntry := mapGet msixReset s.hc.table v

/-- A pending vector sends its message when nothing holds it (R563). -/
def execMsixMessage (vec : Fin 64) (s : State) : Host.Outcome State Fault Refusal :=
  let e := s.msixEntry vec.val
  let h := s.hc
  if s.on dHOST = true ∧ h.link.isSome = true ∧ mapGet (fun _ => false) h.pba vec.val = true ∧ h.bme = true ∧
      h.msixEn = true ∧ h.fmask = false ∧ e.masked = false then
    .next { s.modHc (fun x => { x with pba := mapPut (fun _ => false) x.pba vec.val false }) with
      out := .message e.addr e.data }
  else .next s

/-- PERST_N resets the PCIe controller, HC_PCTL, HC_PSTAT and the MSI-X state. -/
def execPerstN (s : State) : Host.Outcome State Fault Refusal :=
  if s.on dHOST then
    .next (((s.setReg (aHC 0) 0).setLink none).modHc (fun h =>
      { h with memEn := false, bme := false, msixEn := false, fmask := false, table := [], pba := [] }))
  else .next s

/-- The link trains, while LINKEN permits, or goes down (R591, R753). -/
def execPcieLinkChange (link : Option (Fin 4 × Fin 4)) (s : State) : Host.Outcome State Fault Refusal :=
  if s.on dHOST = true ∧ (link.isSome = true → bit (s.reg (aHC 0)) 23 = true) then .next (s.setLink link) else .next s

/-- A host configuration write (R563). -/
def execPcieConfigWrite (c : PcieCfg) (s : State) : Host.Outcome State Fault Refusal :=
  if s.on dHOST = true ∧ s.hc.link.isSome = true then
    .next (s.modHc (fun h => { h with memEn := c.memEn, bme := c.bme, msixEn := c.msixEn, fmask := c.fmask }))
  else .next s

/-- A host write to BAR4 changes an MSI-X table entry (R562). -/
def execMsixTableWrite (vec : Fin 64) (e : MsixEntry) (s : State) : Host.Outcome State Fault Refusal :=
  if s.agentOn .host then .next (s.modHc (fun h => { h with table := mapPut msixReset h.table vec.val e })) else .next s

end Sys2Proof.Machine
end

