-- ==== Sys2Proof/Machine/LaneCmds.lean ====
section
/-! DEFINITION. The commands of the receive lanes: binding, the progress of a frame, and its report (R181–R227). -/

namespace Sys2Proof.Machine

/-! ### Detection and binding (R185–R197) -/

/-- The threshold of a detection: DET_TH and DTOFS, at least 1 and at most 255 (R185). -/
def State.detectTh (s : State) (d : Detect) : Nat :=
  let th : Int := (fld (s.reg (aLN (0x3C + 0x20 * d.band.idx + d.fam.val))) 7 0 : Nat)
  let ofs := signed 8 (fld (s.reg (aCh d.band d.chan.toNat 2)) 7 0)
  (max 1 (min 255 (th + ofs))).toNat

/-- The detector declares it: the band detects, the channel and family are searched, and correlation and carrier
offset are in range (R185–R188, R218, R222). -/
def State.detects (s : State) (d : Detect) : Bool :=
  let cfg := s.chCfg d.band d.chan.toNat
  s.on (dLANES 0) && s.on (dRX d.band) && s.on (dCHAN d.band) && s.synthLocked d.band &&
    bit (s.reg (aLN 0x1C)) (23 - d.band.idx) && bit cfg 23 && bit cfg (16 + d.fam.val) &&
    (decide (d.fam ≠ 3) || s.on dLDPC) && decide (s.detectTh d ≤ d.corr) && decide (d.cfo.natAbs ≤ 30000) &&
    d.rivals.all (fun r => decide (r ≤ d.corr))

/-- A lane miss, by reservation or not (R196). -/
def State.laneMiss (s : State) (d : Detect) (byRes : Bool) : State :=
  let i := d.band.idx
  let t := (((s.count (aCh d.band d.chan.toNat 4)).count (aLN (0x11C + i))).occur 0x30).laneTold (200 + i) (200 + i)
  if byRes then (t.count (aLN (0x11E + i))).occur 0x31 else t

/-- The lane a detection binds (R194). -/
def State.nextLane (s : State) : Option Nat := (upTo 512).find? (fun n => s.laneFree n)

/-- Lane `n` is bound (R193, R197). -/
def State.bindLane (s : State) (n : Nat) (d : Detect) (res capture : Bool) : State :=
  let x : LaneRec := { state := .bound, res := res, band := d.band, chan := d.chan, fam := d.fam, power := d.power }
  let t := ((s.setLane n x).count (aCh d.band d.chan.toNat 5)).setReg (aLane n 2) (hiWord s.shortTime)
  let t1 := t.setReg (aLane n 3) (loWord s.shortTime)
  let t2 := if res then t1.setRegFld (aCh d.band d.chan.toNat 3) 22 22 1 else t1
  if capture then t2.occur 0x3B else t2

/-- A detection offered for binding (R193). -/
def State.offerDetection (s : State) (d : Detect) : State :=
  let on := s.lanesOn d.band d.chan
  let db : Int := (fld (s.reg (aLN 0x1F)) 4 0 : Nat)
  let c := d.chan.toNat
  if 2 ≤ on.length ∨ (on.length = 1 ∧ on.any (fun e => decide (d.power < e.2.power + db)) = true) then
    s.count (aLN 0x15F)
  else
    let res := s.chExp d.band c && !s.chCons d.band c
    match s.nextLane with
    | none => s.laneMiss d false
    | some n =>
      if res || decide (s.heldLanes < s.freeLanes) then s.bindLane n d res (decide (on.length = 1))
      else s.laneMiss d true

/-! ### The frame's progress (R189–R212) -/

/-- A PHR that the lane refuses (R190; reserved codes DEDUCED, log 27). -/
def phrBad (fam : Fin 4) (p : Phr) : Bool :=
  decide (p.len = 0) || (decide (fam = 3) && (!mapOk p.map || decide (p.mode.toNat / 4 = 3)))

/-- The PHR has passed: the frame's cells, and its codewords (R204, R208, R209). -/
def State.phrPassed (s : State) (n : Nat) (p : Phr) : State :=
  let x := s.lane n
  let cw := if x.fam = 3 then codewordsOf p.len.toNat (p.mode.toNat / 4) (p.mode.toNat % 4) else 0
  let y := { x with phr := some p, codewords := cw }
  let r : Status × Nat × State := if s.yardOn then s.allocCells 0 (cellsFor p.len.toNat) else (.state, 0, s)
  match r with
  | (.ok, c, t) => t.setLane n { y with cell := some c }
  | (_, _, t) => ((t.setLane n { y with noCell := true }).count (aLN 0x15E)).occur 0x3C

/-- A lane that receives, before its PHR. -/
def LaneRec.waitsPhr (x : LaneRec) : Bool := decide (x.state = .bound) && x.phr.isNone

/-- Codewords of the frame are still to be decoded. -/
def LaneRec.decodes (x : LaneRec) : Bool :=
  decide (x.state = .bound) && x.phr.isSome && x.ended.isNone && decide (0 < x.codewords)

/-! ### Reports (R210–R219) -/

/-- S4 in half dB (Table 04-9; unlisted modes DEDUCED, log 27). -/
def s4Half (bd : Band) (fam : Fin 4) (width : Nat) (p : Phr) : Int :=
  let m := p.mode.toNat
  let n : Int := (m % 8 : Nat)
  match fam with
  | 0 =>
    let base : Int := match m % 8 with
      | 0 => -244 | 1 => -238 | 2 => -234 | 3 => -232 | 4 => -226 | 5 => -228 | _ => -218
    if 8 ≤ m then base - 8 else base
  | 1 =>
    match widthOfdm width with
    | some 4 => -240 + 6 * max 0 (n - 2)
    | some 3 => -238 + 6 * max 0 (n - 1)
    | some 2 => -238 + 6 * n
    | _ => if m % 8 = 6 then -194 else -232 + 6 * n
  | 2 => -214
  | 3 =>
    let cl := m / 4
    let num := symbolBits p.map * infoBits cl (m % 4)
    let den := max (codeBits cl) 1
    let base : Int := if num ≤ 96 * den then -224 else if num ≤ 288 * den then -208 else if num ≤ 576 * den then -194 else -180
    if bd = .b then base + 1 else base

/-- L in µs (Table 04-8). -/
def laneLatency (fam : Fin 4) (p : Phr) : Nat :=
  let m := p.mode.toNat
  match fam with
  | 0 =>
    if m < 8 then 40
    else
      match m % 8 with
      | 0 => 520 | 1 => 280 | 2 => 200 | 3 => 160 | 4 => 280 | 5 => 120 | _ => 160
  | 1 => 300
  | 2 => 20
  | 3 => 176

/-- STATUS and CAUSE of a report (Table 04-7; of two that hold, DEDUCED, log 27). -/
def LaneRec.result (x : LaneRec) (fcsOk : Bool) : Status × Nat :=
  match x.ended with
  | some (.state, c) => (.state, c)
  | some (.timeout, c) => (.timeout, c)
  | e =>
    if x.noCell then (.full, 3)
    else
      match e with
      | some r => r
      | none => if fcsOk then (.ok, 0) else (.fault, 1)

/-- The latency class: 7 for a frame that was not decoded in time, 0 outside LW-OFDM (R211, R212). -/
def LaneRec.latc (x : LaneRec) (m : RxMeasure) : Nat :=
  if x.fam ≠ 3 then 0
  else
    match x.ended with
    | some (.timeout, _) => 7
    | some (.state, _) => 0
    | _ => min m.latc 7

/-- The report may be posted now (R211): the frame is decoded, and its tick has come. -/
def State.reportDue (s : State) (x : LaneRec) (p : Phr) (m : RxMeasure) : Bool :=
  match x.ended with
  | some (.state, _) => true
  | e => (e.isSome || decide (x.codewords = 0)) &&
      !after (m.tend + ln (shortUs (laneLatency x.fam p + 50 * x.latc m))) s.shortTime

/-- The eight words of a report (Table 04-6). -/
def reportWords (x : LaneRec) (p : Phr) (m : RxMeasure) (st : Status × Nat) (cell latc : Nat) (lqi : Nat) (blk : Bool) : List Word :=
  let cfo := max (-32767) (min 32767 m.cfo)
  [ wd (stCode st.1 * 2 ^ 20 + st.2 * 2 ^ 16 + x.band.idx * 2 ^ 15 + x.chan.toNat * 2 ^ 7 + x.fam.val * 2 ^ 5 +
      p.mode.toNat * 2 + b2n blk),
    wd (cell * 64 + latc * 8 + (if x.fam = 3 then p.ep.toNat * 2 else 0)), hiWord m.tend, loWord m.tend,
    wd ((BitVec.ofInt 8 m.rssi).toNat * 2 ^ 16 + m.snr.toNat * 2 ^ 8 + lqi),
    wd ((BitVec.ofInt 16 cfo).toNat * 2 ^ 8 + m.tfrac.toNat), wd (p.len.toNat * 2 ^ 13 + m.antw.toNat * 2), m.famdata ]

/-- A word queue takes the report (R214). -/
def State.roomForReport (s : State) (q : Nat) : Bool :=
  s.isReport q && (s.wordQ q).sound && decide ((s.wordQ q).used + 10 ≤ s.region q)

/-- BLK and the counters of a report (R212, R219, Table 04-17). -/
def State.reportCounts (s : State) (x : LaneRec) (st : Status × Nat) (latc : Nat) (blk : Bool) (cfo : Int) : State :=
  let i := x.band.idx
  let t := if blk then
      (((s.count (aCh x.band x.chan.toNat 6)).count (aLN (0x13C + i))).occur 0x32).laneTold (202 + i) (202 + i)
    else s
  let t1 := if 0 < latc then ((t.count (aLN 0x17C)).occurV 0x3A (wd latc)).laneTold 204 204 else t
  let t2 := if st = (.fault, 1) then t1.occur 0x36 else t1
  t2.occurV 0x3D (BitVec.ofInt 24 (max (-32767) (min 32767 cfo)))

/-- The end of a report that was posted: its event, and the security job (R213, R503). -/
def State.reportPosted (s : State) (n q len : Nat) (st : Status) (cell : Option Nat) (psdu : List Byte) : State :=
  let t := (s.raise (192 + q)).count (aLane n 5)
  let t1 := if st = .ok then t else t.count (aLane n 6)
  let secured := match parseMac true (noFcs psdu) with
    | some h => h.aux.isSome
    | none => false
  match cell with
  | some c => if st = .ok ∧ s.on dVAULT = true ∧ bit (s.reg (aKV 0x243)) q = true ∧ secured = true then t1.addSecJob c len else t1
  | none => t1

/-- A lane posts its report and is freed (R210–R219). -/
def State.postReport (s : State) (n : Nat) (p : Phr) (m : RxMeasure) : State :=
  let x := s.lane n
  let st := x.result m.fcsOk
  let latc := x.latc m
  let cfg := s.chCfg x.band x.chan.toNat
  let s4 := s4Half x.band x.fam (fld cfg 22 20) p
  let blk := decide (2 * m.rssi - s4 - 6 ≤ 2 * m.desensMax)
  let lqi := (max 0 (min 255 (128 + 4 * (m.rssi - m.desensAvg) - 2 * s4))).toNat
  let q := fld cfg 12 10
  let qn := fld (s.reg (aLN (if q < 4 then 0x9C + q else 0xBC + (q - 4)))) 17 0
  let t := match x.cell with
    | some c => s.fillChain c (m.psdu.take p.len.toNat)
    | none => s
  let words := reportWords x p m st (x.cell.getD 0x3FFFF) latc lqi blk
  let t1 := t.reportCounts x st latc blk m.cfo
  let t2 := if t1.roomForReport qn then (t1.putPacket qn words).2.reportPosted n q p.len.toNat st.1 x.cell m.psdu
    else
      (((t1.dropCells n).count (aLN (if q < 4 then 0xDC + q else 0xFC + (q - 4)))).occur 0x39).laneTold (1640 + q) 205
  let w1 := words.getD 1 0
  let air := airNs (x.fam.val * 16 + p.mode.toNat) (fld cfg 22 20) p.len.toNat p.map
  let heard : HeardFrame :=
    { band := x.band, chan := x.chan, tend := m.tend, airNs := air, w1 := w1, lqi := BitVec.ofNat 8 lqi, psdu := m.psdu }
  (if st.1 = .ok then t2.sbObserve heard else t2).freeLane n

/-! ### The commands -/

/-- CH_CFG_WRITE (R180, R181). -/
def execChCfgWrite (src : Src) (band : Band) (c : BitVec 8) (fofs : Bool) (v : Word) (s : State) :
    Host.Outcome State Fault Refusal :=
  s.regWrite src (aCh band c.toNat (if fofs then 1 else 0)) v

/-- DETECTION (R185–R197). -/
def execDetection (d : Detect) (s : State) : Host.Outcome State Fault Refusal :=
  .next (if s.detects d then s.offerDetection d else s)

/-- START_OF_FRAME_NOT_CONFIRMED (R189). -/
def execStartOfFrameNotConfirmed (lane : Lane) (s : State) : Host.Outcome State Fault Refusal :=
  let x := s.lane lane.val
  .next (if x.waitsPhr then ((s.count (aLN (0x13E + x.band.idx))).occur 0x34).freeLane lane.val else s)

/-- PHR_RECEIVED (R190, R208, R209). -/
def execPhrReceived (lane : Lane) (phr : Option Phr) (s : State) : Host.Outcome State Fault Refusal :=
  let x := s.lane lane.val
  if !x.waitsPhr then .next s
  else
    let fail := ((s.count (aLN (0x15C + x.band.idx))).occur 0x35).freeLane lane.val
    match phr with
    | none => .next fail
    | some p => .next (if phrBad x.fam p then fail else s.phrPassed lane.val p)

/-- CODEWORD_DECODED (R205, R207). -/
def execCodewordDecoded (lane : Lane) (converged : Bool) (s : State) : Host.Outcome State Fault Refusal :=
  let x := s.lane lane.val
  if !(x.decodes && s.on dLDPC) then .next s
  else if converged then .next (s.setLane lane.val { x with codewords := x.codewords - 1 })
  else .next (((s.setLane lane.val { x with codewords := 0, ended := some (.fault, 2) }).count (aLN 0x17D)).occur 0x37)

/-- LDPC_TIMEOUT (R212). -/
def execLdpcTimeout (lane : Lane) (s : State) : Host.Outcome State Fault Refusal :=
  let x := s.lane lane.val
  .next (if x.decodes then
      (s.setLane lane.val { x with codewords := 0, ended := some (.timeout, 6), state := .drain }).dropCells lane.val
    else s)

/-- REPORT_POSTING (R211, R213, R214, R216). -/
def execReportPosting (lane : Lane) (m : RxMeasure) (s : State) : Host.Outcome State Fault Refusal :=
  let x := s.lane lane.val
  match x.phr with
  | some p => .next (if x.state ≠ .free ∧ s.reportDue x p m = true then s.postReport lane.val p m else s)
  | none => .next s

/-- LN_LCTL_REL (R217). -/
def execLnLctlRel (src : Src) (lane : Lane) (s : State) : Host.Outcome State Fault Refusal :=
  s.regWrite src (aLane lane.val 0) (s.reg (aLane lane.val 0) ||| 0x400000)

/-- BOUND_LANE_SAMPLE (R227). -/
def execBoundLaneSample (s : State) : Host.Outcome State Fault Refusal :=
  if s.on (dLANES 0) ∧ s.lanes.sampleAt + cycMs ≤ s.now then
    .next ((s.occurV 0x33 (wd (s.busyLanes.filter (fun e => decide (e.2.state = .bound))).length)).modLanes
      (fun l => { l with sampleAt := s.now }))
  else .next s

end Sys2Proof.Machine
end

