-- ==== Sys2Proof/Machine/LoadStore.lean ====
section
/-! DEFINITION. Loads and stores (R66–R80, R711–R713, Table 17-13). -/

namespace Sys2Proof.Machine

/-- A load that counts among the four of R67. -/
def LoadEntry.counted (e : LoadEntry) : Bool := decide (0x100000 ≤ e.addr.toNat)

/-- The latest store in a buffer to a word (R73). -/
def latestStore (a : Word) (l : List StoreEntry) : Option Word :=
  (l.reverse.find? (fun e => decide (e.addr = a))).map (fun e => e.val)

/-- What a load takes at its issue: local data, scratch and main store with the shunter's own latest store (R73);
a reserved address gives FAULT (R7); a register or descriptor word is taken at arrival. -/
def State.sample (s : State) (sh : Sh) (a : Word) : Option (Word × Status) :=
  let x := s.shunter sh
  let n := a.toNat
  if n < 0x4000 then some (s.localWord sh n, .ok)
  else if n < 0x8000 then some ((latestStore a x.scrBuf).getD (s.scrWord (depotOf sh) (n - 0x4000)), .ok)
  else if 0x400000 ≤ n then
    if s.on (wordDomain n) then some ((latestStore a x.mainBuf).getD (s.mainWord n), .ok) else some (0, .state)
  else if 0x100000 ≤ n ∧ n < 0x320000 then none
  else some (0, .fault)

/-- Issue a load: a fifth outstanding one waits until the oldest arrives (R67). -/
def State.issueLoad (s : State) (sh : Sh) (d : Reg) (a : Word) : State :=
  let out := (s.shunter sh).loads.filter LoadEntry.counted
  let s1 := if decide (4 ≤ out.length) && decide (0x100000 ≤ a.toNat) then s.arriveList sh (out.take 1) else s
  s1.modShunter sh (fun x => { x with loads := x.loads ++ [⟨d, a, s1.sample sh a, x.seq, x.pc⟩] })

/-- Issue a store: local data at once (R699), scratch and all else through their buffers; a full buffer drains its
head first (R69). -/
def State.issueStore (s : State) (sh : Sh) (a v : Word) : State :=
  let n := a.toNat
  if n < 0x4000 then s.setLocal sh n v
  else if n < 0x8000 then
    let s1 := if 4 ≤ (s.shunter sh).scrBuf.length then s.drainHead sh .scratch else s
    s1.modShunter sh (fun x => { x with scrBuf := x.scrBuf ++ [⟨a, v, x.seq⟩], seq := x.seq + 1 })
  else
    let s1 := if 8 ≤ (s.shunter sh).mainBuf.length then s.drainHead sh .main else s
    s1.modShunter sh (fun x => { x with mainBuf := x.mainBuf ++ [⟨a, v, x.seq⟩], seq := x.seq + 1 })

/-- A load or store instruction of `len` words: the registers it uses arrive, `f` issues its accesses. -/
def State.memory (s : State) (ok : Bool) (sh : Sh) (len : Nat) (uses : List Reg) (f : State → State) :
    Host.Outcome State Fault Refusal :=
  if !(s.shunter sh).canIssue then .next s
  else if !ok then .next (s.illegal sh)
  else
    let s1 := (s.settle sh uses).modShunter sh (fun x => { x with stepping := false, busy := true })
    let s2 := f s1
    .next (if (s2.shunter sh).busy then s2.modShunter sh (fun x => { x.advance len with busy := false }) else s2)

/-- ld. -/
def execLd (sh : Sh) (d a : Reg) (imm : BitVec 8) (s : State) : Host.Outcome State Fault Refusal :=
  s.memory true sh 1 [d, a] (fun s => s.issueLoad sh d (effAddr (s.shunter sh) a (sext8 imm)))

/-- ldx. -/
def execLdx (sh : Sh) (d a : Reg) (ext : Word) (s : State) : Host.Outcome State Fault Refusal :=
  s.memory true sh 2 [d, a] (fun s => s.issueLoad sh d (effAddr (s.shunter sh) a ext))

/-- st. -/
def execSt (sh : Sh) (d a : Reg) (imm : BitVec 8) (s : State) : Host.Outcome State Fault Refusal :=
  s.memory true sh 1 [d, a] (fun s =>
    s.issueStore sh (effAddr (s.shunter sh) a (sext8 imm)) ((s.shunter sh).r d))

/-- stx. -/
def execStx (sh : Sh) (d a : Reg) (ext : Word) (s : State) : Host.Outcome State Fault Refusal :=
  s.memory true sh 2 [d, a] (fun s => s.issueStore sh (effAddr (s.shunter sh) a ext) ((s.shunter sh).r d))

/-- ldp: two loads (R712). -/
def execLdp (sh : Sh) (d a : Reg) (imm : BitVec 8) (s : State) : Host.Outcome State Fault Refusal :=
  s.memory (isPair d) sh 1 (both d ++ [a]) (fun s =>
    let e := effAddr (s.shunter sh) a (sext8 imm)
    (s.issueLoad sh d e).issueLoad sh (d + 1) (e + 1))

/-- stp: two stores; for d = 0 the first word is 0 (R63). -/
def execStp (sh : Sh) (d a : Reg) (imm : BitVec 8) (s : State) : Host.Outcome State Fault Refusal :=
  s.memory (isPair d) sh 1 (both d ++ [a]) (fun s =>
    let e := effAddr (s.shunter sh) a (sext8 imm)
    let x := s.shunter sh
    (s.issueStore sh e (x.r d)).issueStore sh (e + 1) (x.r (d + 1)))

/-- An outstanding load arrives, the i-th of those the shunter has. An uncorrectable error faults the shunter when
the word lies in local data (R78), and gives 0 with FAULT when it lies in scratch or main store (R79). -/
def execLoadArrival (sh : Sh) (i : Nat) (uncorrectable : Bool) (s : State) : Host.Outcome State Fault Refusal :=
  match (s.shunter sh).loads[i]? with
  | none => .next s
  | some e =>
    let s1 := s.modShunter sh (fun x => { x with loads := x.loads.eraseIdx i })
    if uncorrectable ∧ e.addr.toNat < 0x4000 then .next (s1.faultShunter sh 2 e.pc)
    else if uncorrectable ∧ (e.addr.toNat < 0x8000 ∨ 0x400000 ≤ e.addr.toNat) then
      .next (s1.arriveLoad sh { e with got := some (0, .fault) })
    else .next (s1.arriveLoad sh e)

/-- The head of a store buffer drains (R70). -/
def execStoreDrain (sh : Sh) (buf : Buf) (s : State) : Host.Outcome State Fault Refusal :=
  .next (s.drainHead sh buf)

end Sys2Proof.Machine
end

