-- ==== Sys2Proof/Machine/LowSpeedCmds.lean ====
section
/-! DEFINITION. The commands of the low-speed pins (R582, R591). -/

namespace Sys2Proof.Machine

/-- Levels from outside change (R591). -/
def execGpioChange (pins : BitVec 32) (s : State) : Host.Outcome State Fault Refusal :=
  .next ((s.modHc (fun h => { h with pins := pins })).pinsChanged s.pinLevels)

/-- SPI_CTL (R582). -/
def execSpiGo (src : Src) (c : Fin 2) (v : Word) (s : State) : Host.Outcome State Fault Refusal :=
  s.regWrite src (aHC (0x4100 + 0x20 * c.val)) v

/-- An SPI transfer ends with the octets it has shifted in. -/
def execSpiTransferEnd (c : Fin 2) (data : List Byte) (s : State) : Host.Outcome State Fault Refusal :=
  if s.on dHOST = true ∧ s.lsBusy c.val = true then
    let n := fld (s.reg (aHC (0x4100 + 0x20 * c.val))) 5 0
    .next (((s.putWords (aHC (0x4108 + 0x20 * c.val)) (packOctets (padTo n data))).lsEnd c.val .ok).raise (721 + c.val))
  else .next s

/-- I2C_CTL (R582). -/
def execI2cGo (src : Src) (c : Fin 2) (v : Word) (s : State) : Host.Outcome State Fault Refusal :=
  s.regWrite src (aHC (0x4200 + 0x20 * c.val)) v

/-- The STATUS of an I2C result. -/
def i2cStatus : I2cResult → Status
  | .ok => .ok | .addrNack => .absent | .dataNack => .badarg | .stretched => .timeout

/-- An I2C transaction ends. -/
def execI2cTransactionEnd (c : Fin 2) (res : I2cResult) (data : List Byte) (s : State) : Host.Outcome State Fault Refusal :=
  if s.on dHOST = true ∧ s.lsBusy (2 + c.val) = true then
    let n := fld (s.reg (aHC (0x4200 + 0x20 * c.val))) 5 0
    let t := if res = .ok then s.putWords (aHC (0x4208 + 0x20 * c.val)) (packOctets (padTo n data)) else s
    .next ((t.lsEnd (2 + c.val) (i2cStatus res)).raise (719 + c.val))
  else .next s

/-- A write of UART_DATA. -/
def execUartDataWrite (src : Src) (u : Fin 2) (v : Word) (s : State) : Host.Outcome State Fault Refusal :=
  s.regWrite src (aHC (0x4303 + 0x20 * u.val)) v

/-- A read of UART_DATA. -/
def execUartDataRead (src : Src) (u : Fin 2) (s : State) : Host.Outcome State Fault Refusal :=
  s.regRead src (aHC (0x4303 + 0x20 * u.val))

/-- Four octet times, in core cycles; none at BAUD = 0. -/
def State.uartIdle (s : State) (u : Nat) : Option Nat :=
  let n := (s.reg (aHC (0x4300 + 0x20 * u))).toNat
  if n = 0 then none else some (1200 * 2 ^ 24 / n)

/-- The receive FIFO has stood idle for 4 octet times. -/
def State.uartQuiet (s : State) (u : Nat) : Bool :=
  match s.uartIdle u with
  | some n => decide ((s.uart u).rxAt + n ≤ s.now)
  | none => false

/-- The receive FIFO holds THRESH octets, or is idle. -/
def execUartReceive (u : Fin 2) (s : State) : Host.Outcome State Fault Refusal :=
  let x := s.uart u.val
  if s.on dHOST = true ∧ x.rx ≠ [] ∧ x.told = false ∧
      (s.uartThresh u.val ≤ x.rx.length ∨ s.uartQuiet u.val = true) then
    .next ((s.setUart u.val { x with told := true }).raise (723 + u.val))
  else .next s

/-- An octet arrives; one that finds the FIFO full is lost (log 43). -/
def execUartOctetArrival (u : Fin 2) (v : Byte) (s : State) : Host.Outcome State Fault Refusal :=
  let x := s.uart u.val
  if s.on dHOST = true ∧ s.uartEn u.val = true ∧ x.rx.length < 64 then
    .next (s.setUart u.val
      { x with rx := x.rx ++ [v], rxAt := s.now, told := x.told && decide (s.uartThresh u.val ≤ x.rx.length) })
  else .next s

/-- The first octet of the transmit FIFO has been sent. -/
def execUartOctetSent (u : Fin 2) (s : State) : Host.Outcome State Fault Refusal :=
  let x := s.uart u.val
  match x.tx with
  | [] => .next s
  | b :: r =>
    if s.on dHOST = true ∧ s.uartEn u.val = true then
      .next { s.setUart u.val { x with tx := r } with out := .octets [b] }
    else .next s

end Sys2Proof.Machine
end

