-- ==== Sys2Proof/Machine/MulPair.lean ====
section
/-! DEFINITION. Multiply, divide and the 48-bit pairs (R706–R709, Tables 17-10 and 17-11). -/

namespace Sys2Proof.Machine

/-- The unsigned product of two words. -/
def mulUnsigned (a b : Word) : Long := a.setWidth 48 * b.setWidth 48

/-- The signed product of two words. -/
def mulSigned (a b : Word) : Long := a.signExtend 48 * b.signExtend 48

/-- mulu: the unsigned 48-bit product; N and Z. -/
def execMulu (sh : Sh) (d a b : Reg) (s : State) : Host.Outcome State Fault Refusal :=
  s.plainIf (isPair d) sh 1 (both d ++ [a, b]) (fun x =>
    let p := mulUnsigned (x.r a) (x.r b)
    (x.nz p).setPair d p)

/-- muls: the signed 48-bit product; N and Z. -/
def execMuls (sh : Sh) (d a b : Reg) (s : State) : Host.Outcome State Fault Refusal :=
  s.plainIf (isPair d) sh 1 (both d ++ [a, b]) (fun x =>
    let p := mulSigned (x.r a) (x.r b)
    (x.nz p).setPair d p)

/-- mull: the product modulo 2^24; N and Z. -/
def execMull (sh : Sh) (d a b : Reg) (s : State) : Host.Outcome State Fault Refusal :=
  s.plain sh 1 [d, a, b] (regOp (opLogic (fun p q => p * q)) d a b)

/-- macu: C is the carry out of bit 47; V is unchanged. -/
def execMacu (sh : Sh) (d a b : Reg) (s : State) : Host.Outcome State Fault Refusal :=
  s.plainIf (isPair d) sh 1 (both d ++ [a, b]) (fun x =>
    let p := mulUnsigned (x.r a) (x.r b)
    let r := x.pair d + p
    (x.nzc r (decide (2 ^ 48 ≤ (x.pair d).toNat + p.toNat))).setPair d r)

/-- macs: V is signed overflow; C is unchanged. -/
def execMacs (sh : Sh) (d a b : Reg) (s : State) : Host.Outcome State Fault Refusal :=
  s.plainIf (isPair d) sh 1 (both d ++ [a, b]) (fun x =>
    let p := mulSigned (x.r a) (x.r b)
    let q := x.pair d
    let r := q + p
    (Shunter.setPair { x.nz r with v := (q.msb == p.msb) && (r.msb != q.msb) } d r))

/-- divu: quotient and remainder of a pair by a word; a zero divisor or a quotient of 2^24 or more gives #FF_FFFF
and 0 with V = 1 (R707). -/
def execDivu (sh : Sh) (d a b : Reg) (s : State) : Host.Outcome State Fault Refusal :=
  s.plainIf (isPair d && isPair a) sh 1 (both d ++ both a ++ [b]) (fun x =>
    let n := (x.pair a).toNat
    let m := (x.r b).toNat
    let bad := decide (m = 0) || decide (2 ^ 24 ≤ n / m)
    let q : Word := if bad then 0xFFFFFF else wd (n / m)
    let r : Word := if bad then 0 else wd (n % m)
    Shunter.setPair { x with z := decide (q = 0), v := bad, c := false } d (long q r))

/-- r ← P(a) + P(b) with its flags. -/
def opAddp (x : Shunter) (a b : Long) : Long × Shunter := (a + b, x.addFlags a b (a + b) false)

/-- r ← P(a) − P(b) with its flags. -/
def opSubp (x : Shunter) (a b : Long) : Long × Shunter := (a - b, x.subFlags a b (a - b) false)

/-- addp: N, Z, C and V from the 48-bit result. -/
def execAddp (sh : Sh) (d a b : Reg) (s : State) : Host.Outcome State Fault Refusal :=
  s.plainIf (isPair d && isPair a && isPair b) sh 1 (both d ++ both a ++ both b) (pairOp opAddp d a b)

/-- subp: N, Z, C and V from the 48-bit result. -/
def execSubp (sh : Sh) (d a b : Reg) (s : State) : Host.Outcome State Fault Refusal :=
  s.plainIf (isPair d && isPair a && isPair b) sh 1 (both d ++ both a ++ both b) (pairOp opSubp d a b)

/-- shlp by gb[5:0] (R709). -/
def execShlp (sh : Sh) (d a b : Reg) (s : State) : Host.Outcome State Fault Refusal :=
  s.plainIf (isPair d && isPair a) sh 1 (both d ++ both a ++ [b]) (fun x => pairShift .shl d a (fld (x.r b) 5 0) x)

/-- shrp by gb[5:0] (R709). -/
def execShrp (sh : Sh) (d a b : Reg) (s : State) : Host.Outcome State Fault Refusal :=
  s.plainIf (isPair d && isPair a) sh 1 (both d ++ both a ++ [b]) (fun x => pairShift .shr d a (fld (x.r b) 5 0) x)

/-- sarp by gb[5:0] (R709). -/
def execSarp (sh : Sh) (d a b : Reg) (s : State) : Host.Outcome State Fault Refusal :=
  s.plainIf (isPair d && isPair a) sh 1 (both d ++ both a ++ [b]) (fun x => pairShift .sar d a (fld (x.r b) 5 0) x)

/-- movp: N and Z. -/
def execMovp (sh : Sh) (d a : Reg) (s : State) : Host.Outcome State Fault Refusal :=
  s.plainIf (isPair d && isPair a) sh 1 (both d ++ both a) (fun x => (x.nz (x.pair a)).setPair d (x.pair a))

/-- cmpp: the flags of subp alone. -/
def execCmpp (sh : Sh) (a b : Reg) (s : State) : Host.Outcome State Fault Refusal :=
  s.plainIf (isPair a && isPair b) sh 1 (both a ++ both b) (fun x => (opSubp x (x.pair a) (x.pair b)).2)

/-- sxp: ga sign-extended to a pair; N and Z. -/
def execSxp (sh : Sh) (d a : Reg) (s : State) : Host.Outcome State Fault Refusal :=
  s.plainIf (isPair d) sh 1 (both d ++ [a]) (fun x =>
    let v : Long := (x.r a).signExtend 48
    (x.nz v).setPair d v)

end Sys2Proof.Machine
end

