-- ==== Sys2Proof/Machine/NfcCmds.lean ====
section
/-! DEFINITION. The commands of the NFC tag (R576–R581). -/

namespace Sys2Proof.Machine

/-- The field arrives or is lost (R577, R580, R581, R591). While the chip is off, the field alone powers the tag. -/
def execNfcFieldChange (present : Bool) (s : State) : Host.Outcome State Fault Refusal :=
  if s.hc.nfc.field = present then .next s
  else
    let t := s.modNfc (fun n => { n with field := present, file := .none, ownUntil := 0 })
    if t.on dNFC then
      let u := t.raise 712
      if present then .next (u.wakeBy .nfc) else .next u.applyCommit
    else if present then .next t.nfcPowerUp
    else .next t

/-- A command APDU and its response, `l` the response data: the field owns the tag memory from now until the response
ends, a time that nothing states (log 42); #BD records it. -/
def State.apdu (s : State) (l : List Byte) : State :=
  let f := s.take
  let us := f.1 % 2 ^ 24
  let t := { f.2.modNfc (fun n => { n with ownUntil := s.now + us * cycUs }) with out := .octets l }
  if t.on dNFC then t.occurV 0xBD (wd us) else t

/-- An APDU answered #9000 (PRESUMED, log 42). -/
def State.apduOk (s : State) (l : List Byte) : State := s.apdu (l ++ [0x90, 0x00])

/-- An APDU answered with an error status word. -/
def State.apduError (s : State) (sw : List Byte) : State :=
  let t := s.apdu sw
  if t.on dNFC then t.occur 0xB8 else t

/-- An error whose status word the spec does not give (log 42). -/
def State.apduRefused (s : State) : State :=
  let f := s.freeOctets 2
  f.2.apduError f.1

/-- While the field is present. A command APDU is taken after a pending commit has been applied (R580). -/
def State.tagged (s : State) (f : State → State) : Host.Outcome State Fault Refusal :=
  if s.hc.nfc.field then .next (f s.applyCommit) else .next s

/-- SELECT of the application or of one of its files (R576). -/
def execSelect (data : List Byte) (s : State) : Host.Outcome State Fault Refusal :=
  s.tagged (fun s =>
    let pick := fun (x : TagFile) => (s.modNfc (fun n => { n with file := x })).apduOk []
    if data = [0xD2, 0x76, 0x00, 0x00, 0x85, 0x01, 0x01] then pick .app
    else if s.hc.nfc.file = .none then s.apduRefused
    else if data = [0xE1, 0x03] then pick .container
    else if data = [0xE1, 0x04] then pick .ndef
    else s.apduRefused)

/-- First octet in the tag memory, and length, of the selected file. -/
def TagFile.span : TagFile → Nat × Nat
  | .container => (0, 15)
  | .ndef => (16, 8176)
  | _ => (0, 0)

/-- READ BINARY (R576). -/
def execReadBinary (ofs len : Nat) (s : State) : Host.Outcome State Fault Refusal :=
  s.tagged (fun s =>
    let f := s.hc.nfc.file.span
    if 254 < len ∨ f.2 < ofs + len ∨ f.2 = 0 then s.apduRefused
    else s.apduOk ((upTo len).map (fun i => s.tagByte (f.1 + ofs + i))))

/-- UPDATE BINARY, applied whole at the end of its APDU (R577). -/
def execUpdateBinary (ofs : Nat) (data : List Byte) (s : State) : Host.Outcome State Fault Refusal :=
  s.tagged (fun s =>
    if s.hc.nfc.file ≠ .ndef ∨ bit (s.reg (aHC 0x2000)) 23 = false ∨ 251 < data.length ∨ 8176 < ofs + data.length then
      s.apduRefused
    else ((s.putTag (16 + ofs) data).raise 713).apduOk [])

/-- Any other instruction is answered #6D00 (R576). -/
def execUnknownApdu (ins : Byte) (s : State) : Host.Outcome State Fault Refusal :=
  s.tagged (fun s => if ins = 0xA4 ∨ ins = 0xB0 ∨ ins = 0xD6 then s else s.apduError [0x6D, 0x00])

/-- A read of HC_NFCWIN (R578). -/
def execHcNfcwinRead (src : Src) (k : Nat) (s : State) : Host.Outcome State Fault Refusal :=
  if k < 2731 then s.regRead src (aHC (0x3000 + k)) else .next s

/-- HC_NFCCMT (R579, R580). -/
def execHcNfccmt (src : Src) (v : Word) (s : State) : Host.Outcome State Fault Refusal := s.regWrite src (aHC 0x2004) v

/-- A pending commit is applied with no field, or in the gap after an APDU's response (R580). -/
def execStagingCommitApplied (s : State) : Host.Outcome State Fault Refusal :=
  if s.fieldOwns then .next s else .next s.applyCommit

end Sys2Proof.Machine
end

