-- ==== Sys2Proof/Machine/PointsCmds.lean ====
section
/-! DEFINITION. The commands of points (R368), each taking effect on the port whose command word names it. -/

namespace Sys2Proof.Machine

/-- The command `op` of port `p` takes effect where it waits there and the TABLES domain is on. -/
def State.ptRun (s : State) (p op : Nat) (run : State → PtAns × State) : Host.Outcome State Fault Refusal :=
  if s.portBusy p = true ∧ s.portOp p = op ∧ s.on dTABLES = true then
    let r := run s
    .next (r.2.portDone p r.1)
  else .next s

/-- NREAD. -/
def execNread (p : Fin 11) (s : State) : Host.Outcome State Fault Refusal :=
  s.ptRun p.val 1 (fun s => s.nread (s.portHandle p.val))

/-- NWRITE. -/
def execNwrite (p : Fin 11) (s : State) : Host.Outcome State Fault Refusal :=
  s.ptRun p.val 2 (fun s => s.nwrite (s.portHandle p.val) (s.portWords p.val 16))

/-- NINSERT. -/
def execNinsert (p : Fin 11) (s : State) : Host.Outcome State Fault Refusal :=
  s.ptRun p.val 3 (fun s => s.ninsert (bit (s.reg (aPort p.val 3)) 10) (s.portWords p.val 16))

/-- NDELETE. -/
def execNdelete (p : Fin 11) (s : State) : Host.Outcome State Fault Refusal :=
  s.ptRun p.val 4 (fun s => s.ndelete (s.portHandle p.val))

/-- NFIND. -/
def execNfind (p : Fin 11) (s : State) : Host.Outcome State Fault Refusal :=
  s.ptRun p.val 5 (fun s => s.nfind (s.portKt p.val) (s.portKey p.val))

/-- NUPDL. -/
def execNupdl (p : Fin 11) (s : State) : Host.Outcome State Fault Refusal :=
  s.ptRun p.val 6 (fun s => s.nupdl (s.portHandle p.val) ((s.portWords p.val 16).drop 10))

/-- NSYNC (R380). -/
def execNsync (p : Fin 11) (s : State) : Host.Outcome State Fault Refusal :=
  s.ptRun p.val 7 (fun s => s.nsync (s.portHandle p.val) (s.portWords p.val 10))

/-- LEARN (R370). -/
def execLearn (p : Fin 11) (s : State) : Host.Outcome State Fault Refusal :=
  s.ptRun p.val 8 (fun s =>
    s.learn (s.portKt p.val) (s.portKey p.val) (fld (s.reg (aPort p.val 3)) 15 12) (fld (s.portData p.val 0) 17 0))

/-- RADD (R356). -/
def execRadd (p : Fin 11) (s : State) : Host.Outcome State Fault Refusal :=
  s.ptRun p.val 0x10 (fun s => s.radd (s.portLen p.val) (s.portAddr p.val) (s.portData p.val 0) (s.portData p.val 1))

/-- RDEL. -/
def execRdel (p : Fin 11) (s : State) : Host.Outcome State Fault Refusal :=
  s.ptRun p.val 0x11 (fun s => s.rdel (s.portLen p.val) (s.portAddr p.val))

/-- RFIND. -/
def execRfind (p : Fin 11) (s : State) : Host.Outcome State Fault Refusal :=
  s.ptRun p.val 0x12 (fun s => s.rfind (s.portLen p.val) (s.portAddr p.val))

/-- LOOKUP (R358, R359). -/
def execLookup (p : Fin 11) (s : State) : Host.Outcome State Fault Refusal :=
  s.ptRun p.val 0x13 (fun s => s.lookup (s.portAddr p.val) (bit (s.reg (aPort p.val 3)) 9))

/-- DSET. -/
def execDset (p : Fin 11) (s : State) : Host.Outcome State Fault Refusal :=
  s.ptRun p.val 0x14 (fun s => s.dset (s.portHandle p.val % 65536) (s.portData p.val 0) (s.portData p.val 1))

/-- DGET. -/
def execDget (p : Fin 11) (s : State) : Host.Outcome State Fault Refusal :=
  s.ptRun p.val 0x15 (fun s => s.dget (s.portHandle p.val % 65536))

/-- FGET. -/
def execFget (p : Fin 11) (s : State) : Host.Outcome State Fault Refusal :=
  s.ptRun p.val 0x16 (fun s => s.fget (s.portHandle p.val % 65536))

/-- FCLR (R357). -/
def execFclr (p : Fin 11) (s : State) : Host.Outcome State Fault Refusal :=
  s.ptRun p.val 0x17 (fun s => s.fclr (s.portHandle p.val % 65536) (s.portWords p.val 5))

/-- PT_HSEED (R352). -/
def execPtHseedWrite (src : Src) (v : Word) (s : State) : Host.Outcome State Fault Refusal := s.regWrite src (aPT 0x21) v

/-- PT_CFG (R372). -/
def execPtCfgWrite (src : Src) (v : Word) (s : State) : Host.Outcome State Fault Refusal := s.regWrite src (aPT 0x20) v

/-- PT_SHBASE, or PT_SHRCNT where `rcnt` is set (R381). -/
def execPtShadowWrite (src : Src) (rcnt : Bool) (v : Word) (s : State) : Host.Outcome State Fault Refusal :=
  s.regWrite src (aPT (if rcnt then 0x2A3 else 0x2A2)) v

/-- The scrubber runs: TABLES on and PT_SCR_CTL.EN. -/
def State.scrOn (s : State) : Bool := s.on dTABLES && bit (s.reg (aPT 0x2A0)) 23

/-- The scrubber handles a node entry (R377, R378). -/
def execScrubberNodeVisit (s : State) : Host.Outcome State Fault Refusal :=
  if s.scrOn = true ∧ s.scrPhase = 0 then
    if s.on dDRAM then
      let t := s.scrBegin
      .next (t.scrNode t.scrPos)
    else .next s.scrWait
  else .next s

/-- The scrubber handles a direct entry, a filter entry or a route record (R379). -/
def execScrubberTableVisit (s : State) : Host.Outcome State Fault Refusal :=
  if s.scrOn = true ∧ s.scrPhase ≠ 0 then
    if s.on dDRAM then .next s.scrBegin.scrTable else .next s.scrWait
  else .next s

end Sys2Proof.Machine
end

