-- ==== Sys2Proof/Machine/RtcCmds.lean ====
section
/-! DEFINITION. The commands of the real-time clock (R651–R659). -/

namespace Sys2Proof.Machine

/-- The alarm fires: ALMF is set (R656). -/
def State.rtcAlarm (s : State) : State := (s.modRtc (fun r => { r with almDue := false })).setRegFld (aRTC 7) 19 19 1

/-- RTC_CMD.LOAD (R655). -/
def execRtcLoad (src : Src) (s : State) : Host.Outcome State Fault Refusal := s.regWrite src (aRTC 0xB) 0x800000

/-- RTC_CMD.SYNC (R655). -/
def execRtcSync (src : Src) (s : State) : Host.Outcome State Fault Refusal := s.regWrite src (aRTC 0xB) 0x400000

/-- A crystal edge applies the staged command (R655). -/
def execRtcCommandApply (s : State) : Host.Outcome State Fault Refusal :=
  if s.on dBKP = true ∧ s.rtc.stopped = false then .next s.rtcApply else .next s

/-- SEC has become equal to the alarm (R656). -/
def execRtcAlarm (s : State) : Host.Outcome State Fault Refusal :=
  if s.on dBKP = true ∧ s.rtc.almDue = true then
    let t := s.rtcAlarm
    match t.pw.mode with
    | .keepalive => .next t.keepaliveUp
    | .dormant => .next (t.wakeBy .rtc)
    | _ => if t.pw.inReset.isSome then .next t else .next ((t.raise 773).wakeBy .rtc)
  else .next s

/-- The crystal has given no edge for 2 ms (R659). -/
def execOscillatorStop (s : State) : Host.Outcome State Fault Refusal :=
  if s.on dAON = true ∧ s.rtc.stopped = false then
    .next ((((s.modRtc (fun r => { r with stopped := true })).setRegFld (aRTC 7) 22 22 1).raise 775).occur 0x07)
  else .next s

/-- Crystal edges return and the count goes on (R659). -/
def execOscillatorRestart (s : State) : Host.Outcome State Fault Refusal :=
  .next (s.modRtc (fun r => { r with stopped := false }))

end Sys2Proof.Machine
end

