-- ==== Sys2Proof/Machine/PowerCmds.lean ====
section
/-! DEFINITION. The commands of the power controller: requests, resets, supplies and pins (chapter 15). -/

namespace Sys2Proof.Machine

/-! ### Requests -/

/-- A write of PW_MODEREQ (R624, R625). -/
def execModeRequest (src : Src) (target : Fin 8) (s : State) : Host.Outcome State Fault Refusal :=
  s.regWrite src (aPW 1) (wd (target.val * 2 ^ 21))

/-- An accepted change of mode completes (R626, R627). -/
def execModeChangeDone (s : State) : Host.Outcome State Fault Refusal := .next s.modeChanged

/-- A request for DORMANT (R634). -/
def execDormantRequest (src : Src) (s : State) : Host.Outcome State Fault Refusal := s.regWrite src (aPW 1) (wd (2 * 2 ^ 21))

/-- Entry to DORMANT completes (Table 15-4, R635). -/
def execDormantEntryComplete (s : State) : Host.Outcome State Fault Refusal :=
  if s.pw.sleep = true ∧ s.pw.inReset = none then .next s.enterDormant else .next s

/-- A request for KEEPALIVE (R648). -/
def execKeepaliveRequest (src : Src) (s : State) : Host.Outcome State Fault Refusal := s.regWrite src (aPW 1) (wd (1 * 2 ^ 21))

/-- A wake source of DORMANT fires (R635–R637). -/
def execWake (w : WakeSrc) (s : State) : Host.Outcome State Fault Refusal := .next (s.wakeBy w)

/-- WAKE_N low, or the alarm that RTC_STAT.ALMF shows, in KEEPALIVE (R648, Table 15-2). -/
def execKeepaliveWake (pin : Bool) (s : State) : Host.Outcome State Fault Refusal :=
  if pin then (if bit (s.reg (aRTC 0xE)) 22 then .next s.keepaliveUp else .next s)
  else if bit (s.reg (aRTC 0xE)) 23 && s.rtc.almDue then .next s.rtcAlarm.keepaliveUp
  else .next s

/-- PW_DCMD.GO (R630). -/
def execDomainRequest (src : Src) (s : State) : Host.Outcome State Fault Refusal := s.regWrite src (aPW 0x12) 0x800000

/-- The changes of a domain request take effect (R631). -/
def execDomainChangeDone (s : State) : Host.Outcome State Fault Refusal := .next s.domainsChanged

/-! ### Resets -/

/-- RESET_N has been low for 5 µs (R642): a reset whose hold is measured, unless a start with POWER_ON or
KEEPALIVE_WAKE goes on (R645). -/
def execResetPinFall (s : State) : Host.Outcome State Fault Refusal :=
  let t := s.modPw (fun p => { p with resetLow := true })
  if !t.on dAON ∨ s.pw.resetLow = true then .next t
  else
    let u := t.modPw (fun p => { p with pinHold := true })
    if u.pw.inReset = some 0 ∨ u.pw.inReset = some 10 then .next u else .next (u.enterReset 2)

/-- The cause that a hold of `ms` milliseconds selects (R643). -/
def pinCause (ms : Nat) : BitVec 4 := if ms < 8000 then 2 else if ms ≤ 15000 then 3 else 4

/-- RESET_N rises after a hold of `holdMs` (R643). -/
def execResetPinRise (holdMs : Nat) (s : State) : Host.Outcome State Fault Refusal :=
  let t := s.modPw (fun p => { p with resetLow := false })
  if s.pw.pinHold then
    let u := ((t.modPw (fun p => { p with pinHold := false })).setReg (aPW 4) (wd (min holdMs 16777215))).occurV 0x02
      (wd (min holdMs 16777215))
    if u.pw.inReset = some 0 ∨ u.pw.inReset = some 10 then .next u
    else .next (u.modPw (fun p => { p with inReset := some (pinCause holdMs) }))
  else .next t

/-- Reset is released with every supply good, RESET_N high and, after a thermal trip, the die cool (R647, R665);
the boot ROM runs (R541). -/
def execResetRelease (s : State) : Host.Outcome State Fault Refusal :=
  match s.pw.inReset with
  | none => .next s
  | some c =>
    if s.pw.ioAonGood = true ∧ s.pw.mainGood = true ∧ s.pw.resetLow = false ∧ (c = 11 → s.cooled = true) then
      .next (s.release48 c)
    else .next s

/-- A write of PW_SWRST (R644). -/
def execPwSwrst (src : Src) (v : Word) (s : State) : Host.Outcome State Fault Refusal := s.regWrite src (aPW 5) v

/-- A main supply other than VDD_IO and VDD_AON browns out (Table 15-6). -/
def execBrownout (s : State) : Host.Outcome State Fault Refusal :=
  if !s.on dAON then .next (s.modPw (fun p => { p with mainGood := false }))
  else
    let t := (s.modPw (fun p => { p with mainGood := false })).occur 0x01
    if t.pw.inReset.isSome then .next t else .next (t.enterReset 1)

/-! ### Supplies (R647–R649, R657, R659) -/

/-- VDD_IO and VDD_AON become good: AON's power-on reset is released, and power-on begins (Tables 15-2 and 15-7); BKP
with neither supply before takes its reset values (R658). -/
def execSupplyGood (s : State) : Host.Outcome State Fault Refusal :=
  if s.pw.ioAonGood then .next s
  else
    let t := s.modPw (fun p => { p with ioAonGood := true })
    if t.pw.mode = .off then .next (t.clearDomain dBKP).aonStart else .next t.aonStart

/-- The last of the other main supplies and the TCXO become good: the START domains are powered (Table 15-7). -/
def execMainSuppliesGood (s : State) : Host.Outcome State Fault Refusal :=
  if s.pw.mainGood then .next s
  else
    let t := s.modPw (fun p => { p with mainGood := true })
    if t.pw.inReset.isSome && t.pw.ioAonGood then .next t.powerStart else .next t

/-- A staged RTC command is discarded, with WDISC set (R657). -/
def State.rtcDiscard (s : State) : State :=
  if s.rtc.staged.isSome then
    ((s.modRtc (fun r => { r with staged := none })).setReg (aRTC 7) (setBit (s.reg (aRTC 7)) 21 true)).modPw (fun p =>
      { p with noteDisc := true })
  else s

/-- VDD_IO or VDD_AON fails: the RTC interface locks, then KEEPALIVE or OFF (R657, Table 15-2). -/
def execSupplyFailure (s : State) : Host.Outcome State Fault Refusal :=
  if !s.pw.ioAonGood then .next s
  else
    let t := (s.modPw (fun p => { p with rtcLocked := true, ioAonGood := false, mainGood := false })).rtcDiscard
    .next (t.powerLost t.pw.vbatGood)

/-- BKP moves to VBAT (R657). -/
def execVbatSwitchOver (s : State) : Host.Outcome State Fault Refusal :=
  if s.pw.ioAonGood = false ∧ s.pw.vbatGood = true ∧ s.pw.onVbat = false then
    let n := min (fld (s.reg (aRTC 7)) 15 0 + 1) 65535
    .next ((s.setRegFld (aRTC 7) 15 0 n).modPw (fun p => { p with onVbat := true, noteVbat := true }))
  else .next s

/-- BKP moves back to VDD_IO (R657). -/
def execVddIoReturn (s : State) : Host.Outcome State Fault Refusal :=
  if s.pw.ioAonGood = true ∧ s.pw.onVbat = true then .next (s.modPw (fun p => { p with onVbat := false })) else .next s

/-- VBAT rises: from OFF the device enters KEEPALIVE with BKP at its reset values (Table 15-2, R658). -/
def execVbatRise (s : State) : Host.Outcome State Fault Refusal :=
  let t := s.modPw (fun p => { p with vbatGood := true })
  if t.pw.mode = .off ∧ t.pw.ioAonGood = false then
    .next ((t.clearDomain dBKP).modPw (fun p => { p with mode := .keepalive, don := 1, onVbat := true }))
  else .next (t.setRegFld (aRTC 7) 20 20 0)

/-- VBAT falls below 1.8 V: OFF from KEEPALIVE while the main supplies are absent (Table 15-2). -/
def execVbatFall (s : State) : Host.Outcome State Fault Refusal :=
  let t := s.modPw (fun p => { p with vbatGood := false })
  if t.pw.mode = .keepalive ∧ t.pw.ioAonGood = false then .next ((t.powerLost false).modPw (fun p => { p with onVbat := false }))
  else .next t

/-- VBAT is below 2.0 V while the main supplies are present (R659). -/
def execVbatLow (s : State) : Host.Outcome State Fault Refusal :=
  if s.pw.ioAonGood = true ∧ s.on dAON = true then .next ((s.setRegFld (aRTC 7) 20 20 1).raise 774) else .next s

/-- PFAIL_N falls (R649, R687). -/
def execPfailNFall (s : State) : Host.Outcome State Fault Refusal :=
  let t := s.modPw (fun p => { p with pfailLow := true })
  if t.on dAON = true ∧ s.pw.pfailLow = false then
    let u := t.raise 771
    if bit (u.reg (aHM 5)) 23 then .next (u.startSnapshot false).2 else .next u
  else .next t

/-- PFAIL_N rises (R649, R636). -/
def execPfailNRise (s : State) : Host.Outcome State Fault Refusal :=
  let t := s.modPw (fun p => { p with pfailLow := false })
  if t.on dAON = true ∧ s.pw.pfailLow = true then .next ((t.raise 772).wakeBy .pfail) else .next t

/-- A write of PW_SSC (R650). -/
def execPwSscWrite (src : Src) (v : Word) (s : State) : Host.Outcome State Fault Refusal := s.regWrite src (aPW 6) v

end Sys2Proof.Machine
end

