-- ==== Sys2Proof/Machine/RadioCmds.lean ====
section
/-! DEFINITION. The commands of the front ends and transmit chains (chapters 03 and 05). -/

namespace Sys2Proof.Machine

/-! ### Synthesiser -/

/-- FE_WIN (R139, R147). -/
def execFeWinWrite (src : Src) (band : Band) (v : Word) (s : State) : Host.Outcome State Fault Refusal :=
  s.regWrite src (aFE band 1) v

/-- A synthesiser that tunes locks (R147). -/
def execSynthesiserLock (band : Band) (s : State) : Host.Outcome State Fault Refusal :=
  if s.on (dRX band) = true ∧ (s.radio band).tuneAt.isSome = true then .next (s.lockSynth band) else .next s

/-- A locked synthesiser loses lock (R148, R149); it tunes again while SYNEN is set. -/
def execLossOfLock (band : Band) (s : State) : Host.Outcome State Fault Refusal :=
  if s.synthLocked band then
    .next ((s.loseLock band).modRadio band (fun r => { r with tuneAt := some s.now }))
  else .next s

/-- The station clock delivers its reference offset to both synthesisers (R144–R146, R315). -/
def execReferenceOffsetDelivery (s : State) : Host.Outcome State Fault Refusal :=
  if s.on dSC = true ∧ s.sc.refPend = true then
    let e := s.reg (aSC 0x12)
    .next (((s.modSc (fun c => { c with refPend := false })).deliverE .a e).deliverE .b e)
  else .next s

/-! ### Gain -/

/-- Clipping in a chain (R150–R152). -/
def execAgcGainDrop (band : Band) (chain : Fin 4) (s : State) : Host.Outcome State Fault Refusal :=
  if s.on (dRX band) = true ∧ bit (s.reg (aFE band 0)) chain.val = true then .next (s.clip band chain.val) else .next s

/-- The level has stayed more than 6 dB below the target for DECAY ms (R150). -/
def execAgcGainRise (band : Band) (chain : Fin 4) (s : State) : Host.Outcome State Fault Refusal :=
  let g := s.gain band chain.val
  if s.on (dRX band) = true ∧ bit (s.reg (aFE band 0)) chain.val = true ∧ s.manualGain band = false ∧ g < 60 then
    .next (s.setGain band chain.val (g + 1))
  else .next s

/-- FE_AGC_GAIN (R154). -/
def execFeAgcGainWrite (src : Src) (band : Band) (chain : Fin 4) (v : Word) (s : State) : Host.Outcome State Fault Refusal :=
  s.regWrite src (aFE band (0x14 + chain.val)) v

/-! ### Predistortion -/

/-- 64 µs of signal have been on air with DPDADAPT set (R158); not while the feedback is over range (R160). -/
def execDpdUpdate (band : Band) (converged : Bool) (s : State) : Host.Outcome State Fault Refusal :=
  if s.on (dTX band) = true ∧ bit (s.reg (aTX band 0)) 21 = true ∧ s.onAir band = true ∧
      bit (s.reg (aTX band 5)) 21 = false then
    .next ((s.adapt band 56).setRegFld (aTX band 5) 22 22 (b2n converged))
  else .next s

/-- A write (`some`) or read of TX_DPD_DATA (R159). -/
def execTxDpdDataAccess (src : Src) (band : Band) (v : Option Word) (s : State) : Host.Outcome State Fault Refusal :=
  match v with
  | some w => s.regWrite src (aTX band 0xA) w
  | none => s.regRead src (aTX band 0xA)

/-- The feedback level exceeds −1 dBFS (R160). -/
def execFeedbackOverRange (band : Band) (s : State) : Host.Outcome State Fault Refusal :=
  if s.on (dTX band) = true ∧ bit (s.reg (aTX band 5)) 21 = false then
    .next (((s.setRegFld (aTX band 5) 21 21 1).raise (318 + band.idx)).occur 0x27)
  else .next s

/-- The feedback level is back below −3 dBFS (R160). -/
def execFeedbackInRange (band : Band) (s : State) : Host.Outcome State Fault Refusal :=
  if s.on (dTX band) = true ∧ bit (s.reg (aTX band 5)) 21 = true then .next (s.setRegFld (aTX band 5) 21 21 0) else .next s

/-! ### Antenna and air -/

/-- TX_ANT.REQ (R161, R162). -/
def execAntennaRequest (src : Src) (band : Band) (v : Word) (s : State) : Host.Outcome State Fault Refusal :=
  s.regWrite src (aTX band 3) v

/-- An armed slot is due within SWLEAD + PALEAD: the band goes on air (R163, Table 03-4). -/
def execGoOnAir (band : Band) (s : State) : Host.Outcome State Fault Refusal :=
  if s.on (dTX band) = true ∧ s.silenced = false ∧ s.synthLocked band = true ∧ s.onAir band = false ∧
      s.dueWithin band (s.swLead band + s.paLead band) = true then
    .next (s.goOnAir band)
  else .next s

/-- Nothing is on air, and nothing follows within PALAG + PALEAD: the band goes off air (R163). -/
def execGoOffAir (band : Band) (s : State) : Host.Outcome State Fault Refusal :=
  if s.on (dTX band) = true ∧ (s.radio band).paEn = true ∧ (s.slotsIn band 2).isEmpty = true ∧
      s.dueWithin band (s.paLag band + s.paLead band) = false then
    .next (s.goOffAir band)
  else .next s

/-! ### Region record -/

/-- FE_RGN_COMMIT (R165, R166). -/
def execFeRgnCommit (src : Src) (v : Word) (s : State) : Host.Outcome State Fault Refusal := s.regWrite src (aFER 0xF003) v

/-- A commit completes (R166–R168). -/
def execRegionCommitDone (s : State) : Host.Outcome State Fault Refusal :=
  if s.on dMRAM = true ∧ s.fe.committing = true then .next s.commitDone else .next s

/-- A write (`some`) or read of FE_RGN_DATA (R175). -/
def execFeRgnDataAccess (src : Src) (v : Option Word) (s : State) : Host.Outcome State Fault Refusal :=
  match v with
  | some w => s.regWrite src (aFER 0xF002) w
  | none => s.regRead src (aFER 0xF002)

/-- A bucket of an accumulator is full (R170). Buckets count from the power-up of the TX domain. -/
def execAccumulatorBucketAdvance (band : Band) (acc : AccId) (s : State) : Host.Outcome State Fault Refusal :=
  let x := s.accum band acc
  let t := max x.since (mapGet (fun _ => 0) s.pw.onAt (dTX band)) + bucketLen (s.accWindow band acc)
  if s.on (dTX band) = true ∧ t ≤ s.now then
    let u := s.setAccum band acc (x.roll t)
    .next (match acc with
      | .dwell _ => u
      | .duty g => u.dutyCross band g)
  else .next s

/-! ### Transmit slots -/

/-- TS_CTL.ARM (R232). -/
def execTsArm (src : Src) (band : Band) (slot : Fin 16) (s : State) : Host.Outcome State Fault Refusal :=
  s.regWrite src (aTS band slot.val 0) (setBit (s.reg (aTS band slot.val 0)) 23 true)

/-- TS_CTL.DISARM (R232). -/
def execTsDisarm (src : Src) (band : Band) (slot : Fin 16) (s : State) : Host.Outcome State Fault Refusal :=
  s.regWrite src (aTS band slot.val 0) (setBit (s.reg (aTS band slot.val 0)) 22 true)

/-- Station time reaches TS_TACT of an armed slot (R170–R172, R228, R233); `busy` is what the listen check
measures. -/
def execTsLaunch (band : Band) (slot : Fin 16) (busy : Bool) (s : State) : Host.Outcome State Fault Refusal :=
  if s.on (dTX band) = true ∧ s.synthLocked band = true ∧ s.slotState band slot.val = 1 ∧
      after (s.slotTact band slot.val) s.tcap = false ∧ (s.unready band slot.val = false ∨ s.sb.state = .stalled) then
    .next (s.launch band slot.val busy)
  else .next s

/-- The last sample of a frame on air (R232). -/
def execLastDacSample (band : Band) (slot : Fin 16) (s : State) : Host.Outcome State Fault Refusal :=
  if s.on (dTX band) = true ∧ s.slotState band slot.val = 2 ∧ (s.slotFrame band slot.val).endAt ≤ s.now then
    .next (s.slotDone band slot.val .ok)
  else .next s

/-- TX_CTL (R232). -/
def execTxCtlWrite (src : Src) (band : Band) (v : Word) (s : State) : Host.Outcome State Fault Refusal :=
  s.regWrite src (aTX band 0) v

end Sys2Proof.Machine
end

