-- ==== Sys2Proof/Machine/YardReq.lean ====
section
/-! DEFINITION. The yard requests (R393–R407, R419–R427, R755), from a shunter's instruction (R403, R723, R724) and from
the host port (R405). -/

namespace Sys2Proof.Machine

/-- What a request returns: a status, a number, words and a stamp. -/
structure YardAns where
  status : Status
  num : Nat := 0
  words : List Word := []
  stamp : Long := 0
deriving DecidableEq, Repr

def ansOf (st : Status) (s : State) : YardAns × State := ({ status := st }, s)

/-! ### Enqueue -/

/-- ENQ of a wagon (R393, R394; TT into a node queue by R279). -/
def State.yEnq (s : State) (q : Nat) (w : Wagon) : YardAns × State :=
  match s.enqCheck q w with
  | some (st, occ) => ansOf st (s.countRefusal q st occ)
  | none =>
    if isNodeQueue q && decide (clsOf w.w2 = 0) then
      match s.ttAdmission q (fld w.w1 23 21) with
      | (.ok, asns) => ansOf .ok ((s.claim q asns).placeWagon q (s.reserved w asns))
      | (st, _) => ansOf st ((s.refuseAdmission st).countRefusal q st 0)
    else ansOf .ok (s.placeWagon q w)

/-- The targets of a replication list. -/
def RepList.queues (l : RepList) : List Nat := (upTo l.count).map (fun i => mapGet (fun _ => 0) l.targets i)

/-- The first unused multicast record (R425). -/
def State.freeRecord (s : State) : Option Nat := (upTo 4096).find? (fun i => decide (s.multicast i = none))

/-- The admissions of a TT multicast, in list order, on a working state; a refusal answers with its queue, its
status, its occurrence and whether admission gave it (R426). -/
def State.admitAll (s : State) (rec : Nat) (m : Multicast) : Nat → List McTarget → Except (Nat × Status × Nat × Bool) State
  | _, [] => .ok s
  | i, t :: r =>
    let w := m.wagonFor i t.queue rec
    match s.copyCheck t.queue w with
    | some e => .error (t.queue, e.1, e.2, false)
    | none =>
      match s.ttAdmission t.queue (fld w.w1 23 21) with
      | (.ok, asns) => State.admitAll ((s.claim t.queue asns).placeWagon t.queue (s.reserved w asns)) rec m (i + 1) r
      | (st, _) => .error (t.queue, st, 0, true)

/-- ENQM (R425–R427). -/
def State.yEnqm (s : State) (l : Nat) (w : Wagon) : YardAns × State :=
  let rl := mapGet (fun _ => {}) s.yd.lists l
  if 4096 ≤ l then ansOf .badarg s
  else if !s.yardOn then ansOf .state s
  else if rl.count = 0 ∨ 64 < rl.count then ansOf .badarg s
  else
    let tt := decide (clsOf w.w2 = 0)
    if tt && (bit w.w1 20 || rl.queues.any (fun q => !isNodeQueue q)) then ansOf .badarg s
    else
      match s.freeRecord with
      | none => ansOf .full s
      | some rec =>
        let m : Multicast :=
          { list := l, cq := rl.cq, w0 := w.w0, w1 := w.w1, w2 := w.w2, w3 := w.w3, w4 := w.w4, w5 := w.w5,
            targets := rl.queues.map (fun q => { queue := q }) }
        if tt then
          match s.admitAll rec m 0 m.targets with
          | .ok t =>
            let m1 := { m with targets := m.targets.map (fun x => { x with admitted := true, out := true }) }
            ({ status := .ok, num := m.targets.length }, t.setMulticast rec (some m1))
          | .error (q, st, occ, adm) =>
            let s1 := if adm then s.refuseAdmission st else s
            ansOf st (s1.countRefusal q st occ)
        else
          let r := s.offerCopies rec m (fun _ => true) 0 m.targets
          let n := (r.1.filter (fun t => t.admitted)).length
          if n = 0 then ansOf .full r.2
          else ({ status := .ok, num := n }, r.2.setMulticast rec (some { m with targets := r.1 }))

/-! ### Taking and flushing -/

/-- DEQ (R406, R397, R434). -/
def State.yDeq (s : State) (q : Nat) : YardAns × State :=
  match s.queueCheck q with
  | some st => ansOf st s
  | none =>
    if s.qKind q ≠ 0 ∨ isNodeQueue q = true ∨ s.qEgr q ≠ 0x20 then ansOf .state s
    else
      match s.wagonsOf q with
      | [] => ansOf .absent s
      | w :: _ =>
        if w.ecc ≠ .good then ansOf .fault (s.eccRemove q w)
        else ({ status := .ok, words := [w.w0, w.w1, w.w2, w.w3, w.w4, w.w5] }, (s.unqueue q w.id).releaseWagon w true false)

/-- PUT (R419–R421). -/
def State.yPut (s : State) (q n : Nat) (words : List Word) : YardAns × State :=
  match s.queueCheck q with
  | some st => ansOf st s
  | none =>
    if n = 0 ∨ 64 < n then ansOf .badarg s
    else if s.qKind q = 0 then ansOf .state s
    else
      let r := s.putPacket q words
      ansOf r.1 r.2

/-- GET (R423). GET of a wagon queue completes with STATE, as PUT does (DEDUCED, log 22). -/
def State.yGet (s : State) (q max : Nat) : YardAns × State :=
  match s.queueCheck q with
  | some st => ansOf st s
  | none =>
    if max = 0 ∨ 64 < max then ansOf .badarg s
    else if s.qKind q = 0 then ansOf .state s
    else
      match s.getPacket q max with
      | (st, n, some p, t) => ({ status := st, num := n, words := p.words, stamp := p.stamp }, t)
      | (st, n, none, t) => ({ status := st, num := n }, t)

/-- The completion item of a TT wagon released by QFLUSH (R407). -/
def State.flushItem (s : State) (q : Nat) (w : Wagon) : State :=
  s.postItem { status := .state, att := w.att, final := true, cls := 0, kind := 0, handle := q, buf := w.w0, asn := s.sb.asn }

/-- QFLUSH releases one wagon: a taken one is only marked. -/
def State.flushWagon (s : State) (q : Nat) (w : Wagon) : State :=
  if w.taken then s.modWagon q w.id (fun v => { v with flushed := true })
  else
    let s1 := (s.unqueue q w.id).releaseWagon w false true
    let s2 := if isNodeQueue q && decide (clsOf w.w2 = 0) then s1.flushItem q w else s1
    (s2.count (aYD 0x29)).count (aQ q 6)

/-- QFLUSH (R407). -/
def State.yFlush (s : State) (q : Nat) : YardAns × State :=
  match s.queueCheck q with
  | some st => ansOf st s
  | none =>
    if s.qKind q = 0 then
      let l := s.wagonsOf q
      ({ status := .ok, num := (l.filter (fun w => !w.taken)).length }, l.foldl (fun t w => t.flushWagon q w) s)
    else
      let w := s.wordQ q
      if !w.sound then ansOf .fault (s.pointerError q)
      else
        let s1 := s.countLost q w.packets.length ((w.packets.map (fun p => p.words.length)).sum)
        ({ status := .ok, num := w.packets.length }, s1.setWordQ q { packets := [], last := w.last })

/-! ### Cells -/

/-- The checks of a request that names cells (R755). -/
def State.cellCheck (s : State) (l : List Nat) : Option Status :=
  if l.any (fun c => !s.managed c) then some .badarg
  else if !s.yardOn then some .state
  else none

/-- CALLOC (R396). -/
def State.yCalloc (s : State) (pool n : Nat) : YardAns × State :=
  if !s.yardOn then ansOf .state s
  else if 3 ≤ pool then ansOf .badarg s
  else
    match s.allocCells pool n with
    | (st, c, t) => ({ status := st, num := c }, t)

/-- CFREE (R398). -/
def State.yCfree (s : State) (c : Nat) : YardAns × State :=
  match s.cellCheck [c] with
  | some st => ansOf st s
  | none =>
    let r := s.cfree c
    ansOf r.1 r.2

/-- CLINK (R399). -/
def State.yClink (s : State) (c n : Nat) : YardAns × State :=
  match s.cellCheck [c, n] with
  | some st => ansOf st s
  | none =>
    let r := s.clink c n
    ansOf r.1 r.2

/-- LINK of a cell as read. -/
def CellRec.linkWord (r : CellRec) : Nat := r.link.getD 0x3FFFF

/-- CNEXT (R402): LINK in `num`, the flags word and REF in `words`. -/
def State.yCnext (s : State) (c : Nat) : YardAns × State :=
  match s.cellCheck [c] with
  | some st => ansOf st s
  | none =>
    let r := s.cell c
    ({ status := .ok, num := r.linkWord,
       words := [wd (b2n r.alloc * 2 ^ 23 + b2n r.first * 2 ^ 22 + r.pool.val * 2 ^ 20), wd r.ref] }, s)

/-! ### From a shunter -/

/-- A block of `n` words at a local address lies in local data. -/
def localBlock (a : Word) (n : Nat) : Bool := decide (a.toNat + n ≤ 0x4000)

/-- Words of local data. -/
def State.localWords (s : State) (sh : Sh) (a n : Nat) : List Word := (upTo n).map (fun i => s.localWord sh (a + i))

/-- Write words to local data. -/
def State.putLocal (s : State) (sh : Sh) : Nat → List Word → State
  | _, [] => s
  | a, w :: r => (s.setLocal sh a w).putLocal sh (a + 1) r

/-- The wagon in a block of local data. -/
def State.localWagon (s : State) (sh : Sh) (a : Nat) : Wagon :=
  mkWagon (s.localWord sh a) (s.localWord sh (a + 1)) (s.localWord sh (a + 2)) (s.localWord sh (a + 3))
    (s.localWord sh (a + 4)) (s.localWord sh (a + 5))

/-- A request of a shunter (R723, R403): the profile, the operand block `blk` (address and words), the drain, then
the request, and its results by `fin`. -/
def State.yardRequest (s : State) (sh : Sh) (uses : List Reg) (bit : Nat) (blk : Shunter → Option (Word × Nat))
    (run : State → YardAns × State) (fin : YardAns → State → State) : Host.Outcome State Fault Refusal :=
  s.request sh uses false (fun s =>
    if !s.writeBit sh bit then (s.occur 0x0E).finish sh .denied
    else
      match blk (s.shunter sh) with
      | some (a, n) =>
        if !localBlock a n then s.finish sh .badarg
        else
          let t := s.drainAll sh
          let r := run t
          (fin r.1 r.2).finish sh r.1.status
      | none =>
        let t := s.drainAll sh
        let r := run t
        (fin r.1 r.2).finish sh r.1.status)

/-- Register `r` of a shunter as a number of 18 bits. -/
def Shunter.q (x : Shunter) (r : Reg) : Nat := fld (x.r r) 17 0

/-- No register is written. -/
def noResult (_ : YardAns) (s : State) : State := s

/-- `num` to register `d` on OK. -/
def numTo (sh : Sh) (d : Reg) (a : YardAns) (s : State) : State :=
  if a.status = .ok then s.modShunter sh (fun x => x.setR d (wd a.num)) else s

/-! ### From the host port (R405) -/

/-- OP of YD_HCMD. -/
def State.hostOp (s : State) : Nat := fld (s.reg (aYD 0x100)) 23 20

/-- The queue, list or cell, the pool, and the second argument of the host port. -/
def State.hostQ (s : State) : Nat := fld (s.reg (aYD 0x100)) 17 0
def State.hostPool (s : State) : Nat := fld (s.reg (aYD 0x100)) 19 18
def State.hostArg (s : State) : Nat := fld (s.reg (aYD 0x101)) 17 0

/-- The wagon in YD_HW0–5. -/
def State.hostWagon (s : State) : Wagon :=
  mkWagon (s.reg (aYD 0x108)) (s.reg (aYD 0x109)) (s.reg (aYD 0x10A)) (s.reg (aYD 0x10B)) (s.reg (aYD 0x10C))
    (s.reg (aYD 0x10D))

def State.hostData (s : State) (n : Nat) : List Word := (upTo n).map (fun i => s.reg (aYD (0x140 + i)))

/-- Registers from address `a` on. -/
def State.putRegs (s : State) : Nat → List Word → State
  | _, [] => s
  | a, w :: r => (s.setReg a w).putRegs (a + 1) r

/-- A host request ends: BUSY clears and YD_HSTAT shows its status and the words returned. -/
def State.hostDone (s : State) (st : Status) (n : Nat) : State :=
  (s.setReg (aYD 0x102) (wd (stCode st * 2 ^ 19 + n % 128))).modYd (fun y => { y with hostBusy := false })

/-- The host request `op` takes effect, if it is the one that waits. -/
def State.hostRequest (s : State) (op : Nat) (run : State → YardAns × State) (fin : YardAns → State → State)
    (n : YardAns → Nat) : Host.Outcome State Fault Refusal :=
  if s.yd.hostBusy = true ∧ s.hostOp = op ∧ s.on dYARD = true then
    let r := run s
    .next ((if r.1.status = .ok then fin r.1 r.2 else r.2).hostDone r.1.status (n r.1))
  else .next s

/-- YD_HRES takes `num`. -/
def resTo (a : YardAns) (s : State) : State := s.setReg (aYD 0x103) (wd (a.num % 2 ^ 18))

/-- No words are returned. -/
def noWords (_ : YardAns) : Nat := 0

/-! ### The commands -/

/-- ENQ (R393). -/
def execEnq (r : YardReq) (s : State) : Host.Outcome State Fault Refusal :=
  match r with
  | .shunter sh d a b =>
    if d ≠ 0 then (if (s.shunter sh).canIssue then .next (s.illegal sh) else .next s)
    else
      s.yardRequest sh [a, b] 7 (fun x => some (x.r b, 6))
        (fun s => s.yEnq ((s.shunter sh).q a) (s.localWagon sh ((s.shunter sh).r b).toNat)) noResult
  | .host => s.hostRequest 1 (fun s => s.yEnq s.hostQ s.hostWagon) noResult noWords

/-- ENQM (R425). -/
def execEnqm (r : YardReq) (s : State) : Host.Outcome State Fault Refusal :=
  match r with
  | .shunter sh d a b =>
    s.yardRequest sh [d, a, b] 7 (fun x => some (x.r b, 6))
      (fun s => s.yEnqm (fld ((s.shunter sh).r a) 11 0) (s.localWagon sh ((s.shunter sh).r b).toNat)) (numTo sh d)
  | .host => s.hostRequest 2 (fun s => s.yEnqm s.hostQ s.hostWagon) resTo noWords

/-- DEQ (R406). -/
def execDeq (r : YardReq) (s : State) : Host.Outcome State Fault Refusal :=
  match r with
  | .shunter sh d a b =>
    if d ≠ 0 then (if (s.shunter sh).canIssue then .next (s.illegal sh) else .next s)
    else
      s.yardRequest sh [a, b] 7 (fun x => some (x.r b, 6)) (fun s => s.yDeq ((s.shunter sh).q a))
        (fun ans s => s.putLocal sh ((s.shunter sh).r b).toNat ans.words)
  | .host => s.hostRequest 3 (fun s => s.yDeq s.hostQ) (fun ans s => s.putRegs (aYD 0x108) ans.words) noWords

/-- PUT (R419). -/
def execPut (r : YardReq) (s : State) : Host.Outcome State Fault Refusal :=
  match r with
  | .shunter sh d a b =>
    s.yardRequest sh [d, a, b] 7
      (fun x => if (x.r d).toNat ≤ 64 then some (x.r b, (x.r d).toNat) else none)
      (fun s =>
        let x := s.shunter sh
        let n := (x.r d).toNat
        s.yPut (x.q a) n (s.localWords sh (x.r b).toNat (min n 64))) noResult
  | .host => s.hostRequest 4 (fun s => s.yPut s.hostQ s.hostArg (s.hostData (min s.hostArg 64))) noResult noWords

/-- GET (R423, R724): a refusal with FULL still returns n. -/
def execGet (r : YardReq) (s : State) : Host.Outcome State Fault Refusal :=
  match r with
  | .shunter sh d a b =>
    s.yardRequest sh [d, a, b] 7
      (fun x => if (x.r d).toNat ≤ 64 then some (x.r b, (x.r d).toNat + 2) else none)
      (fun s => s.yGet ((s.shunter sh).q a) ((s.shunter sh).r d).toNat)
      (fun ans s =>
        let t := if ans.status = .ok then
            s.putLocal sh ((s.shunter sh).r b).toNat (hiWord ans.stamp :: loWord ans.stamp :: ans.words)
          else s
        if ans.status = .ok ∨ ans.status = .full then t.modShunter sh (fun x => x.setR d (wd ans.num)) else t)
  | .host =>
    s.hostRequest 5 (fun s => s.yGet s.hostQ s.hostArg)
      (fun ans s =>
        ((s.putRegs (aYD 0x140) ans.words).setReg (aYD 0x104) (hiWord ans.stamp)).setReg (aYD 0x105) (loWord ans.stamp))
      (fun ans => if ans.status = .ok ∨ ans.status = .full then ans.num else 0)

/-- QFLUSH (R407). -/
def execQflush (r : YardReq) (s : State) : Host.Outcome State Fault Refusal :=
  match r with
  | .shunter sh d a b =>
    if b ≠ 0 then (if (s.shunter sh).canIssue then .next (s.illegal sh) else .next s)
    else s.yardRequest sh [d, a] 7 (fun _ => none) (fun s => s.yFlush ((s.shunter sh).q a)) (numTo sh d)
  | .host => s.hostRequest 6 (fun s => s.yFlush s.hostQ) resTo noWords

/-- CALLOC (R396). -/
def execCalloc (r : YardReq) (s : State) : Host.Outcome State Fault Refusal :=
  match r with
  | .shunter sh d a b =>
    s.yardRequest sh [d, a, b] 7 (fun _ => none)
      (fun s => s.yCalloc (fld ((s.shunter sh).r a) 1 0) ((s.shunter sh).r b).toNat) (numTo sh d)
  | .host => s.hostRequest 7 (fun s => s.yCalloc s.hostPool s.hostArg) resTo noWords

/-- CFREE (R398). -/
def execCfree (r : YardReq) (s : State) : Host.Outcome State Fault Refusal :=
  match r with
  | .shunter sh d a b =>
    if d ≠ 0 ∨ b ≠ 0 then (if (s.shunter sh).canIssue then .next (s.illegal sh) else .next s)
    else s.yardRequest sh [a] 7 (fun _ => none) (fun s => s.yCfree ((s.shunter sh).q a)) noResult
  | .host => s.hostRequest 8 (fun s => s.yCfree s.hostQ) noResult noWords

/-- CLINK (R399). -/
def execClink (r : YardReq) (s : State) : Host.Outcome State Fault Refusal :=
  match r with
  | .shunter sh d a b =>
    if d ≠ 0 then (if (s.shunter sh).canIssue then .next (s.illegal sh) else .next s)
    else
      s.yardRequest sh [a, b] 7 (fun _ => none)
        (fun s => s.yClink ((s.shunter sh).q a) ((s.shunter sh).q b)) noResult
  | .host => s.hostRequest 9 (fun s => s.yClink s.hostQ s.hostArg) noResult noWords

/-- CNEXT (R402): a shunter's pair takes the flags with REF, then LINK; an odd pair field is ILLEGAL (R693). -/
def execCnext (r : YardReq) (s : State) : Host.Outcome State Fault Refusal :=
  match r with
  | .shunter sh d a b =>
    if b ≠ 0 ∨ isPair d = false then (if (s.shunter sh).canIssue then .next (s.illegal sh) else .next s)
    else
      s.yardRequest sh [d, d + 1, a] 7 (fun _ => none) (fun s => s.yCnext ((s.shunter sh).q a))
        (fun ans s =>
          if ans.status = .ok then
            s.modShunter sh (fun x => x.setPair d (long (ans.words.getD 0 0 + ans.words.getD 1 0) (wd ans.num)))
          else s)
  | .host =>
    s.hostRequest 10 (fun s => s.yCnext s.hostQ)
      (fun ans s => (s.setReg (aYD 0x103) (ans.words.getD 0 0 + wd ans.num)).setReg (aYD 0x140) (ans.words.getD 1 0)) noWords

end Sys2Proof.Machine
end

