-- ==== Sys2Proof/Machine/RequestCmds.lean ====
section
/-! DEFINITION. The points, vault and freight requests of a shunter (R723, R725–R727), and the end of a freight
transfer. -/

namespace Sys2Proof.Machine

/-- A unit's command port as pt and kv use it: the write-profile bit, the addresses of its command and status words,
and the wait of a shunter for it. -/
structure PortUse where
  grant : Nat
  cmd : Nat
  stat : Nat
  hold : Reg → Wait

def ptUse (sh : Sh) : PortUse :=
  { grant := 6, cmd := aPort (depotOf sh) 0, stat := aPort (depotOf sh) 1, hold := .points }

def kvUse (sh : Sh) : PortUse :=
  { grant := 9, cmd := aWin (depotOf sh) 0, stat := aWin (depotOf sh) 1, hold := .vault }

/-- The command is sent once every earlier store has drained; `fin` says what follows, from the status of the store
(R723, R725). -/
def State.portRequest (s : State) (sh : Sh) (a : Reg) (u : PortUse) (fin : State → Status → State) :
    Host.Outcome State Fault Refusal :=
  s.request sh [a] false (fun s =>
    if !s.writeBit sh u.grant then (s.occur 0x0E).finish sh .denied
    else
      let t := s.drainAll sh
      let w := t.writeWord (.shunter sh) u.cmd ((t.shunter sh).r a)
      fin w.2 w.1)

/-- pt and kv wait for BUSY = 0 and take the status word (R725); a port without power completes with STATE. -/
def State.portWait (s : State) (sh : Sh) (d : Reg) (u : PortUse) (st : Status) : State :=
  let v := s.reg u.stat
  if st = .state then s.finishReg sh .state d 0
  else if bit v 23 then s.modShunter sh (fun x => { x with wait := u.hold d })
  else s.finishReg sh (stOf (fld v 22 19)) d v

/-- pt (R725). -/
def execPt (sh : Sh) (d a : Reg) (s : State) : Host.Outcome State Fault Refusal :=
  s.portRequest sh a (ptUse sh) (fun t st => t.portWait sh d (ptUse sh) st)

/-- ptp (R725). -/
def execPtp (sh : Sh) (d a : Reg) (s : State) : Host.Outcome State Fault Refusal :=
  let _ := d
  s.portRequest sh a (ptUse sh) (fun t st => t.finish sh st)

/-- kv (R726). -/
def execKv (sh : Sh) (d a : Reg) (s : State) : Host.Outcome State Fault Refusal :=
  s.portRequest sh a (kvUse sh) (fun t st => t.portWait sh d (kvUse sh) st)

/-- kvp (R726). -/
def execKvp (sh : Sh) (d a : Reg) (s : State) : Host.Outcome State Fault Refusal :=
  let _ := d
  s.portRequest sh a (kvUse sh) (fun t st => t.finish sh st)

/-- frt (R727, R107–R111). -/
def execFrt (sh : Sh) (a : Reg) (s : State) : Host.Outcome State Fault Refusal :=
  s.request sh [a] false (fun s =>
    let blk8 := ((s.shunter sh).r a).toNat
    if !s.writeBit sh 14 then (s.occur 0x0E).finish sh .denied
    else if !localBlock blk8 8 then s.finish sh .badarg
    else
      let t := s.drainAll sh
      let l := (upTo 8).map (fun i => t.localWord sh (blk8 + i))
      let d := depotOf sh
      match t.freightCheck d l with
      | .ok => (t.setFreight d (t.freightOf d ++ [freightDesc l])).finish sh .ok
      | st => t.finish sh st)

/-- The first descriptor of a depot ends (R112–R115). -/
def execFreightCompletion (dp : Depot) (good : Option Nat) (s : State) : Host.Outcome State Fault Refusal :=
  if s.on dDRAM then .next (s.freightDone dp.val good) else .next s

end Sys2Proof.Machine
end

