-- ==== Sys2Proof/Machine/ResetCmds.lean ====
section
/-! DEFINITION. Commands that end in a reset or a wake: the confirm timeout, the global watchdog, LCADV and a wake frame
(R546, R126, R472–R476, R468). -/

namespace Sys2Proof.Machine

/-- The confirm window has run out: CTIMEOUT, #A8 and a reset (R546). -/
def execConfirmTimeout (s : State) : Host.Outcome State Fault Refusal :=
  if s.up.confAt.isSome = true ∧ s.confNow = 0 then
    .next (((s.modUp (fun u => { u with ctimeout := true })).occur 0xA8).resetDevice 8)
  else .next s

/-- A second period of the global watchdog has passed without a kick (R126). -/
def execGlobalWatchdogExpiry (s : State) : Host.Outcome State Fault Refusal :=
  match s.dp.gwd.since with
  | none => .next s
  | some t =>
    if t + 2 * s.gwdPeriod ≤ s.now ∧ s.dp.gwd.warned = true then .next (s.resetDevice 6) else .next s

/-! ### LCADV (R472–R476) -/

/-- Who authorises a life-cycle transition (Table 11-2). -/
inductive LifeAuth where
  | none | vendor | owner
deriving DecidableEq, Repr

/-- The authority of a listed transition; `some` of a pair with whether an owner record is installed. -/
def lifeStep (old new : Nat) : Option (LifeAuth × Bool) :=
  match old, new with
  | 0, 1 => some (.none, false)
  | 1, 2 => some (.vendor, true)
  | 2, 3 => some (.owner, false)
  | 2, 2 => some (.owner, true)
  | 3, 2 => some (.owner, true)
  | 1, 4 => some (.vendor, false)
  | 2, 4 => some (.owner, false)
  | 3, 4 => some (.owner, false)
  | 1, 5 => some (.vendor, false)
  | 4, 5 => some (.vendor, false)
  | 2, 5 => some (.owner, false)
  | 3, 5 => some (.owner, false)
  | _, _ => none

/-- Octets of the authorisation message and of the owner record that follows it (Tables 11-3, 11-4). -/
def lifeMsgLen : Nat := 3511
def ownerRecLen : Nat := 4102

/-- The keys of an authority. -/
def State.authKeys (s : State) (a : LifeAuth) : Option (List Byte × List Byte) :=
  match a with
  | .vendor => some vendorKeys
  | _ => s.ownerKeys

/-- The checks of an authorisation message (R473, R474). -/
def State.lifeGood (s : State) (w : Nat) (a : LifeAuth) (inst : Bool) (target : Nat) (l : List Byte) : Bool :=
  let c := mapGet (fun _ => {}) s.kv.challenges w
  let p := fun (i n : Nat) => (l.drop i).take n
  let record := (l.drop lifeMsgLen).take ownerRecLen
  decide (p 0 6 = ascii "K16-LC") && decide (p 6 16 = devsn) &&
    decide (p 22 4 = [BitVec.ofNat 8 s.kv.life.val, BitVec.ofNat 8 target, BitVec.ofNat 8 s.kv.epoch, 0]) &&
    !c.used && decide (p 26 32 = c.octets) && decide (s.now < c.since + 60 * cycS) &&
    decide (p 58 48 = if inst then sha384 record else List.replicate 48 0) &&
    (match s.authKeys a with
     | some k => bothVerify k (ascii "K16-LC") (p 0 106) (p 106 96) (p 202 3309)
     | none => false)

/-- A challenge that an authorisation message has been checked against is used (DESIGN CHOICE, log 33). -/
def State.spendChallenge (s : State) (w : Nat) : State :=
  s.modKv (fun v => { v with challenges := mapUpd (fun _ => {}) v.challenges w (fun c => { c with used := true }) })

/-- The owner record of the next epoch is stored with its tag (R475). -/
def State.installOwner (s : State) (record : List Byte) : State :=
  let e := s.kv.fEpoch + 1
  s.modKv (fun v => { v with owners := mapPut (fun _ => []) v.owners e record,
                             ownerTags := mapPut (fun _ => []) v.ownerTags e (hmac384 ownerKey record) })

/-- The fuses that a transition burns, and the helper data at enrolment and erasure (Table 11-2). -/
def Vault.burn (v : Vault) (target : Nat) : Vault :=
  match target with
  | 1 => { v with fManuf := true, helper := true }
  | 2 => { v with fProv := v.fProv ||| BitVec.ofNat 17 (2 ^ (v.fEpoch + 1)), fEpoch := v.fEpoch + 1 }
  | 3 => { v with fDepl := v.fDepl ||| BitVec.ofNat 17 (2 ^ v.fEpoch) }
  | 4 => { v with fReturn := true }
  | _ => { v with fDecom := true, helper := false }

/-- A granted LCADV: the answer, every key slot zeroised, and the reset (R476). -/
def State.advanced (s : State) (w target : Nat) : State :=
  (((((s.modKv (fun v => v.burn target)).occur 0x9D).kvDone w { status := .ok }).modKv (fun v =>
    { v with slots := [], wb := [] }))).resetDevice 7

/-- LCADV of window `w`. -/
def State.lifeAdvance (s : State) (w : Nat) : State :=
  let target := fld (s.winArg w) 6 4
  let refuse := fun (u : State) (st : Status) => u.kvDone w { status := st }
  match lifeStep s.kv.life.val target with
  | none => refuse s .state
  | some (a, inst) =>
    if inst ∧ 16 ≤ s.kv.epoch then refuse s .full
    else if !s.on dMRAM then refuse s .state
    else if a = .none then s.advanced w target
    else
      match s.src w with
      | none => refuse s .badarg
      | some l =>
        let n := lifeMsgLen + (if inst then ownerRecLen else 0)
        if l.length < n then refuse s .badarg
        else if !s.lifeGood w a inst target l then refuse ((s.spendChallenge w).occur 0x9E) .denied
        else if inst then
          match s.rootCheck with
          | some st => refuse s st
          | none => (s.installOwner ((l.drop lifeMsgLen).take ownerRecLen)).advanced w target
        else s.advanced w target

/-- LCADV (R472–R476). -/
def execLcadv (w : Fin 9) (s : State) : Host.Outcome State Fault Refusal :=
  if s.winBusy w = true ∧ s.winOp w = 0x15 ∧ s.on dVAULT = true then .next (s.lifeAdvance w) else .next s

/-! ### Wake frames (R468) -/

def aWK (p : Band) (o : Nat) : Nat := aBH p (0x3000 + o)

/-- WK_MAC as six octets. -/
def State.wakeMac (s : State) (p : Band) : List Byte := octets (s.reg (aWK p 2)) ++ octets (s.reg (aWK p 3))

/-- Filter `f` matches a frame. -/
def State.wakeFilter (s : State) (p : Band) (l : List Byte) (f : Nat) : Bool :=
  let b := 0x20 + 0x10 * f
  let ofs := fld (s.reg (aWK p b)) 7 0
  let mask := (s.reg (aWK p (b + 1))).toNat * 256 + fld (s.reg (aWK p (b + 2))) 7 0
  (upTo 32).all (fun i =>
    decide (mask / 2 ^ i % 2 = 0) ||
      decide (l[ofs + i]? = some (octetAt (fun k => s.reg (aWK p (b + 3 + k))) i)))

/-- Six octets #FF and sixteen copies of an address stand at the head. -/
def magicHere (mac l : List Byte) : Bool :=
  decide (l.take 102 = List.replicate 6 0xFF ++ (List.replicate 16 mac).flatten)

/-- A magic packet stands anywhere in the frame. -/
def magicIn (mac : List Byte) : List Byte → Bool
  | [] => false
  | b :: r => magicHere mac (b :: r) || magicIn mac r

/-- What a frame matches: a filter, or the magic packet; a filter is reported first (DESIGN CHOICE, log 28). -/
def State.wakeHit (s : State) (p : Band) (l : List Byte) : Option (Nat ⊕ Unit) :=
  let ctl := s.reg (aWK p 0)
  match (upTo 16).find? (fun f => bit ctl f && s.wakeFilter p l f) with
  | some f => some (.inl f)
  | none => if bit ctl 22 && magicIn (s.wakeMac p) l then some (.inr ()) else none

/-- The wake detector sees a frame in DORMANT (R468). -/
def execWakeMatch (p : Band) (frame : List Byte) (s : State) : Host.Outcome State Fault Refusal :=
  let src : WakeSrc := if p = .a then .portA else .portB
  if s.pw.mode = .dormant ∧ s.pw.inReset = none ∧ bit (s.reg (aWK p 0)) 23 = true ∧ fcsGood frame = true ∧
      (frame.take 6 = s.wakeMac p ∨ frame.take 6 = List.replicate 6 0xFF) then
    match s.wakeHit p frame with
    | some (.inl f) => .next (((s.setReg (aWK p 1) (wd (2 ^ 23 + f))).occur 0x8E).wakeBy src)
    | some (.inr _) => .next (((s.setReg (aWK p 1) 0xC00000).occur 0x8E).wakeBy src)
    | none => .next s
  else .next s

end Sys2Proof.Machine
end

