-- ==== Sys2Proof/Machine/SbCmds.lean ====
section
/-! DEFINITION. The commands of the signal box (Tables 06-3, 06-6 and 06-12). A command of a time acts where that time
has come and leaves the state unchanged before it (log 12). -/

namespace Sys2Proof.Machine

/-- The signal box follows its paths: RUNNING or STALLED, its clock running. -/
def State.sbPaths (s : State) : Bool := s.sbRuns && s.on dSB && s.on dSC

/-- Step 1 of a path (R265): while RUNNING, from its preparation time on. -/
def execPathPreparation (s : State) : Host.Outcome State Fault Refusal :=
  if s.sb.state = .running ∧ s.sbPaths = true ∧ s.prepTime s.sb.prep ≤ s.sc.time then .next s.preparePath else .next s

/-- Short time `t` is at most `us` microseconds ahead. -/
def State.within (s : State) (t : Long) (us : Nat) : Bool := !after (t - ln (shortUs us)) s.tcap

/-- Step 2 for frame `i` (R268), from TS_TACT − 100 µs on. -/
def execFrameArming (i : Nat) (s : State) : Host.Outcome State Fault Refusal :=
  match s.sb.frames[i]? with
  | some f =>
    if s.sb.state = .running ∧ f.stage = .prepared ∧ s.within f.tact 100 = true then .next (s.armFrame i f) else .next s
  | none => .next s

/-- Step 3 for frame `i` (R278, R494), from TS_TACT − 50 µs on. -/
def execKeyCheck (i : Nat) (s : State) : Host.Outcome State Fault Refusal :=
  match s.sb.frames[i]? with
  | some f =>
    match f.slot with
    | some k =>
      if s.sb.state = .running ∧ f.stage = .armed ∧ s.within f.tact 50 = true then .next (s.checkKey i f k.val) else .next s
    | none => .next s
  | none => .next s

/-- The boundary that begins a path (R251). -/
def execPathBoundary (s : State) : Host.Outcome State Fault Refusal :=
  if s.sbPaths = true ∧ s.nextBoundary ≤ s.sc.time then .next s.boundary else .next s

/-- Acknowledgement `i` is due (R275, R276); `busy` is what the listen check measures. -/
def execUplinkAcknowledgement (i : Nat) (busy : Bool) (s : State) : Host.Outcome State Fault Refusal :=
  match s.sb.acks[i]? with
  | some a =>
    if s.sb.state = .running ∧ a.done = false ∧ after (s.ackTact a) s.tcap = false then .next (s.sendAck i a busy) else .next s
  | none => .next s

/-- Step 7 of the earliest path not completed (R270, R283). -/
def execPathCompletion (s : State) : Host.Outcome State Fault Refusal :=
  if s.sbPaths = true ∧ s.sb.begun = true ∧ s.sb.comp < s.sb.asn then .next (s.completePath s.sb.comp) else .next s

/-- COMMIT (R261). -/
def execCommit (src : Src) (store : Fin 2) (s : State) : Host.Outcome State Fault Refusal :=
  s.regWrite src (aSB 0x20) (wd (2 ^ 23 + store.val))

/-- The check of the store in CHECK ends (R263). -/
def execEditionCheckDone (s : State) : Host.Outcome State Fault Refusal :=
  match s.storeIn .check with
  | some e => if s.on dSB then .next (s.edDone e) else .next s
  | none => .next s

/-- CANCEL (R261). -/
def execCancel (src : Src) (store : Fin 2) (s : State) : Host.Outcome State Fault Refusal :=
  s.regWrite src (aSB 0x20) (wd (2 ^ 22 + store.val))

/-- RUN (R297). -/
def execRun (src : Src) (s : State) : Host.Outcome State Fault Refusal := s.regWrite src (aSB 0) 0x800000

/-- STOP (R297). -/
def execStop (src : Src) (s : State) : Host.Outcome State Fault Refusal := s.regWrite src (aSB 0) 0x400000

/-- ABORT (R297, R300). -/
def execSbAbort (src : Src) (s : State) : Host.Outcome State Fault Refusal := s.regWrite src (aSB 0) 0x200000

/-- Station time reaches P of the first path (R297). -/
def execSignalBoxWaitEnd (s : State) : Host.Outcome State Fault Refusal :=
  match s.storeIn .pending with
  | some e =>
    let b := s.fullOf (long (s.reg (aSB 6)) (s.reg (aSB 7)))
    if s.sb.state = .wait ∧ s.on dSC = true ∧ b ≤ s.sc.time + s.span5 (s.edPlen e) + s.spanUs (s.thlim + 100) then .next s.sbBegin
    else .next s
  | none => .next s

/-- SB_CCMD.WR (R304). -/
def execSbCcmdWr (src : Src) (s : State) : Host.Outcome State Fault Refusal := s.regWrite src (aSB 0x3B) 0x800000

/-- SB_CCMD.RD (R304). -/
def execSbCcmdRd (src : Src) (s : State) : Host.Outcome State Fault Refusal := s.regWrite src (aSB 0x3B) 0x400000

/-- SB_JOINDONE (R294). -/
def execSbJoindoneWrite (src : Src) (v : Word) (s : State) : Host.Outcome State Fault Refusal := s.regWrite src (aSB 0x18) v

/-- Core cycles of the active edition's cycle. -/
def State.cycleCycles (s : State) : Nat :=
  match s.storeIn .active with
  | some e => s.edNpath e * s.edPlen e * 15000
  | none => 0

/-- A full cycle has passed without a beacon launched (R289). -/
def execMeshAliveTimeout (s : State) : Host.Outcome State Fault Refusal :=
  match s.sb.lastBeacon with
  | some t =>
    if s.sb.meshAlive = true ∧ t + s.cycleCycles < s.now then .next (s.modSb (fun b => { b with meshAlive := false })) else .next s
  | none => .next s

end Sys2Proof.Machine
end

