-- ==== Sys2Proof/Machine/UpdateCmds.lean ====
section
/-! DEFINITION. The commands of field update, each taking effect on the port whose command waits (R534–R553);
CONFIRM_TIMEOUT stands with the resets. -/

namespace Sys2Proof.Machine

/-- The command `op` of port `p` takes effect where it is the first that waits (R539); in a mode that Table 12-9 does
not give it, it completes with STATE (R540). -/
def State.upRun (s : State) (p : Fin 2) (op : Nat) (f : State → UpRes) : Host.Outcome State Fault Refusal :=
  if s.upBusy p = true ∧ fld (s.reg (aUPort p 0)) 23 18 = op ∧ s.up.order.head? = some p ∧ s.on dMRAM = true then
    let t := s.modUp (fun u => { u with order := u.order.drop 1 })
    let r := if t.upMode p op then f t else upState t
    .next (r.2.2.upDone p r.1 r.2.1)
  else .next s

/-- OPEN. -/
def execOpenSession (p : Fin 2) (s : State) : Host.Outcome State Fault Refusal := s.upRun p 1 (fun t => t.upOpen p)

/-- WRBLK (R535, R536). -/
def execWrblk (p : Fin 2) (readBackOk : Bool) (s : State) : Host.Outcome State Fault Refusal :=
  s.upRun p 2 (fun t => t.upBlock p readBackOk)

/-- ABORT. -/
def execAbort (p : Fin 2) (s : State) : Host.Outcome State Fault Refusal := s.upRun p 3 State.upAbort

/-- ARM. -/
def execArm (p : Fin 2) (s : State) : Host.Outcome State Fault Refusal := s.upRun p 4 State.upArm

/-- DISARM. -/
def execDisarm (p : Fin 2) (s : State) : Host.Outcome State Fault Refusal := s.upRun p 5 State.upDisarm

/-- CONFIRM (R547). -/
def execConfirm (p : Fin 2) (s : State) : Host.Outcome State Fault Refusal := s.upRun p 6 State.upConfirm

/-- ROLLBACK (R550). -/
def execRollback (p : Fin 2) (s : State) : Host.Outcome State Fault Refusal := s.upRun p 7 State.upRollback

/-- CLRREG. -/
def execClrreg (p : Fin 2) (s : State) : Host.Outcome State Fault Refusal := s.upRun p 8 (fun t => t.upClear p)

/-- A read of UP_RDATA. -/
def execUpRdataRead (src : Src) (s : State) : Host.Outcome State Fault Refusal := s.regRead src (aUP 0x41)

/-- Sixty seconds are left of the confirm window (R546). -/
def execConfirmWindowWarning (s : State) : Host.Outcome State Fault Refusal :=
  if s.up.confAt.isSome = true ∧ s.confNow ≤ 60 * cycS ∧ s.up.warned = false then
    .next ((s.modUp (fun u => { u with warned := true })).raise 645)
  else .next s

end Sys2Proof.Machine
end

