-- ==== Sys2Proof/Machine/UsbCmds.lean ====
section
/-! DEFINITION. The commands of the USB commissioning port (R564–R575). -/

namespace Sys2Proof.Machine

/-- While the device is attached. -/
def State.usb (s : State) (f : State → State) : Host.Outcome State Fault Refusal :=
  if s.attached then .next (f s) else .next s

/-- VBUS_DET changes (R564). -/
def execVbusChange (high : Bool) (s : State) : Host.Outcome State Fault Refusal :=
  let t := s.modUsb (fun u => { u with vbus := high })
  if s.hc.usb.vbus ≠ high ∧ s.on dHOST = true then .next (t.raise 709) else .next t

/-- The bulk transfers end by a bus reset (R573). -/
def State.bulkAbort (s : State) : State :=
  s.modUsb (fun u => { u with babort := u.babort || u.bin || u.bout.isSome, bin := false, bout := none })

/-- A bus reset; `hs` says that the bus came up at high speed (R573). -/
def execUsbBusReset (hs : Bool) (s : State) : Host.Outcome State Fault Refusal :=
  s.usb (fun s =>
    let t := (s.endTransfer.bulkAbort.count (aHC 0x80D)).raise 707
    t.modUsb (fun u => { u with hs := hs && !bit (s.reg (aHC 0x800)) 22 }))

/-- INFO (R565). -/
def execInfo (wLength : Nat) (s : State) : Host.Outcome State Fault Refusal :=
  s.usb (fun s =>
    let t := s.endTransfer
    if wLength ≠ 20 then t.stall
    else
      { t with out := .octets (devsn ++ [BitVec.ofNat 8 t.kv.life.val, BitVec.ofNat 8 t.pw.mode.code,
        BitVec.ofNat 8 (b2n t.hc.dbg.unlocked), 0]) })

/-- A request is posted to the commissioning mailbox and the stage answered NAK (R566). -/
def State.postUsb (s : State) (req : Nat) (p : UsbPost) (item : BitVec 16) : State :=
  let q := fld (s.reg (aHC 0x804)) 17 0
  let words : List Word := [wd (req * 65536 + p.id.toNat), wd item.toNat, wd p.len]
  let t := if s.isMailbox q then (s.putPacket q words).2 else s
  { t.modUsb (fun u => { u with posted := some p }) with out := .nak }

/-- GET (R566, R570). -/
def execCommissioningGet (item wLength : BitVec 16) (s : State) : Host.Outcome State Fault Refusal :=
  s.usb (fun s =>
    let t := s.endTransfer
    if t.hc.usb.posted.isSome = true ∨ wLength.toNat = 0 ∨ 256 < wLength.toNat then t.stall
    else t.postUsb 2 { id := 0, isSet := false, len := wLength.toNat, since := t.now, live := true } item)

/-- The STATUS with which a SET stands in the commit log. -/
def Usb.logged (u : Usb) (id : BitVec 16) : Option (BitVec 4) :=
  (u.log.find? (fun e => decide (e.1 = id))).map (fun e => e.2)

/-- SET (R566, R570, R571). -/
def execCommissioningSet (id item : BitVec 16) (data : List Byte) (s : State) : Host.Outcome State Fault Refusal :=
  s.usb (fun s =>
    let t := s.endTransfer
    if t.hc.usb.posted.isSome = true ∨ id = 0 ∨ data = [] ∨ 256 < data.length then t.stall
    else
      let u := t.putWords (aHC 0x880) (packOctets data)
      match u.hc.usb.logged id with
      | some st => if st = 0 then { u with out := .zeroLength } else u.stall
      | none => u.postUsb 3 { id := id, isSet := true, len := data.length, since := u.now, live := true } item)

/-- The state of an id and its STATUS (R572). -/
def Usb.query (u : Usb) (id : BitVec 16) : Nat × Nat :=
  match u.posted with
  | some p =>
    if p.isSet = true ∧ p.id = id then (1, 0)
    else match u.logged id with
      | some st => (2, st.toNat)
      | none => (0, 0)
  | none =>
    match u.logged id with
    | some st => (2, st.toNat)
    | none => (0, 0)

/-- QUERY (R572). -/
def execQuery (id : BitVec 16) (s : State) : Host.Outcome State Fault Refusal :=
  s.usb (fun s =>
    let t := s.endTransfer
    let a := t.hc.usb.query id
    { t with out := .octets ([BitVec.ofNat 8 a.1, BitVec.ofNat 8 (16 * a.2)] ++ natToOctets 2 id.toNat) })

/-- HC_USBANS (R567–R569). -/
def execHcUsbans (src : Src) (v : Word) (s : State) : Host.Outcome State Fault Refusal := s.regWrite src (aHC 0x806) v

/-- HC_USBTO in core cycles. -/
def State.usbTimeout (s : State) : Nat :=
  let n := fld (s.reg (aHC 0x805)) 15 0
  (if n = 0 then 500 else n) * cycMs

/-- Firmware has not answered in time (R569). -/
def execCommissioningAnswerTimeout (s : State) : Host.Outcome State Fault Refusal :=
  match s.hc.usb.posted with
  | none => .next s
  | some p =>
    if p.late = true ∨ s.now < p.since + s.usbTimeout then .next s
    else
      let t := s.modUsb (fun u => { u with posted := some { p with late := true, live := false } })
      let u := (t.raise 708).occur 0xB3
      if p.live then .next u.stall else .next u

/-- ARM of bulk OUT (R574). -/
def execBulkOutArm (src : Src) (v : Word) (s : State) : Host.Outcome State Fault Refusal := s.regWrite src (aHC 0x809) v

/-- Octet `i` of the bulk OUT buffer; outside the main store, and while its domain is off, it is discarded. -/
def State.boutByte (s : State) (i : Nat) (b : Byte) : State :=
  let a := (s.reg (aHC 0x808)).toNat + i / 3
  if a < baseMain ∨ 2 ^ 24 ≤ a ∨ s.on (wordDomain a) = false then s
  else
    let hi := 23 - 8 * (i % 3)
    s.setMain a (setFld (s.mainWord a) hi (hi - 7) b.toNat)

/-- Octets of a bulk OUT transfer from octet `i` on. -/
def State.boutBytes (s : State) : Nat → List Byte → State
  | _, [] => s
  | i, b :: r => (s.boutByte i b).boutBytes (i + 1) r

/-- The bulk maximum packet. -/
def Usb.maxPacket (u : Usb) : Nat := if u.hs then 512 else 64

/-- A bulk OUT packet (R574). -/
def execBulkOutPacket (data : List Byte) (s : State) : Host.Outcome State Fault Refusal :=
  s.usb (fun s =>
    match s.hc.usb.bout with
    | none => { s with out := .nak }
    | some n =>
      let top := fld (s.reg (aHC 0x809)) 15 0
      let l := (data.take s.hc.usb.maxPacket).take (top - n)
      let t := s.boutBytes n l
      let m := n + l.length
      if data.length < s.hc.usb.maxPacket ∨ top ≤ m then
        ((t.setReg (aHC 0x80A) (wd m)).modUsb (fun u => { u with bout := none })).raise 710
      else t.modUsb (fun u => { u with bout := some m }))

/-- GO of bulk IN (R575). -/
def execBulkInGo (src : Src) (v : Word) (s : State) : Host.Outcome State Fault Refusal := s.regWrite src (aHC 0x80C) v

/-- A bulk IN transfer ends, with a zero-length packet where its length is a multiple of the maximum packet (R575). -/
def execBulkInEnd (s : State) : Host.Outcome State Fault Refusal :=
  s.usb (fun s =>
    if s.hc.usb.bin then
      let t := (s.modUsb (fun u => { u with bin := false })).raise 711
      if fld (s.reg (aHC 0x80C)) 15 0 % s.hc.usb.maxPacket = 0 then { t with out := .zeroLength } else t
    else s)

/-- A SETUP with a standard request, which the hardware answers itself, ends the transfer in progress (R573). -/
def execUsbStandardRequest (s : State) : Host.Outcome State Fault Refusal := s.usb State.endTransfer

/-- A vendor request that Table 13-2 lists. -/
def vendorListed (req : Byte) (wValue wLength : BitVec 16) : Bool :=
  match req.toNat with
  | 1 => decide (wLength = 20)
  | 2 => decide (1 ≤ wLength.toNat ∧ wLength.toNat ≤ 256)
  | 3 => decide (wValue ≠ 0) && decide (1 ≤ wLength.toNat ∧ wLength.toNat ≤ 256)
  | 4 => decide (wLength = 4)
  | _ => false

/-- A vendor request that Table 13-2 does not list is answered STALL (R565). -/
def execUnsupportedVendorRequest (bRequest : Byte) (wValue wLength : BitVec 16) (s : State) :
    Host.Outcome State Fault Refusal :=
  s.usb (fun s => if vendorListed bRequest wValue wLength then s else s.endTransfer.stall)

end Sys2Proof.Machine
end

