-- ==== Sys2Proof/Machine/VaultCmds.lean ====
section
/-! DEFINITION. The commands of the vault, each taking effect on the window whose command word names it (R518), and
what its memories, its root and its entropy source do of themselves; LCADV stands with the resets. -/

namespace Sys2Proof.Machine

/-- The request `op` of window `w` is carried on where it waits there and the VAULT domain is on. -/
def State.kvRun (s : State) (w : Fin 9) (op : Nat) (run : State → KvRes) : Host.Outcome State Fault Refusal :=
  if s.winBusy w = true ∧ s.winOp w = op ∧ s.on dVAULT = true then .next (State.kvStep w (run s)) else .next s

/-- LOAD (R487–R489). -/
def execLoad (w : Fin 9) (s : State) : Host.Outcome State Fault Refusal := s.kvRun w 1 (fun s => s.kvLoad w)

/-- A LOADING slot's blob is accepted or refused (R488). -/
def execBlobLoaded (slot : Nat) (s : State) : Host.Outcome State Fault Refusal :=
  if s.on dVAULT then .next (s.blobArrives slot) else .next s

/-- EVICT (R488). -/
def execEvict (w : Fin 9) (s : State) : Host.Outcome State Fault Refusal := s.kvRun w 2 (fun s => s.kvEvict w)

/-- The first write-back reaches DRAM (R490). -/
def execWriteBackDone (s : State) : Host.Outcome State Fault Refusal := if s.canLoad then .next s.wbDone else .next s

/-- REWRAP (R499). -/
def execRewrap (w : Fin 9) (s : State) : Host.Outcome State Fault Refusal := s.kvRun w 3 (fun s => s.kvRewrap w)

/-- REVOKE (R496). -/
def execRevoke (w : Fin 9) (s : State) : Host.Outcome State Fault Refusal := s.kvRun w 4 (fun s => s.kvRevoke w)

/-- A REVOKING slot's tombstone is written (R488). -/
def execTombstoneWritten (slot : Nat) (s : State) : Host.Outcome State Fault Refusal :=
  if s.canLoad then .next (s.tombDone slot) else .next s

/-- GENKEY (R485). -/
def execGenkey (w : Fin 9) (s : State) : Host.Outcome State Fault Refusal := s.kvRun w 5 (fun s => s.kvGenkey w)

/-- KDF (R485). -/
def execKdf (w : Fin 9) (s : State) : Host.Outcome State Fault Refusal := s.kvRun w 6 (fun s => s.kvKdf w)

/-- EXPORT (R519). -/
def execExportKey (w : Fin 9) (s : State) : Host.Outcome State Fault Refusal := s.kvRun w 7 (fun s => s.kvExport w)

/-- IMPORT (R519). -/
def execImportKey (w : Fin 9) (s : State) : Host.Outcome State Fault Refusal := s.kvRun w 8 (fun s => s.kvImport w)

/-- HMAC. -/
def execHmac (w : Fin 9) (s : State) : Host.Outcome State Fault Refusal := s.kvRun w 9 (fun s => s.kvHmac w)

/-- HASH. -/
def execHash (w : Fin 9) (s : State) : Host.Outcome State Fault Refusal := s.kvRun w 0x0A (fun s => s.kvHash w)

/-- GCMSEAL. -/
def execGcmseal (w : Fin 9) (s : State) : Host.Outcome State Fault Refusal := s.kvRun w 0x0B (fun s => s.kvSeal w)

/-- GCMOPEN. -/
def execGcmopen (w : Fin 9) (s : State) : Host.Outcome State Fault Refusal := s.kvRun w 0x0C (fun s => s.kvOpen w)

/-- SIGN. -/
def execSign (w : Fin 9) (s : State) : Host.Outcome State Fault Refusal := s.kvRun w 0x0D (fun s => s.kvSign w)

/-- The window signs with ML-DSA-65: ATTEST, or SIGN with a TYPE 4 key. -/
def State.signsMl (s : State) (w : Fin 9) : Bool :=
  s.winBusy w && (decide (s.winOp w = 0x11) || (decide (s.winOp w = 0x0D) && decide ((s.keySlot (s.winSlot w)).info.typ = 4)))

/-- ML-DSA-65 signing has taken 100 ms (R520). -/
def execSigningTimeout (w : Fin 9) (s : State) : Host.Outcome State Fault Refusal :=
  if s.on dVAULT = true ∧ s.signsMl w = true ∧ mapGet (fun _ => 0) s.kv.begun w + 100 * cycMs ≤ s.now then
    .next ((s.occur 0x98).kvDone w { status := .timeout })
  else .next s

/-- VERIFY. -/
def execVerify (w : Fin 9) (s : State) : Host.Outcome State Fault Refusal := s.kvRun w 0x0E (fun s => s.kvVerify w)

/-- RANDOM. -/
def execRandom (w : Fin 9) (s : State) : Host.Outcome State Fault Refusal := s.kvRun w 0x0F (fun s => s.kvRandom w)

/-- CHALLENGE. -/
def execChallenge (w : Fin 9) (s : State) : Host.Outcome State Fault Refusal := s.kvRun w 0x10 (fun s => s.kvChallenge w)

/-- ATTEST (R513). -/
def execAttest (w : Fin 9) (s : State) : Host.Outcome State Fault Refusal := s.kvRun w 0x11 (fun s => s.kvAttest w)

/-- ATTPUB. -/
def execAttpub (w : Fin 9) (s : State) : Host.Outcome State Fault Refusal := s.kvRun w 0x12 (fun s => s.kvAttpub w)

/-- EXTEND. -/
def execExtend (w : Fin 9) (s : State) : Host.Outcome State Fault Refusal := s.kvRun w 0x13 (fun s => s.kvExtend w)

/-- MEASURE (R512). -/
def execMeasure (w : Fin 9) (s : State) : Host.Outcome State Fault Refusal := s.kvRun w 0x14 (fun s => s.kvMeasure w)

/-- SELFTEST (R511); `pass` is what its tests find. -/
def execSelftest (w : Fin 9) (pass : Bool) (s : State) : Host.Outcome State Fault Refusal :=
  s.kvRun w 0x16 (fun s => s.kvSelftest pass)

/-- CCM. -/
def execCcm (w : Fin 9) (s : State) : Host.Outcome State Fault Refusal := s.kvRun w 0x17 (fun s => s.kvCcm w)

/-- The job at the head of the receive security queue (R503). -/
def execReceiveSecurityJob (s : State) : Host.Outcome State Fault Refusal :=
  if s.canLoad = true ∧ s.on dTABLES = true ∧ s.on dYARD = true then .next s.runJob else .next s

/-- A slot's shares are replaced by a fresh split (R500); slots are visited in rising order. -/
def execRemask (slot : Nat) (s : State) : Host.Outcome State Fault Refusal :=
  if s.on dVAULT = true ∧ slot = s.kv.remaskNext then
    let x := s.keySlot slot
    let t := s.modKv (fun v => { v with remaskNext := (slot + 1) % 16384 })
    if x.state.isResident then
      let f := t.freeOctets x.octets.length
      .next (f.2.setKeySlot slot (x.split x.octets f.1))
    else .next t
  else .next s

/-- Root reconstruction ends (R477, R478). -/
def execRootReconstruction (ok : Bool) (s : State) : Host.Outcome State Fault Refusal :=
  if s.on dVAULT = true ∧ s.kv.ready = false ∧ s.kv.rootf = false ∧ s.kv.life ≠ 0 ∧ s.kv.life ≠ 5 then
    if ok ∧ s.kv.helper = true then .next (s.modKv (fun v => { v with ready := true }))
    else .next (((s.modKv (fun v => { v with rootf := true })).raise 588).occur 0x9C)
  else .next s

/-- A start-up test of the entropy source ends (Table 11-11). -/
def execStartupTestDone (pass : Bool) (s : State) : Host.Outcome State Fault Refusal :=
  if s.on dVAULT = true ∧ (s.kv.ent = .init ∨ s.kv.ent = .restart) then
    if pass then .next (s.modKv (fun v => v.seeded s.now)) else .next (s.failed s.kv.ent)
  else .next s

/-- An oscillator fails a health test (R505, Table 11-11). -/
def execHealthFailure (osc : Fin 4) (s : State) : Host.Outcome State Fault Refusal :=
  let _ := osc
  if s.on dVAULT then
    let t := s.count (aKV 0x259)
    if s.kv.ent = .ok then .next (((t.occur 0x96).raise 585).failed .restart) else .next t
  else .next s

/-- One second without a health failure (Table 11-11). -/
def execFailcntClear (s : State) : Host.Outcome State Fault Refusal :=
  if s.on dVAULT = true ∧ s.kv.ent = .ok ∧ s.kv.entAt + cycS ≤ s.now then
    .next (s.modKv (fun v => { v with failcnt := 0 }))
  else .next s

/-- The DRBG is reseeded (R507). -/
def execReseed (s : State) : Host.Outcome State Fault Refusal :=
  if s.on dVAULT = true ∧ s.kv.ent = .ok ∧ s.reseedEarly = true then
    .next (s.modKv (fun v => { v with drbgReqs := 0, drbgAt := s.now }))
  else .next s

end Sys2Proof.Machine
end

