-- ==== Sys2Proof/Machine/YardCmds.lean ====
section
/-! DEFINITION. The yard's register commands and its ticks (R390, R401, R413–R416, R435, R436). -/

namespace Sys2Proof.Machine

/-- A write of QCTL (R390, R391). -/
def execQctlWrite (src : Src) (q : Nat) (v : Word) (s : State) : Host.Outcome State Fault Refusal :=
  s.regWrite src (aQ q 0) v

/-- YD_CELLINIT (R401). -/
def execCellinit (src : Src) (v : Word) (s : State) : Host.Outcome State Fault Refusal := s.regWrite src (aYD 4) v

/-- A CELLINIT that runs completes (R401). -/
def execCellinitDone (s : State) : Host.Outcome State Fault Refusal :=
  if s.yd.initRun = true ∧ s.on dYARD = true then .next s.cellsReady else .next s

/-- YD_CTL (R401). -/
def execYdCtlWrite (src : Src) (v : Word) (s : State) : Host.Outcome State Fault Refusal := s.regWrite src (aYD 0) v

/-- The refill tick falls every 256 station ticks (R411, R413). -/
def execRefillTick (s : State) : Host.Outcome State Fault Refusal :=
  if s.yd.refillAt + 3072 ≤ s.now ∧ s.on dYARD = true then .next s.refill else .next s

/-- A shaper word: 0 IDLE, 1 SEND, 2 BURST, 3 CREDIT (R413). -/
def execShaperWrite (src : Src) (r : Fin 4) (v : Word) (s : State) : Host.Outcome State Fault Refusal :=
  s.regWrite src (aYD (0x201 + r.val)) v

/-- GL_CTL.COMMIT (R415, R416). -/
def execGlCommit (src : Src) (e : Fin 18) (s : State) : Host.Outcome State Fault Refusal :=
  s.regWrite src (aGL e.val 0) 0x800000

/-- GL_CTL.CANCEL (R416). -/
def execGlCancel (src : Src) (e : Fin 18) (s : State) : Host.Outcome State Fault Refusal :=
  s.regWrite src (aGL e.val 0) 0x400000

/-- A write (`some`) or read of GL_DATA (R415). -/
def execGlDataAccess (src : Src) (e : Fin 18) (v : Option Word) (s : State) : Host.Outcome State Fault Refusal :=
  match v with
  | some w => s.regWrite src (aGL e.val 6) w
  | none => s.regRead src (aGL e.val 6)

/-- An armed gate list takes over at T (R416). -/
def execGateListTakeOver (e : Fin 18) (s : State) : Host.Outcome State Fault Refusal :=
  match (s.gate e.val).armed with
  | none => .next s
  | some t => if after t s.shortTime ∨ s.on dYARD = false then .next s else .next (s.takeOver e.val t)

/-- A write (`some`) or read of YD_MLDATA (Table 09-8). -/
def execYdMldataAccess (src : Src) (v : Option Word) (s : State) : Host.Outcome State Fault Refusal :=
  match v with
  | some w => s.regWrite src (aYD 0x304) w
  | none => s.regRead src (aYD 0x304)

/-- Every 1 ms the wagons held are sampled (R436). -/
def execWagonHistogramSample (s : State) : Host.Outcome State Fault Refusal :=
  if s.yd.histAt + cycMs ≤ s.now ∧ s.on dYARD = true then
    .next ((s.modYd (fun y => { y with histAt := s.now })).occurV 0x78 (wd s.wagonsHeld))
  else .next s

end Sys2Proof.Machine
end

