-- ==== Sys2Proof/Machine/Dispatch.lean ====
section
/-! DEFINITION. The effect of a command: one call of its meaning for every row of the operation table. -/

namespace Sys2Proof.Machine

/-- The effect of command `i` on everything but the queue. -/
def exec (i : Instr) (s : State) : Host.Outcome State Fault Refusal :=
  match i with
  -- Regs
  | .registerWrite src addr v => Sys2Proof.Machine.execRegisterWrite src addr v s
  -- Alu
  | .add sh d a b => Sys2Proof.Machine.execAdd sh d a b s
  | .adc sh d a b => Sys2Proof.Machine.execAdc sh d a b s
  | .sub sh d a b => Sys2Proof.Machine.execSub sh d a b s
  | .sbc sh d a b => Sys2Proof.Machine.execSbc sh d a b s
  | .and sh d a b => Sys2Proof.Machine.execAnd sh d a b s
  | .or sh d a b => Sys2Proof.Machine.execOr sh d a b s
  | .xor sh d a b => Sys2Proof.Machine.execXor sh d a b s
  | .andn sh d a b => Sys2Proof.Machine.execAndn sh d a b s
  | .addi sh d a imm => Sys2Proof.Machine.execAddi sh d a imm s
  | .subi sh d a imm => Sys2Proof.Machine.execSubi sh d a imm s
  | .andi sh d a imm => Sys2Proof.Machine.execAndi sh d a imm s
  | .ori sh d a imm => Sys2Proof.Machine.execOri sh d a imm s
  | .xori sh d a imm => Sys2Proof.Machine.execXori sh d a imm s
  | .movs sh d imm => Sys2Proof.Machine.execMovs sh d imm s
  | .movi sh d ext => Sys2Proof.Machine.execMovi sh d ext s
  | .shl sh d a b => Sys2Proof.Machine.execShl sh d a b s
  | .shr sh d a b => Sys2Proof.Machine.execShr sh d a b s
  | .sar sh d a b => Sys2Proof.Machine.execSar sh d a b s
  | .rol sh d a b => Sys2Proof.Machine.execRol sh d a b s
  | .ror sh d a b => Sys2Proof.Machine.execRor sh d a b s
  | .clz sh d a => Sys2Proof.Machine.execClz sh d a s
  | .popc sh d a => Sys2Proof.Machine.execPopc sh d a s
  | .brev sh d a => Sys2Proof.Machine.execBrev sh d a s
  | .shli sh d a n => Sys2Proof.Machine.execShli sh d a n s
  | .shri sh d a n => Sys2Proof.Machine.execShri sh d a n s
  | .sari sh d a n => Sys2Proof.Machine.execSari sh d a n s
  | .roli sh d a n => Sys2Proof.Machine.execRoli sh d a n s
  | .rori sh d a n => Sys2Proof.Machine.execRori sh d a n s
  -- MulPair
  | .mulu sh d a b => Sys2Proof.Machine.execMulu sh d a b s
  | .muls sh d a b => Sys2Proof.Machine.execMuls sh d a b s
  | .mull sh d a b => Sys2Proof.Machine.execMull sh d a b s
  | .macu sh d a b => Sys2Proof.Machine.execMacu sh d a b s
  | .macs sh d a b => Sys2Proof.Machine.execMacs sh d a b s
  | .divu sh d a b => Sys2Proof.Machine.execDivu sh d a b s
  | .addp sh d a b => Sys2Proof.Machine.execAddp sh d a b s
  | .subp sh d a b => Sys2Proof.Machine.execSubp sh d a b s
  | .shlp sh d a b => Sys2Proof.Machine.execShlp sh d a b s
  | .shrp sh d a b => Sys2Proof.Machine.execShrp sh d a b s
  | .sarp sh d a b => Sys2Proof.Machine.execSarp sh d a b s
  | .movp sh d a => Sys2Proof.Machine.execMovp sh d a s
  | .cmpp sh a b => Sys2Proof.Machine.execCmpp sh a b s
  | .sxp sh d a => Sys2Proof.Machine.execSxp sh d a s
  -- Field
  | .extu sh d a pos w1 => Sys2Proof.Machine.execExtu sh d a pos w1 s
  | .exts sh d a pos w1 => Sys2Proof.Machine.execExts sh d a pos w1 s
  | .ins sh d a pos w1 => Sys2Proof.Machine.execIns sh d a pos w1 s
  | .btst sh a b => Sys2Proof.Machine.execBtst sh a b s
  | .bset sh d a b => Sys2Proof.Machine.execBset sh d a b s
  | .bclr sh d a b => Sys2Proof.Machine.execBclr sh d a b s
  | .bflip sh d a b => Sys2Proof.Machine.execBflip sh d a b s
  -- LoadStore
  | .ld sh d a imm => Sys2Proof.Machine.execLd sh d a imm s
  | .ldx sh d a ext => Sys2Proof.Machine.execLdx sh d a ext s
  | .st sh d a imm => Sys2Proof.Machine.execSt sh d a imm s
  | .stx sh d a ext => Sys2Proof.Machine.execStx sh d a ext s
  | .ldp sh d a imm => Sys2Proof.Machine.execLdp sh d a imm s
  | .stp sh d a imm => Sys2Proof.Machine.execStp sh d a imm s
  | .loadArrival sh k uncorrectable => Sys2Proof.Machine.execLoadArrival sh k uncorrectable s
  | .storeDrain sh buf => Sys2Proof.Machine.execStoreDrain sh buf s
  -- Branch
  | .bCond sh cond disp => Sys2Proof.Machine.execBCond sh cond disp s
  | .callCond sh cond disp => Sys2Proof.Machine.execCallCond sh cond disp s
  | .jr sh d a => Sys2Proof.Machine.execJr sh d a s
  | .jl sh d ext => Sys2Proof.Machine.execJl sh d ext s
  -- Event
  | .waitev sh d a => Sys2Proof.Machine.execWaitev sh d a s
  | .waitevTimeout sh => Sys2Proof.Machine.execWaitevTimeout sh s
  | .eventArrival e => Sys2Proof.Machine.execEventArrival e s
  | .signal sh a imm => Sys2Proof.Machine.execSignal sh a imm s
  | .signalDelivery sh dp => Sys2Proof.Machine.execSignalDelivery sh dp s
  | .tcap sh d => Sys2Proof.Machine.execTcap sh d s
  | .waitt sh a => Sys2Proof.Machine.execWaitt sh a s
  | .waittTarget sh => Sys2Proof.Machine.execWaittTarget sh s
  -- Token
  | .tkacq sh t => Sys2Proof.Machine.execTkacq sh t s
  | .tktry sh t => Sys2Proof.Machine.execTktry sh t s
  | .tkrel sh t => Sys2Proof.Machine.execTkrel sh t s
  | .tokenRelease t => Sys2Proof.Machine.execTokenRelease t s
  | .tokenHoldLimit t => Sys2Proof.Machine.execTokenHoldLimit t s
  -- Request
  | .pt sh d a => Sys2Proof.Machine.execPt sh d a s
  | .ptp sh d a => Sys2Proof.Machine.execPtp sh d a s
  | .kv sh d a => Sys2Proof.Machine.execKv sh d a s
  | .kvp sh d a => Sys2Proof.Machine.execKvp sh d a s
  | .frt sh a => Sys2Proof.Machine.execFrt sh a s
  -- Crc
  | .crc32 sh d a b => Sys2Proof.Machine.execCrc32 sh d a b s
  | .crc32c sh d a b => Sys2Proof.Machine.execCrc32c sh d a b s
  | .crc32b sh d a b => Sys2Proof.Machine.execCrc32b sh d a b s
  | .crc32cb sh d a b => Sys2Proof.Machine.execCrc32cb sh d a b s
  | .crc16 sh d a b => Sys2Proof.Machine.execCrc16 sh d a b s
  | .crc16b sh d a b => Sys2Proof.Machine.execCrc16b sh d a b s
  | .fmix sh d a b => Sys2Proof.Machine.execFmix sh d a b s
  | .red sh d a b => Sys2Proof.Machine.execRed sh d a b s
  -- System
  | .fence sh => Sys2Proof.Machine.execFence sh s
  | .rdast sh d => Sys2Proof.Machine.execRdast sh d s
  | .rdfl sh d => Sys2Proof.Machine.execRdfl sh d s
  | .wrfl sh a => Sys2Proof.Machine.execWrfl sh a s
  | .rdid sh d => Sys2Proof.Machine.execRdid sh d s
  | .rdpc sh d => Sys2Proof.Machine.execRdpc sh d s
  | .halts sh => Sys2Proof.Machine.execHalts sh s
  | .illegal sh w ext => Sys2Proof.Machine.execIllegal sh w ext s
  -- DepotCtl
  | .depotWatchdogLimit sh => Sys2Proof.Machine.execDepotWatchdogLimit sh s
  | .watchdogFault sh => Sys2Proof.Machine.execWatchdogFault sh s
  | .gwdKick src dp v => Sys2Proof.Machine.execGwdKick src dp v s
  | .kickWindowExpiry => Sys2Proof.Machine.execKickWindowExpiry s
  | .globalWatchdogWarning => Sys2Proof.Machine.execGlobalWatchdogWarning s
  | .globalWatchdogExpiry => Sys2Proof.Machine.execGlobalWatchdogExpiry s
  | .go src sh entry => Sys2Proof.Machine.execGo src sh entry s
  | .halt src sh => Sys2Proof.Machine.execHalt src sh s
  | .reset src sh => Sys2Proof.Machine.execReset src sh s
  | .dpImdataWrite src dp v => Sys2Proof.Machine.execDpImdataWrite src dp v s
  | .dpImdataRead src dp => Sys2Proof.Machine.execDpImdataRead src dp s
  | .romenWrite src dp v => Sys2Proof.Machine.execRomenWrite src dp v s
  | .routeWrite src dp e hi v => Sys2Proof.Machine.execRouteWrite src dp e hi v s
  -- Freight
  | .freightCompletion dp good => Sys2Proof.Machine.execFreightCompletion dp good s
  -- Front
  | .feWinWrite src band v => Sys2Proof.Machine.execFeWinWrite src band v s
  | .synthesiserLock band => Sys2Proof.Machine.execSynthesiserLock band s
  | .lossOfLock band => Sys2Proof.Machine.execLossOfLock band s
  | .referenceOffsetDelivery => Sys2Proof.Machine.execReferenceOffsetDelivery s
  | .agcGainDrop band chain => Sys2Proof.Machine.execAgcGainDrop band chain s
  | .agcGainRise band chain => Sys2Proof.Machine.execAgcGainRise band chain s
  | .feAgcGainWrite src band chain v => Sys2Proof.Machine.execFeAgcGainWrite src band chain v s
  | .dpdUpdate band converged => Sys2Proof.Machine.execDpdUpdate band converged s
  | .txDpdDataAccess src band v => Sys2Proof.Machine.execTxDpdDataAccess src band v s
  | .feedbackOverRange band => Sys2Proof.Machine.execFeedbackOverRange band s
  | .antennaRequest src band v => Sys2Proof.Machine.execAntennaRequest src band v s
  | .goOnAir band => Sys2Proof.Machine.execGoOnAir band s
  | .goOffAir band => Sys2Proof.Machine.execGoOffAir band s
  | .feRgnCommit src v => Sys2Proof.Machine.execFeRgnCommit src v s
  | .regionCommitDone => Sys2Proof.Machine.execRegionCommitDone s
  | .feRgnDataAccess src v => Sys2Proof.Machine.execFeRgnDataAccess src v s
  | .accumulatorBucketAdvance band acc => Sys2Proof.Machine.execAccumulatorBucketAdvance band acc s
  | .feedbackInRange band => Sys2Proof.Machine.execFeedbackInRange band s
  -- Lanes
  | .chCfgWrite src band c fofs v => Sys2Proof.Machine.execChCfgWrite src band c fofs v s
  | .detection d => Sys2Proof.Machine.execDetection d s
  | .startOfFrameNotConfirmed lane => Sys2Proof.Machine.execStartOfFrameNotConfirmed lane s
  | .phrReceived lane phr => Sys2Proof.Machine.execPhrReceived lane phr s
  | .codewordDecoded lane converged => Sys2Proof.Machine.execCodewordDecoded lane converged s
  | .ldpcTimeout lane => Sys2Proof.Machine.execLdpcTimeout lane s
  | .reportPosting lane m => Sys2Proof.Machine.execReportPosting lane m s
  | .lnLctlRel src lane => Sys2Proof.Machine.execLnLctlRel src lane s
  | .boundLaneSample => Sys2Proof.Machine.execBoundLaneSample s
  -- Transmit
  | .tsArm src band slot => Sys2Proof.Machine.execTsArm src band slot s
  | .tsDisarm src band slot => Sys2Proof.Machine.execTsDisarm src band slot s
  | .tsLaunch band slot busy => Sys2Proof.Machine.execTsLaunch band slot busy s
  | .lastDacSample band slot => Sys2Proof.Machine.execLastDacSample band slot s
  | .txCtlWrite src band v => Sys2Proof.Machine.execTxCtlWrite src band v s
  -- SignalBox
  | .pathPreparation => Sys2Proof.Machine.execPathPreparation s
  | .frameArming k => Sys2Proof.Machine.execFrameArming k s
  | .keyCheck k => Sys2Proof.Machine.execKeyCheck k s
  | .pathBoundary => Sys2Proof.Machine.execPathBoundary s
  | .uplinkAcknowledgement k busy => Sys2Proof.Machine.execUplinkAcknowledgement k busy s
  | .pathCompletion => Sys2Proof.Machine.execPathCompletion s
  | .commit src store => Sys2Proof.Machine.execCommit src store s
  | .editionCheckDone => Sys2Proof.Machine.execEditionCheckDone s
  | .cancel src store => Sys2Proof.Machine.execCancel src store s
  | .run src => Sys2Proof.Machine.execRun src s
  | .stop src => Sys2Proof.Machine.execStop src s
  | .sbAbort src => Sys2Proof.Machine.execSbAbort src s
  | .signalBoxWaitEnd => Sys2Proof.Machine.execSignalBoxWaitEnd s
  | .sbCcmdWr src => Sys2Proof.Machine.execSbCcmdWr src s
  | .sbCcmdRd src => Sys2Proof.Machine.execSbCcmdRd src s
  | .sbJoindoneWrite src v => Sys2Proof.Machine.execSbJoindoneWrite src v s
  | .meshAliveTimeout => Sys2Proof.Machine.execMeshAliveTimeout s
  -- Clock
  | .scFreqWrite src v => Sys2Proof.Machine.execScFreqWrite src v s
  | .addUpdate => Sys2Proof.Machine.execAddUpdate s
  | .scSlewWrite src v => Sys2Proof.Machine.execScSlewWrite src v s
  | .scSlewlenWrite src v => Sys2Proof.Machine.execScSlewlenWrite src v s
  | .slewEnd => Sys2Proof.Machine.execSlewEnd s
  | .scLoad src => Sys2Proof.Machine.execScLoad src s
  | .scStep src => Sys2Proof.Machine.execScStep src s
  | .scMeasWrite src v => Sys2Proof.Machine.execScMeasWrite src v s
  | .holdoverTimeout => Sys2Proof.Machine.execHoldoverTimeout s
  | .leaderWrite src v => Sys2Proof.Machine.execLeaderWrite src v s
  | .scTime0Read src => Sys2Proof.Machine.execScTime0Read src s
  | .compareFire c => Sys2Proof.Machine.execCompareFire c s
  | .cmpWrite src c r v => Sys2Proof.Machine.execCmpWrite src c r v s
  -- Points
  | .nread p => Sys2Proof.Machine.execNread p s
  | .nwrite p => Sys2Proof.Machine.execNwrite p s
  | .ninsert p => Sys2Proof.Machine.execNinsert p s
  | .ndelete p => Sys2Proof.Machine.execNdelete p s
  | .nfind p => Sys2Proof.Machine.execNfind p s
  | .nupdl p => Sys2Proof.Machine.execNupdl p s
  | .nsync p => Sys2Proof.Machine.execNsync p s
  | .learn p => Sys2Proof.Machine.execLearn p s
  | .radd p => Sys2Proof.Machine.execRadd p s
  | .rdel p => Sys2Proof.Machine.execRdel p s
  | .rfind p => Sys2Proof.Machine.execRfind p s
  | .lookup p => Sys2Proof.Machine.execLookup p s
  | .dset p => Sys2Proof.Machine.execDset p s
  | .dget p => Sys2Proof.Machine.execDget p s
  | .fget p => Sys2Proof.Machine.execFget p s
  | .fclr p => Sys2Proof.Machine.execFclr p s
  | .ptHseedWrite src v => Sys2Proof.Machine.execPtHseedWrite src v s
  | .ptCfgWrite src v => Sys2Proof.Machine.execPtCfgWrite src v s
  | .ptShadowWrite src rcnt v => Sys2Proof.Machine.execPtShadowWrite src rcnt v s
  | .scrubberNodeVisit => Sys2Proof.Machine.execScrubberNodeVisit s
  | .scrubberTableVisit => Sys2Proof.Machine.execScrubberTableVisit s
  -- Yard
  | .enq r => Sys2Proof.Machine.execEnq r s
  | .enqm r => Sys2Proof.Machine.execEnqm r s
  | .deq r => Sys2Proof.Machine.execDeq r s
  | .put r => Sys2Proof.Machine.execPut r s
  | .get r => Sys2Proof.Machine.execGet r s
  | .qflush r => Sys2Proof.Machine.execQflush r s
  | .calloc r => Sys2Proof.Machine.execCalloc r s
  | .cfree r => Sys2Proof.Machine.execCfree r s
  | .clink r => Sys2Proof.Machine.execClink r s
  | .cnext r => Sys2Proof.Machine.execCnext r s
  | .qctlWrite src q v => Sys2Proof.Machine.execQctlWrite src q v s
  | .cellinit src v => Sys2Proof.Machine.execCellinit src v s
  | .cellinitDone => Sys2Proof.Machine.execCellinitDone s
  | .ydCtlWrite src v => Sys2Proof.Machine.execYdCtlWrite src v s
  | .refillTick => Sys2Proof.Machine.execRefillTick s
  | .shaperWrite src r v => Sys2Proof.Machine.execShaperWrite src r v s
  | .glCommit src e => Sys2Proof.Machine.execGlCommit src e s
  | .glCancel src e => Sys2Proof.Machine.execGlCancel src e s
  | .glDataAccess src e v => Sys2Proof.Machine.execGlDataAccess src e v s
  | .gateListTakeOver e => Sys2Proof.Machine.execGateListTakeOver e s
  | .ydMldataAccess src v => Sys2Proof.Machine.execYdMldataAccess src v s
  | .wagonOffer p => Sys2Proof.Machine.execWagonOffer p s
  | .wagonHistogramSample => Sys2Proof.Machine.execWagonHistogramSample s
  -- Backhaul
  | .frameSend p => Sys2Proof.Machine.execFrameSend p s
  | .frameSent p => Sys2Proof.Machine.execFrameSent p s
  | .frameReceive p f => Sys2Proof.Machine.execFrameReceive p f s
  | .probeSend p => Sys2Proof.Machine.execProbeSend p s
  | .probeInterval p => Sys2Proof.Machine.execProbeInterval p s
  | .linkUp p speed => Sys2Proof.Machine.execLinkUp p speed s
  | .linkLoss p why => Sys2Proof.Machine.execLinkLoss p why s
  | .holdExpiry => Sys2Proof.Machine.execHoldExpiry s
  | .swap src => Sys2Proof.Machine.execSwap src s
  | .pauseWatchdog p prio => Sys2Proof.Machine.execPauseWatchdog p prio s
  | .flowControlRepeat p => Sys2Proof.Machine.execFlowControlRepeat p s
  | .errcntDecay p => Sys2Proof.Machine.execErrcntDecay p s
  | .bhCtlWrite src p v => Sys2Proof.Machine.execBhCtlWrite src p v s
  | .bhCntLoRead src blk k => Sys2Proof.Machine.execBhCntLoRead src blk k s
  | .prSkewSample => Sys2Proof.Machine.execPrSkewSample s
  | .wakeMatch p frame => Sys2Proof.Machine.execWakeMatch p frame s
  | .pauseExpiry p prio => Sys2Proof.Machine.execPauseExpiry p prio s
  | .pauseIgnoreEnd p prio => Sys2Proof.Machine.execPauseIgnoreEnd p prio s
  | .pcsCodeError p => Sys2Proof.Machine.execPcsCodeError p s
  -- Vault
  | .load w => Sys2Proof.Machine.execLoad w s
  | .blobLoaded slot => Sys2Proof.Machine.execBlobLoaded slot s
  | .evict w => Sys2Proof.Machine.execEvict w s
  | .writeBackDone => Sys2Proof.Machine.execWriteBackDone s
  | .rewrap w => Sys2Proof.Machine.execRewrap w s
  | .revoke w => Sys2Proof.Machine.execRevoke w s
  | .tombstoneWritten slot => Sys2Proof.Machine.execTombstoneWritten slot s
  | .genkey w => Sys2Proof.Machine.execGenkey w s
  | .kdf w => Sys2Proof.Machine.execKdf w s
  | .exportKey w => Sys2Proof.Machine.execExportKey w s
  | .importKey w => Sys2Proof.Machine.execImportKey w s
  | .hmac w => Sys2Proof.Machine.execHmac w s
  | .hash w => Sys2Proof.Machine.execHash w s
  | .gcmseal w => Sys2Proof.Machine.execGcmseal w s
  | .gcmopen w => Sys2Proof.Machine.execGcmopen w s
  | .sign w => Sys2Proof.Machine.execSign w s
  | .signingTimeout w => Sys2Proof.Machine.execSigningTimeout w s
  | .verify w => Sys2Proof.Machine.execVerify w s
  | .random w => Sys2Proof.Machine.execRandom w s
  | .challenge w => Sys2Proof.Machine.execChallenge w s
  | .attest w => Sys2Proof.Machine.execAttest w s
  | .attpub w => Sys2Proof.Machine.execAttpub w s
  | .extend w => Sys2Proof.Machine.execExtend w s
  | .measure w => Sys2Proof.Machine.execMeasure w s
  | .lcadv w => Sys2Proof.Machine.execLcadv w s
  | .selftest w pass => Sys2Proof.Machine.execSelftest w pass s
  | .ccm w => Sys2Proof.Machine.execCcm w s
  | .receiveSecurityJob => Sys2Proof.Machine.execReceiveSecurityJob s
  | .remask slot => Sys2Proof.Machine.execRemask slot s
  | .rootReconstruction ok => Sys2Proof.Machine.execRootReconstruction ok s
  | .startupTestDone pass => Sys2Proof.Machine.execStartupTestDone pass s
  | .healthFailure osc => Sys2Proof.Machine.execHealthFailure osc s
  | .failcntClear => Sys2Proof.Machine.execFailcntClear s
  | .reseed => Sys2Proof.Machine.execReseed s
  -- Update
  | .openSession p => Sys2Proof.Machine.execOpenSession p s
  | .wrblk p readBackOk => Sys2Proof.Machine.execWrblk p readBackOk s
  | .abort p => Sys2Proof.Machine.execAbort p s
  | .arm p => Sys2Proof.Machine.execArm p s
  | .disarm p => Sys2Proof.Machine.execDisarm p s
  | .confirm p => Sys2Proof.Machine.execConfirm p s
  | .rollback p => Sys2Proof.Machine.execRollback p s
  | .clrreg p => Sys2Proof.Machine.execClrreg p s
  | .upRdataRead src => Sys2Proof.Machine.execUpRdataRead src s
  | .confirmWindowWarning => Sys2Proof.Machine.execConfirmWindowWarning s
  | .confirmTimeout => Sys2Proof.Machine.execConfirmTimeout s
  -- Host
  | .bar0Write addr dws => Sys2Proof.Machine.execBar0Write addr dws s
  | .bar0Read addr n => Sys2Proof.Machine.execBar0Read addr n s
  | .doorbell d v => Sys2Proof.Machine.execDoorbell d v s
  | .msixMessage vec => Sys2Proof.Machine.execMsixMessage vec s
  | .perstN => Sys2Proof.Machine.execPerstN s
  | .pcieLinkChange link => Sys2Proof.Machine.execPcieLinkChange link s
  | .pcieConfigWrite c => Sys2Proof.Machine.execPcieConfigWrite c s
  | .msixTableWrite vec e => Sys2Proof.Machine.execMsixTableWrite vec e s
  -- Usb
  | .vbusChange high => Sys2Proof.Machine.execVbusChange high s
  | .usbBusReset hs => Sys2Proof.Machine.execUsbBusReset hs s
  | .info wLength => Sys2Proof.Machine.execInfo wLength s
  | .commissioningGet item wLength => Sys2Proof.Machine.execCommissioningGet item wLength s
  | .commissioningSet id item data => Sys2Proof.Machine.execCommissioningSet id item data s
  | .query id => Sys2Proof.Machine.execQuery id s
  | .hcUsbans src v => Sys2Proof.Machine.execHcUsbans src v s
  | .commissioningAnswerTimeout => Sys2Proof.Machine.execCommissioningAnswerTimeout s
  | .bulkOutArm src v => Sys2Proof.Machine.execBulkOutArm src v s
  | .bulkOutPacket data => Sys2Proof.Machine.execBulkOutPacket data s
  | .bulkInGo src v => Sys2Proof.Machine.execBulkInGo src v s
  | .bulkInEnd => Sys2Proof.Machine.execBulkInEnd s
  | .usbStandardRequest => Sys2Proof.Machine.execUsbStandardRequest s
  | .unsupportedVendorRequest bRequest wValue wLength => Sys2Proof.Machine.execUnsupportedVendorRequest bRequest wValue wLength s
  -- Nfc
  | .nfcFieldChange present => Sys2Proof.Machine.execNfcFieldChange present s
  | .select data => Sys2Proof.Machine.execSelect data s
  | .readBinary ofs len => Sys2Proof.Machine.execReadBinary ofs len s
  | .updateBinary ofs data => Sys2Proof.Machine.execUpdateBinary ofs data s
  | .unknownApdu ins => Sys2Proof.Machine.execUnknownApdu ins s
  | .hcNfcwinRead src k => Sys2Proof.Machine.execHcNfcwinRead src k s
  | .hcNfccmt src v => Sys2Proof.Machine.execHcNfccmt src v s
  | .stagingCommitApplied => Sys2Proof.Machine.execStagingCommitApplied s
  -- LowSpeed
  | .gpioChange pins => Sys2Proof.Machine.execGpioChange pins s
  | .spiGo src c v => Sys2Proof.Machine.execSpiGo src c v s
  | .spiTransferEnd c data => Sys2Proof.Machine.execSpiTransferEnd c data s
  | .i2cGo src c v => Sys2Proof.Machine.execI2cGo src c v s
  | .i2cTransactionEnd c res data => Sys2Proof.Machine.execI2cTransactionEnd c res data s
  | .uartDataWrite src u v => Sys2Proof.Machine.execUartDataWrite src u v s
  | .uartDataRead src u => Sys2Proof.Machine.execUartDataRead src u s
  | .uartReceive u => Sys2Proof.Machine.execUartReceive u s
  | .uartOctetArrival u v => Sys2Proof.Machine.execUartOctetArrival u v s
  | .uartOctetSent u => Sys2Proof.Machine.execUartOctetSent u s
  -- Debug
  | .chal src => Sys2Proof.Machine.execChal src s
  | .submit src => Sys2Proof.Machine.execSubmit src s
  | .relock src => Sys2Proof.Machine.execRelock src s
  | .challengeExpiry => Sys2Proof.Machine.execChallengeExpiry s
  | .tapInstruction k => Sys2Proof.Machine.execTapInstruction k s
  | .dbgacc op => Sys2Proof.Machine.execDbgacc op s
  -- Power
  | .modeRequest src target => Sys2Proof.Machine.execModeRequest src target s
  | .modeChangeDone => Sys2Proof.Machine.execModeChangeDone s
  | .dormantRequest src => Sys2Proof.Machine.execDormantRequest src s
  | .dormantEntryComplete => Sys2Proof.Machine.execDormantEntryComplete s
  | .keepaliveRequest src => Sys2Proof.Machine.execKeepaliveRequest src s
  | .wake w => Sys2Proof.Machine.execWake w s
  | .keepaliveWake pin => Sys2Proof.Machine.execKeepaliveWake pin s
  | .domainRequest src => Sys2Proof.Machine.execDomainRequest src s
  | .domainChangeDone => Sys2Proof.Machine.execDomainChangeDone s
  | .resetPinFall => Sys2Proof.Machine.execResetPinFall s
  | .resetPinRise holdMs => Sys2Proof.Machine.execResetPinRise holdMs s
  | .resetRelease => Sys2Proof.Machine.execResetRelease s
  | .pwSwrst src v => Sys2Proof.Machine.execPwSwrst src v s
  | .brownout => Sys2Proof.Machine.execBrownout s
  | .supplyGood => Sys2Proof.Machine.execSupplyGood s
  | .mainSuppliesGood => Sys2Proof.Machine.execMainSuppliesGood s
  | .supplyFailure => Sys2Proof.Machine.execSupplyFailure s
  | .vbatSwitchOver => Sys2Proof.Machine.execVbatSwitchOver s
  | .vddIoReturn => Sys2Proof.Machine.execVddIoReturn s
  | .vbatRise => Sys2Proof.Machine.execVbatRise s
  | .vbatFall => Sys2Proof.Machine.execVbatFall s
  | .vbatLow => Sys2Proof.Machine.execVbatLow s
  | .pfailNFall => Sys2Proof.Machine.execPfailNFall s
  | .pfailNRise => Sys2Proof.Machine.execPfailNRise s
  | .pwSscWrite src v => Sys2Proof.Machine.execPwSscWrite src v s
  -- Rtc
  | .rtcLoad src => Sys2Proof.Machine.execRtcLoad src s
  | .rtcSync src => Sys2Proof.Machine.execRtcSync src s
  | .rtcCommandApply => Sys2Proof.Machine.execRtcCommandApply s
  | .rtcAlarm => Sys2Proof.Machine.execRtcAlarm s
  | .oscillatorStop => Sys2Proof.Machine.execOscillatorStop s
  | .oscillatorRestart => Sys2Proof.Machine.execOscillatorRestart s
  -- Health
  | .temperatureSample sensor t => Sys2Proof.Machine.execTemperatureSample sensor t s
  | .highestTemperatureRecord => Sys2Proof.Machine.execHighestTemperatureRecord s
  | .ageingMeasurement counts => Sys2Proof.Machine.execAgeingMeasurement counts s
  | .prediction => Sys2Proof.Machine.execPrediction s
  | .hmPredcmd src => Sys2Proof.Machine.execHmPredcmd src s
  | .predictionDone => Sys2Proof.Machine.execPredictionDone s
  | .occurrenceUpdate code => Sys2Proof.Machine.execOccurrenceUpdate code s
  | .hmRec src v => Sys2Proof.Machine.execHmRec src v s
  | .hmCurWrite src n v => Sys2Proof.Machine.execHmCurWrite src n v s
  | .hmWindowAdvance src n => Sys2Proof.Machine.execHmWindowAdvance src n s
  | .hmEdgedataWrite src v => Sys2Proof.Machine.execHmEdgedataWrite src v s
  | .hmCfgWrite src v => Sys2Proof.Machine.execHmCfgWrite src v s
  | .hmSnap src v => Sys2Proof.Machine.execHmSnap src v s
  | .periodicSnapshot => Sys2Proof.Machine.execPeriodicSnapshot s
  | .snapshotDone => Sys2Proof.Machine.execSnapshotDone s

end Sys2Proof.Machine
end

