-- ==== Sys2Proof/Machine/Tick.lean ====
section
/-! DEFINITION. What a core cycle does with no command waiting: the station clock and the real-time clock count, and
each shunter that can issue runs its next instruction (log 2, log 3). -/

namespace Sys2Proof.Machine

/-- The boot ROM, whose contents the spec does not give, overlays this address of a depot's instruction store (R132). -/
def State.inRom (s : State) (d : Nat) (pc : BitVec 17) : Bool :=
  decide (d = 6) && decide (0x1F000 ≤ pc.toNat) && bit (s.reg (aDP 6 0)) 23

/-- The instruction at a shunter's program counter, with the word that follows it (R694). -/
def State.fetched (s : State) (sh : Sh) : Instr :=
  let d := depotOf sh
  let pc := (s.shunter sh).pc
  Nimvor.decode sh (s.codeWord d pc.toNat) (s.codeWord d (pc + 1).toNat)

/-- The instruction at a shunter's program counter, or the word that belongs to it, holds an uncorrectable error (R78);
movi, ldx, stx, jl and the bit fields have two words (R694). -/
def State.fetchBad (s : State) (sh : Sh) : Bool :=
  let d := depotOf sh
  let pc := (s.shunter sh).pc
  let bad := fun (a : BitVec 17) => mapGet (fun _ => false) s.dp.codeEcc (131072 * d + a.toNat)
  bad pc || ([7, 12, 17, 19, 27].contains (fld (s.codeWord d pc.toNat) 23 18) && bad (pc + 1))

/-- The state that a command leaves. -/
def State.after (s : State) (c : Instr) : State :=
  match exec c s with
  | .next t => t
  | .fault _ => s
  | .refused _ => s

/-- One instruction of a shunter, where its depot is on and it may issue; an uncorrectable error in its words faults the
shunter with cause ECC (R78, R121). -/
def State.runOne (s : State) (sh : Sh) : State :=
  if s.on (6 + depotOf sh) && (s.shunter sh).canIssue && !s.inRom (depotOf sh) (s.shunter sh).pc then
    if s.fetchBad sh then s.faultShunter sh 2 (s.shunter sh).pc else s.after (s.fetched sh)
  else s

/-- One core cycle. -/
def State.tick (s : State) : State :=
  let t := ({ s with now := s.now + 1 }).scTick
  let u := if t.on dBKP then t.rtcTick else t
  (upTo 64).foldl (fun (v : State) i => v.runOne (Fin.ofNat 64 i)) u

end Sys2Proof.Machine
end

