-- ==== Sys2Proof/Safety.lean ====
section
/-! DEFINITION. The vocabulary of the statements: what a command that completes leaves, and what it leaves alone. -/

namespace Sys2Proof.Machine

/-- Command `c` completes in state `s` with next state `t`. -/
def Completes (c : Instr) (s t : State) : Prop := exec c s = .next t

/-- `t` differs from `u` in shunter `sh` alone: no register, memory, FIFO or other shunter differs. -/
def OnlyShunter (sh : Sh) (u t : State) : Prop :=
  (∀ j : Sh, j ≠ sh → t.shunter j = u.shunter j) ∧ t = { u with shunters := t.shunters }

/-- Shunter `y` is `x` after an instruction on registers: only the registers `ds` and the flags may differ, and the
program counter is `pc`. Its AST fields, tokens, buffers, outstanding loads and counts are as before. -/
def RanTo (pc : BitVec 17) (ds : List Reg) (x y : Shunter) : Prop :=
  (∀ r, r ∉ ds → y.r r = x.r r) ∧
    y = { x with g := y.g, n := y.n, z := y.z, c := y.c, v := y.v, pc := pc, jump := none, stepping := false }

/-- The address of the instruction `len` words on, or the entry of the shunter's own GO (R694, R131). -/
def Shunter.following (x : Shunter) (len : Nat) : BitVec 17 :=
  match x.jump with
  | some e => e
  | none => x.pc + BitVec.ofNat 17 len

/-- Where a branch to `p` goes: to `p`, or to the entry of the shunter's own GO (R131). -/
def Shunter.goesTo (x : Shunter) (p : BitVec 17) : BitVec 17 := x.jump.getD p

/-- Instruction `c` of shunter `sh` completes on registers alone wherever the shunter may issue: the loads into the
registers `uses` arrive first (R66), then only `ds` and the flags change as `P` says, and the program counter moves
on by `len`. -/
def Runs (c : Instr) (s : State) (sh : Sh) (uses : List Reg) (len : Nat) (ds : List Reg) (P : Shunter → Shunter → Prop) :
    Prop :=
  (s.shunter sh).canIssue = true →
    ∃ t, Completes c s t ∧ OnlyShunter sh (s.settle sh uses) t ∧
      RanTo (((s.settle sh uses).shunter sh).following len) ds ((s.settle sh uses).shunter sh) (t.shunter sh) ∧
      P ((s.settle sh uses).shunter sh) (t.shunter sh)

/-- Register `d` takes `v`; a write of g0 is discarded (R61). -/
def Gets (y : Shunter) (d : Reg) (v : Word) : Prop := y.r d = if d = 0 then 0 else v

/-- The pair of the even register `d` takes `v`; g0:g1 takes only bits [23:0] (R63). -/
def GetsPair (y : Shunter) (d : Reg) (v : Long) : Prop :=
  y.pair d = if d = 0 then long 0 (loWord v) else v

/-- The four flags. -/
def Flags (y : Shunter) (n z c v : Bool) : Prop := y.n = n ∧ y.z = z ∧ y.c = c ∧ y.v = v

/-- The flags N and Z of `r`; C and V as in `x`. -/
def FlagsNZ {w : Nat} (x y : Shunter) (r : BitVec w) : Prop := Flags y r.msb (decide (r = 0)) x.c x.v

/-- The flags of the sum `r` of `a`, `b` and the carry `k`: C is the carry out, V says that the signed sum does not
fit. -/
def FlagsSum {w : Nat} (y : Shunter) (a b r : BitVec w) (k : Nat) : Prop :=
  Flags y r.msb (decide (r = 0)) (decide (2 ^ w ≤ a.toNat + b.toNat + k)) (decide (r.toInt ≠ a.toInt + b.toInt + k))

/-- The flags of the difference `r` of `a`, `b` and the borrow `k`: C = 1 when no borrow occurred. -/
def FlagsDiff {w : Nat} (y : Shunter) (a b r : BitVec w) (k : Nat) : Prop :=
  Flags y r.msb (decide (r = 0)) (decide (b.toNat + k ≤ a.toNat)) (decide (r.toInt ≠ a.toInt - b.toInt - k))

/-- `r` with carry `k` is `a` shifted or rotated by `n`, where C was `c` (R705, R709). -/
def IsShift {w : Nat} (sk : Shift) (a : BitVec w) (n : Nat) (c : Bool) (r : BitVec w) (k : Bool) : Prop :=
  match sk with
  | .shl => r.toNat = a.toNat * 2 ^ n % 2 ^ w ∧
      k = if n = 0 then c else if w ≤ n then false else decide (a.toNat * 2 ^ n / 2 ^ w % 2 = 1)
  | .shr => r.toNat = a.toNat / 2 ^ n ∧
      k = if n = 0 then c else if w ≤ n then false else decide (a.toNat / 2 ^ (n - 1) % 2 = 1)
  | .sar => r.toInt = a.toInt / (2 ^ n : Nat) ∧
      k = if n = 0 then c else decide (a.toInt / (2 ^ (n - 1) : Nat) % 2 = 1)
  | .rol => (∀ i, i < w → r.getLsbD i = a.getLsbD ((i + w - n % w) % w)) ∧ k = if n % w = 0 then c else r.getLsbD 0
  | .ror => (∀ i, i < w → r.getLsbD i = a.getLsbD ((i + n % w) % w)) ∧ k = if n % w = 0 then c else r.getLsbD (w - 1)

/-- Register `d` takes a word of which `P` holds, N and Z say what it is, and C and V are unchanged. -/
def TakesNZ (d : Reg) (P : Shunter → Word → Prop) (x y : Shunter) : Prop := ∃ r, P x r ∧ Gets y d r ∧ FlagsNZ x y r

/-- The pair of `d` takes a value of which `P` holds, N and Z say what it is, and C and V are unchanged. -/
def TakesPairNZ (d : Reg) (P : Shunter → Long → Prop) (x y : Shunter) : Prop :=
  ∃ r, P x r ∧ GetsPair y d r ∧ FlagsNZ x y r

/-- Register `d` takes register `a` shifted by `n`; V is unchanged. -/
def TakesShift (d : Reg) (k : Shift) (a : Reg) (n : Shunter → Nat) (x y : Shunter) : Prop :=
  ∃ r c, IsShift k (x.r a) (n x) x.c r c ∧ Gets y d r ∧ Flags y r.msb (decide (r = 0)) c x.v

/-- The pair of `d` takes the pair of `a` shifted by gb[5:0]; V is unchanged. -/
def TakesPairShift (d : Reg) (k : Shift) (a b : Reg) (x y : Shunter) : Prop :=
  ∃ r c, IsShift k (x.pair a) ((x.r b).toNat % 64) x.c r c ∧ GetsPair y d r ∧ Flags y r.msb (decide (r = 0)) c x.v

/-- The shift count gb[4:0]. -/
def byReg (b : Reg) (x : Shunter) : Nat := (x.r b).toNat % 32

/-- Command `c` faults shunter `sh` with cause ILLEGAL where the shunter may issue (R121, R122, R693). -/
def Faults (c : Instr) (s : State) (sh : Sh) : Prop :=
  (s.shunter sh).canIssue = true → Completes c s (s.faultShunter sh 1 (s.shunter sh).pc)

/-- The instruction of `len` words is behind the shunter, and the next may issue. -/
def Shunter.stepped (x : Shunter) (len : Nat) : Shunter :=
  { x with pc := x.following len, jump := none, stepping := false, busy := false }

/-- Where shunter `sh` may issue, command `c` completes and leaves state `u` but for that shunter, which is `y`. -/
def Leaves (c : Instr) (s : State) (sh : Sh) (u : State) (y : Shunter) : Prop :=
  (s.shunter sh).canIssue = true → ∃ t, Completes c s t ∧ OnlyShunter sh u t ∧ t.shunter sh = y

/-- Shunter `y` is `x` after a request that ended with status `st` (R700): AST.RSTAT and Z say so, N, C and V and every
register but `ds` are as before, and the program counter is past the instruction. -/
def Requested (st : Status) (ds : List Reg) (x y : Shunter) : Prop :=
  (∀ r, r ∉ ds → y.r r = x.r r) ∧
    y = { x with
      g := y.g, rstat := BitVec.ofNat 4 (stCode st), z := decide (st = .ok), pc := x.following 1, jump := none,
      stepping := false, busy := false }

/-- Command `c` of shunter `sh` completes as a request: `u` is left but for the shunter, whose request ended with
`st`, and `P` holds of it. -/
def Ends (c : Instr) (s : State) (sh : Sh) (u : State) (st : Status) (ds : List Reg) (P : Shunter → Prop) : Prop :=
  (s.shunter sh).canIssue = true →
    ∃ t, Completes c s t ∧ OnlyShunter sh u t ∧ Requested st ds (u.shunter sh) (t.shunter sh) ∧ P (t.shunter sh)

/-- The agent may make the access: it can make accesses at all, and profile, address and power domain allow this one (R80,
R116, R22). -/
def Allowed (s : State) (src : Src) (rd : Bool) (a : Nat) : Prop :=
  s.agentOn src = true ∧ s.accessStatus src rd a = .ok

/-- `u` with the access to word `a` answered with status `st` (R80). -/
def State.answered (u : State) (src : Src) (a : Nat) (st : Status) : State :=
  { u.noteAccess src st (wd a) with lastStatus := st }

/-- `u` with the read of word `a` answered with value `v`. -/
def State.answeredRead (u : State) (src : Src) (a : Nat) (v : Word) : State :=
  { u.noteAccess src .ok (wd a) with readback := v, lastStatus := .ok }

/-- Every flag and every register but `ds` of `y` is as in `x`. -/
def Kept (ds : List Reg) (x y : Shunter) : Prop :=
  (∀ r, r ∉ ds → y.r r = x.r r) ∧ Flags y x.n x.z x.c x.v

/-- Command `c` of points port `p` ends with status `st` and detail `d`: PT_STAT says so with BUSY clear, no shunter of the
port's depot waits for it any more, and `P` holds of the state left (R362, R725). -/
def Answers (c : Instr) (s : State) (p : Fin 11) (st : Status) (d : Nat) (P : State → Prop) : Prop :=
  ∃ t k, Completes c s t ∧ k ≤ 128 ∧ t.reg (aPort p.val 1) = wd (stCode st * 2 ^ 19 + d * 2 ^ 8 + k) ∧
    (∀ (sh : Sh) (r : Reg), depotOf sh = p.val → (t.shunter sh).wait ≠ .points r) ∧ P t

/-- The state in which the request of shunter `sh` acts: the loads into the registers `uses` have arrived (R66), the
instruction is in progress. -/
def State.issued (s : State) (sh : Sh) (uses : List Reg) : State :=
  ((s.settle sh uses).modShunter sh (fun x => { x with stepping := false, busy := true })).modShunter sh
    (fun x => { x with busy := false })

/-- Request `c` of shunter `sh`, where it may issue: without the write-profile bit for the yard it is DENIED (R403); an
operand block `blk` that leaves local data is BADARG; otherwise every earlier store drains (R106), `op` is performed, its
results are stored as `fin` says, and the shunter takes its status. -/
def ShunterAsks (c : Instr) (s : State) (sh : Sh) (uses : List Reg) (blk : Shunter → Option (Word × Nat))
    (op : State → YardAns × State) (fin : YardAns → State → State) : Prop :=
  (s.shunter sh).canIssue = true →
  ((s.issued sh uses).writeBit sh 7 = false →
    Completes c s (((s.issued sh uses).occurV 0x0E 0).finish sh .denied)) ∧
  ((s.issued sh uses).writeBit sh 7 = true →
    (∀ a n, blk ((s.issued sh uses).shunter sh) = some (a, n) → 0x4000 < a.toNat + n →
      Completes c s ((s.issued sh uses).finish sh .badarg)) ∧
    ((∀ a n, blk ((s.issued sh uses).shunter sh) = some (a, n) → a.toNat + n ≤ 0x4000) →
      Completes c s ((fin (op ((s.issued sh uses).drainAll sh)).1 (op ((s.issued sh uses).drainAll sh)).2).finish sh
        (op ((s.issued sh uses).drainAll sh)).1.status)))

/-- Request `c` of the host port (R405), while it waits there and the yard is powered: `op` is performed, its results are
stored as `fin` says where its status is OK, and BUSY clears with the status and the words returned. -/
def HostAsks (c : Instr) (s : State) (code : Nat) (op : State → YardAns × State) (fin : YardAns → State → State)
    (n : YardAns → Nat) : Prop :=
  s.yd.hostBusy = true → s.hostOp = code → s.on dYARD = true →
    Completes c s ((if (op s).1.status = .ok then fin (op s).1 (op s).2 else (op s).2).hostDone (op s).1.status (n (op s).1))

end Sys2Proof.Machine
end

