-- ==== Sys2Proof/WellFormed.lean ====
section
/-! DEFINITION. The well-formed commands: those whose operands lie in the ranges the spec gives them. -/

namespace Sys2Proof

open Sys2Proof.Machine (fld)

/-- A command whose operands are in range: pairs are even (R693), counts and fields as Tables 17-9 to 17-14 bound
them, queues, slots and buffers within their tables. -/
def Instr.wf : Instr → Bool
  | .mulu _ d _ _ => Nimvor.even d
  | .muls _ d _ _ => Nimvor.even d
  | .macu _ d _ _ => Nimvor.even d
  | .macs _ d _ _ => Nimvor.even d
  | .divu _ d a _ => Nimvor.even d && Nimvor.even a
  | .addp _ d a b => Nimvor.even d && Nimvor.even a && Nimvor.even b
  | .subp _ d a b => Nimvor.even d && Nimvor.even a && Nimvor.even b
  | .shlp _ d a _ => Nimvor.even d && Nimvor.even a
  | .shrp _ d a _ => Nimvor.even d && Nimvor.even a
  | .sarp _ d a _ => Nimvor.even d && Nimvor.even a
  | .movp _ d a => Nimvor.even d && Nimvor.even a
  | .cmpp _ a b => Nimvor.even a && Nimvor.even b
  | .sxp _ d _ => Nimvor.even d
  | .tcap _ d => Nimvor.even d
  | .waitt _ a => Nimvor.even a
  | .crc32 _ d a _ => Nimvor.even d && Nimvor.even a
  | .crc32c _ d a _ => Nimvor.even d && Nimvor.even a
  | .crc32b _ d a _ => Nimvor.even d && Nimvor.even a
  | .crc32cb _ d a _ => Nimvor.even d && Nimvor.even a
  | .enq (.shunter _ d _ _) => decide (d = 0)
  | .deq (.shunter _ d _ _) => decide (d = 0)
  | .qflush (.shunter _ _ _ b) => decide (b = 0)
  | .cfree (.shunter _ d _ b) => decide (d = 0) && decide (b = 0)
  | .clink (.shunter _ d _ _) => decide (d = 0)
  | .cnext (.shunter _ d _ b) => decide (b = 0) && Nimvor.even d
  | .ldp _ d _ _ => Nimvor.even d
  | .stp _ d _ _ => Nimvor.even d
  | .shli _ _ _ n => decide (n.toNat < 24)
  | .shri _ _ _ n => decide (n.toNat < 24)
  | .sari _ _ _ n => decide (n.toNat < 24)
  | .roli _ _ _ n => decide (n.toNat < 24)
  | .rori _ _ _ n => decide (n.toNat < 24)
  | .jl _ _ ext => decide (fld ext 23 17 = 0)
  | .signal _ a imm => (if imm.getLsbD 7 then decide (imm = 128) else decide (a = 0))
  | .extu _ _ _ pos w1 => decide (pos.toNat ≤ 23) && decide (pos.toNat + w1.toNat + 1 ≤ 24)
  | .exts _ _ _ pos w1 => decide (pos.toNat ≤ 23) && decide (pos.toNat + w1.toNat + 1 ≤ 24)
  | .ins _ _ _ pos w1 => decide (pos.toNat ≤ 23) && decide (pos.toNat + w1.toNat + 1 ≤ 24)
  | .qctlWrite _ q _ => decide (q < 147456)
  | .blobLoaded s | .tombstoneWritten s | .remask s => decide (s < 16384)
  | _ => true

end Sys2Proof
end

