-- ==== Sys2Proof/Certificates/Slice0/Obligations.lean ====
section
/-! DEFINITION. The statements for the provers. -/

open Sys2Proof Sys2Proof.Machine

/-- R704: add, adc, sub, sbc, addi and subi give the sum or difference with N, Z, C and V, write only gd, and leave
everything but the shunter alone. -/
def Obligations.ArithmeticResults : Prop :=
  ∀ (s : State) (sh : Sh) (d a b : Reg) (imm : BitVec 8),
    Runs (.add sh d a b) s sh [d, a, b] 1 [d] (fun x y =>
      Gets y d (x.r a + x.r b) ∧ FlagsSum y (x.r a) (x.r b) (x.r a + x.r b) 0) ∧
    Runs (.adc sh d a b) s sh [d, a, b] 1 [d] (fun x y =>
      Gets y d (x.r a + x.r b + wd (b2n x.c)) ∧ FlagsSum y (x.r a) (x.r b) (x.r a + x.r b + wd (b2n x.c)) (b2n x.c)) ∧
    Runs (.sub sh d a b) s sh [d, a, b] 1 [d] (fun x y =>
      Gets y d (x.r a - x.r b) ∧ FlagsDiff y (x.r a) (x.r b) (x.r a - x.r b) 0) ∧
    Runs (.sbc sh d a b) s sh [d, a, b] 1 [d] (fun x y =>
      Gets y d (x.r a - x.r b - wd (1 - b2n x.c)) ∧
        FlagsDiff y (x.r a) (x.r b) (x.r a - x.r b - wd (1 - b2n x.c)) (1 - b2n x.c)) ∧
    Runs (.addi sh d a imm) s sh [d, a] 1 [d] (fun x y =>
      Gets y d (x.r a + imm.signExtend 24) ∧ FlagsSum y (x.r a) (imm.signExtend 24) (x.r a + imm.signExtend 24) 0) ∧
    Runs (.subi sh d a imm) s sh [d, a] 1 [d] (fun x y =>
      Gets y d (x.r a - imm.signExtend 24) ∧ FlagsDiff y (x.r a) (imm.signExtend 24) (x.r a - imm.signExtend 24) 0)

/-- R704: the logic instructions and the moves. -/
def Obligations.LogicResults : Prop :=
  ∀ (s : State) (sh : Sh) (d a b : Reg) (imm : BitVec 8) (ext : Word),
    Runs (.and sh d a b) s sh [d, a, b] 1 [d] (TakesNZ d (fun x r => r = x.r a &&& x.r b)) ∧
    Runs (.or sh d a b) s sh [d, a, b] 1 [d] (TakesNZ d (fun x r => r = x.r a ||| x.r b)) ∧
    Runs (.xor sh d a b) s sh [d, a, b] 1 [d] (TakesNZ d (fun x r => r = x.r a ^^^ x.r b)) ∧
    Runs (.andn sh d a b) s sh [d, a, b] 1 [d] (TakesNZ d (fun x r => r = x.r a &&& ~~~(x.r b))) ∧
    Runs (.andi sh d a imm) s sh [d, a] 1 [d] (TakesNZ d (fun x r => r = x.r a &&& imm.setWidth 24)) ∧
    Runs (.ori sh d a imm) s sh [d, a] 1 [d] (TakesNZ d (fun x r => r = x.r a ||| imm.setWidth 24)) ∧
    Runs (.xori sh d a imm) s sh [d, a] 1 [d] (TakesNZ d (fun x r => r = x.r a ^^^ imm.setWidth 24)) ∧
    Runs (.movs sh d imm) s sh [d] 1 [d] (fun x y => Gets y d (imm.signExtend 24) ∧ Flags y x.n x.z x.c x.v) ∧
    Runs (.movi sh d ext) s sh [d] 2 [d] (fun x y => Gets y d ext ∧ Flags y x.n x.z x.c x.v)

/-- R704, R705: shifts and rotations by gb[4:0] or by a count of 0 to 23; V is unchanged; a larger immediate count is
ILLEGAL. -/
def Obligations.ShiftResults : Prop :=
  ∀ (s : State) (sh : Sh) (d a b : Reg) (i : BitVec 5),
    Runs (.shl sh d a b) s sh [d, a, b] 1 [d] (TakesShift d .shl a (byReg b)) ∧
    Runs (.shr sh d a b) s sh [d, a, b] 1 [d] (TakesShift d .shr a (byReg b)) ∧
    Runs (.sar sh d a b) s sh [d, a, b] 1 [d] (TakesShift d .sar a (byReg b)) ∧
    Runs (.rol sh d a b) s sh [d, a, b] 1 [d] (TakesShift d .rol a (byReg b)) ∧
    Runs (.ror sh d a b) s sh [d, a, b] 1 [d] (TakesShift d .ror a (byReg b)) ∧
    (i.toNat < 24 →
      Runs (.shli sh d a i) s sh [d, a] 1 [d] (TakesShift d .shl a (fun _ => i.toNat)) ∧
      Runs (.shri sh d a i) s sh [d, a] 1 [d] (TakesShift d .shr a (fun _ => i.toNat)) ∧
      Runs (.sari sh d a i) s sh [d, a] 1 [d] (TakesShift d .sar a (fun _ => i.toNat)) ∧
      Runs (.roli sh d a i) s sh [d, a] 1 [d] (TakesShift d .rol a (fun _ => i.toNat)) ∧
      Runs (.rori sh d a i) s sh [d, a] 1 [d] (TakesShift d .ror a (fun _ => i.toNat))) ∧
    (24 ≤ i.toNat →
      Faults (.shli sh d a i) s sh ∧ Faults (.shri sh d a i) s sh ∧ Faults (.sari sh d a i) s sh ∧
      Faults (.roli sh d a i) s sh ∧ Faults (.rori sh d a i) s sh)

/-- R704, R710: the bit instructions and the bit-field instructions. -/
def Obligations.BitAndFieldResults : Prop :=
  (∀ (s : State) (sh : Sh) (d a b : Reg),
      Runs (.clz sh d a) s sh [d, a] 1 [d] (TakesNZ d (fun x r =>
        r.toNat ≤ 24 ∧ (∀ k, k < r.toNat → (x.r a).getLsbD (23 - k) = false) ∧ (r.toNat < 24 → (x.r a).getLsbD (23 - r.toNat) = true))) ∧
      Runs (.popc sh d a) s sh [d, a] 1 [d] (TakesNZ d (fun x r =>
        r.toNat = ((List.range 24).filter (fun i => (x.r a).getLsbD i)).length)) ∧
      Runs (.brev sh d a) s sh [d, a] 1 [d] (TakesNZ d (fun x r => ∀ i, i < 24 → r.getLsbD i = (x.r a).getLsbD (23 - i))) ∧
      Runs (.bset sh d a b) s sh [d, a, b] 1 [d] (TakesNZ d (fun x r =>
        ∀ i, i < 24 → r.getLsbD i = ((x.r a).getLsbD i || decide (i = (x.r b).toNat % 24)))) ∧
      Runs (.bclr sh d a b) s sh [d, a, b] 1 [d] (TakesNZ d (fun x r =>
        ∀ i, i < 24 → r.getLsbD i = ((x.r a).getLsbD i && decide (i ≠ (x.r b).toNat % 24)))) ∧
      Runs (.bflip sh d a b) s sh [d, a, b] 1 [d] (TakesNZ d (fun x r =>
        ∀ i, i < 24 → r.getLsbD i = ((x.r a).getLsbD i ^^ decide (i = (x.r b).toNat % 24)))) ∧
      Runs (.btst sh a b) s sh [a, b] 1 [] (fun x y =>
        Flags y x.n (!(x.r a).getLsbD ((x.r b).toNat % 24)) x.c x.v)) ∧
  (∀ (s : State) (sh : Sh) (d a : Reg) (pos w1 : BitVec 5),
      (pos.toNat + w1.toNat + 1 ≤ 24 →
        Runs (.extu sh d a pos w1) s sh [d, a] 2 [d] (TakesNZ d (fun x r =>
          ∀ i, i < 24 → r.getLsbD i = (decide (i ≤ w1.toNat) && (x.r a).getLsbD (pos.toNat + i)))) ∧
        Runs (.exts sh d a pos w1) s sh [d, a] 2 [d] (TakesNZ d (fun x r =>
          ∀ i, i < 24 → r.getLsbD i = (x.r a).getLsbD (pos.toNat + min i w1.toNat))) ∧
        Runs (.ins sh d a pos w1) s sh [d, a] 2 [d] (TakesNZ d (fun x r =>
          ∀ i, i < 24 → r.getLsbD i =
            if pos.toNat ≤ i ∧ i ≤ pos.toNat + w1.toNat then (x.r a).getLsbD (i - pos.toNat) else (x.r d).getLsbD i))) ∧
      (24 < pos.toNat + w1.toNat + 1 →
        Faults (.extu sh d a pos w1) s sh ∧ Faults (.exts sh d a pos w1) s sh ∧ Faults (.ins sh d a pos w1) s sh))

/-- R693, R706–R709: multiplication, division and the operations on pairs. -/
def Obligations.MultiplyDivideAndPairResults : Prop :=
  (∀ (s : State) (sh : Sh) (d a b : Reg),
      Runs (.mull sh d a b) s sh [d, a, b] 1 [d] (TakesNZ d (fun x r =>
        r.toNat = (x.r a).toNat * (x.r b).toNat % 2 ^ 24)) ∧
      (d.val % 2 = 0 →
        Runs (.mulu sh d a b) s sh [d, d + 1, a, b] 1 [d, d + 1] (TakesPairNZ d (fun x r =>
          r.toNat = (x.r a).toNat * (x.r b).toNat)) ∧
        Runs (.muls sh d a b) s sh [d, d + 1, a, b] 1 [d, d + 1] (TakesPairNZ d (fun x r =>
          r.toInt = (x.r a).toInt * (x.r b).toInt)) ∧
        Runs (.macu sh d a b) s sh [d, d + 1, a, b] 1 [d, d + 1] (fun x y =>
          let m := (x.pair d).toNat + (x.r a).toNat * (x.r b).toNat
          ∃ r : Long, r.toNat = m % 2 ^ 48 ∧ GetsPair y d r ∧
            Flags y r.msb (decide (r = 0)) (decide (2 ^ 48 ≤ m)) x.v) ∧
        Runs (.macs sh d a b) s sh [d, d + 1, a, b] 1 [d, d + 1] (fun x y =>
          let m := (x.pair d).toInt + (x.r a).toInt * (x.r b).toInt
          ∃ r : Long, r.toInt = m.bmod (2 ^ 48) ∧ GetsPair y d r ∧
            Flags y r.msb (decide (r = 0)) x.c (decide (r.toInt ≠ m))) ∧
        (a.val % 2 = 0 →
          Runs (.divu sh d a b) s sh [d, d + 1, a, a + 1, b] 1 [d, d + 1] (fun x y =>
            let n := (x.pair a).toNat
            let m := (x.r b).toNat
            if m = 0 ∨ 2 ^ 24 ≤ n / m then
              GetsPair y d (long 0xFFFFFF 0) ∧ Flags y x.n false false true
            else GetsPair y d (long (wd (n / m)) (wd (n % m))) ∧ Flags y x.n (decide (n / m = 0)) false false))) ∧
      (d.val % 2 = 1 → Faults (.mulu sh d a b) s sh ∧ Faults (.muls sh d a b) s sh ∧ Faults (.macu sh d a b) s sh ∧
        Faults (.macs sh d a b) s sh ∧ Faults (.divu sh d a b) s sh) ∧
      (a.val % 2 = 1 → Faults (.divu sh d a b) s sh)) ∧
  (∀ (s : State) (sh : Sh) (d a b : Reg),
      (d.val % 2 = 0 →
        Runs (.sxp sh d a) s sh [d, d + 1, a] 1 [d, d + 1] (TakesPairNZ d (fun x r =>
          r.toInt = (x.r a).toInt))) ∧
      (d.val % 2 = 0 → a.val % 2 = 0 →
        Runs (.shlp sh d a b) s sh [d, d + 1, a, a + 1, b] 1 [d, d + 1] (TakesPairShift d .shl a b) ∧
        Runs (.shrp sh d a b) s sh [d, d + 1, a, a + 1, b] 1 [d, d + 1] (TakesPairShift d .shr a b) ∧
        Runs (.sarp sh d a b) s sh [d, d + 1, a, a + 1, b] 1 [d, d + 1] (TakesPairShift d .sar a b) ∧
        Runs (.movp sh d a) s sh [d, d + 1, a, a + 1] 1 [d, d + 1] (fun x y =>
          GetsPair y d (x.pair a) ∧ FlagsNZ x y (x.pair a))) ∧
      (d.val % 2 = 0 → a.val % 2 = 0 → b.val % 2 = 0 →
        Runs (.addp sh d a b) s sh [d, d + 1, a, a + 1, b, b + 1] 1 [d, d + 1] (fun x y =>
          GetsPair y d (x.pair a + x.pair b) ∧ FlagsSum y (x.pair a) (x.pair b) (x.pair a + x.pair b) 0) ∧
        Runs (.subp sh d a b) s sh [d, d + 1, a, a + 1, b, b + 1] 1 [d, d + 1] (fun x y =>
          GetsPair y d (x.pair a - x.pair b) ∧ FlagsDiff y (x.pair a) (x.pair b) (x.pair a - x.pair b) 0)) ∧
      (a.val % 2 = 0 → b.val % 2 = 0 →
        Runs (.cmpp sh a b) s sh [a, a + 1, b, b + 1] 1 [] (fun x y =>
          FlagsDiff y (x.pair a) (x.pair b) (x.pair a - x.pair b) 0)) ∧
      (d.val % 2 = 1 → Faults (.addp sh d a b) s sh ∧ Faults (.subp sh d a b) s sh ∧ Faults (.shlp sh d a b) s sh ∧
        Faults (.shrp sh d a b) s sh ∧ Faults (.sarp sh d a b) s sh ∧ Faults (.movp sh d a) s sh ∧
        Faults (.sxp sh d a) s sh) ∧
      (a.val % 2 = 1 → Faults (.addp sh d a b) s sh ∧ Faults (.subp sh d a b) s sh ∧ Faults (.shlp sh d a b) s sh ∧
        Faults (.shrp sh d a b) s sh ∧ Faults (.sarp sh d a b) s sh ∧ Faults (.movp sh d a) s sh ∧
        Faults (.cmpp sh a b) s sh) ∧
      (b.val % 2 = 1 → Faults (.addp sh d a b) s sh ∧ Faults (.subp sh d a b) s sh ∧ Faults (.cmpp sh a b) s sh))

/-- R728, R752: the CRC and hash helpers. -/
def Obligations.HelperResults : Prop :=
  ∀ (s : State) (sh : Sh) (d a b : Reg),
    (d.val % 2 = 0 → a.val % 2 = 0 →
      Runs (.crc32 sh d a b) s sh [d, d + 1, a, a + 1, b] 1 [d, d + 1] (fun x y =>
        let r := ((octets (x.r b)).foldl (crc32Octet 0xEDB88320) ((x.pair a).setWidth 32)).setWidth 48
        GetsPair y d r ∧ Flags y x.n (decide (r = 0)) x.c x.v) ∧
      Runs (.crc32c sh d a b) s sh [d, d + 1, a, a + 1, b] 1 [d, d + 1] (fun x y =>
        let r := ((octets (x.r b)).foldl (crc32Octet 0x82F63B78) ((x.pair a).setWidth 32)).setWidth 48
        GetsPair y d r ∧ Flags y x.n (decide (r = 0)) x.c x.v) ∧
      Runs (.crc32b sh d a b) s sh [d, d + 1, a, a + 1, b] 1 [d, d + 1] (fun x y =>
        let r := (crc32Octet 0xEDB88320 ((x.pair a).setWidth 32) ((x.r b).setWidth 8)).setWidth 48
        GetsPair y d r ∧ Flags y x.n (decide (r = 0)) x.c x.v) ∧
      Runs (.crc32cb sh d a b) s sh [d, d + 1, a, a + 1, b] 1 [d, d + 1] (fun x y =>
        let r := (crc32Octet 0x82F63B78 ((x.pair a).setWidth 32) ((x.r b).setWidth 8)).setWidth 48
        GetsPair y d r ∧ Flags y x.n (decide (r = 0)) x.c x.v)) ∧
    Runs (.crc16 sh d a b) s sh [d, a, b] 1 [d] (fun x y =>
      let r : Word := ((octets (x.r b)).foldl crc16Octet ((x.r a).setWidth 16)).setWidth 24
      Gets y d r ∧ Flags y x.n (decide (r = 0)) x.c x.v) ∧
    Runs (.crc16b sh d a b) s sh [d, a, b] 1 [d] (fun x y =>
      let r : Word := (crc16Octet ((x.r a).setWidth 16) ((x.r b).setWidth 8)).setWidth 24
      Gets y d r ∧ Flags y x.n (decide (r = 0)) x.c x.v) ∧
    Runs (.fmix sh d a b) s sh [d, a, b] 1 [d] (TakesNZ d (fun x r =>
      ∃ p q : Word, p = (x.r a ^^^ x.r b) ^^^ ((x.r a ^^^ x.r b) >>> 12) ∧ q.toNat = p.toNat * 0x9E3779 % 2 ^ 24 ∧
        r = q ^^^ (q >>> 11))) ∧
    Runs (.red sh d a b) s sh [d, a, b] 1 [d] (TakesNZ d (fun x r =>
      r.toNat = (x.r a).toNat * (x.r b).toNat / 2 ^ 24 ∧ ((x.r b).toNat ≠ 0 → r.toNat < (x.r b).toNat))) ∧
    (d.val % 2 = 1 ∨ a.val % 2 = 1 → Faults (.crc32 sh d a b) s sh ∧ Faults (.crc32c sh d a b) s sh ∧
      Faults (.crc32b sh d a b) s sh ∧ Faults (.crc32cb sh d a b) s sh)

/-- R696, R714: branches, calls and returns; a branch after subp or cmpp sees their flags as a 48-bit compare. -/
def Obligations.BranchAndPairResults : Prop :=
  (∀ (s : State) (sh : Sh) (cond : BitVec 4) (disp : BitVec 14) (d a : Reg) (ext : Word),
      let x := s.shunter sh
      x.canIssue = true →
      (∃ t, Completes (.bCond sh cond disp) s t ∧ OnlyShunter sh s t ∧
        RanTo (x.goesTo (if x.holds cond then x.pc + disp.signExtend 17 else x.pc + 1)) [] x (t.shunter sh) ∧
        Kept [] x (t.shunter sh)) ∧
      (let y := (s.settle sh [31]).shunter sh
        ∃ t, Completes (.callCond sh cond disp) s t ∧ OnlyShunter sh (s.settle sh [31]) t ∧
          RanTo (y.goesTo (if y.holds cond then y.pc + disp.signExtend 17 else y.pc + 1)) [31] y (t.shunter sh) ∧
          Kept [31] y (t.shunter sh) ∧
          (t.shunter sh).r 31 = if y.holds cond then (y.pc + 1).setWidth 24 else y.r 31) ∧
      (let y := (s.settle sh [d, a]).shunter sh
        ∃ t, Completes (.jr sh d a) s t ∧ OnlyShunter sh (s.settle sh [d, a]) t ∧
          RanTo (y.goesTo ((y.r a).setWidth 17)) [d] y (t.shunter sh) ∧ Kept [d] y (t.shunter sh) ∧
          Gets (t.shunter sh) d ((y.pc + 1).setWidth 24)) ∧
      (ext.toNat < 2 ^ 17 →
        let y := (s.settle sh [d]).shunter sh
        ∃ t, Completes (.jl sh d ext) s t ∧ OnlyShunter sh (s.settle sh [d]) t ∧
          RanTo (y.goesTo (ext.setWidth 17)) [d] y (t.shunter sh) ∧ Kept [d] y (t.shunter sh) ∧
          Gets (t.shunter sh) d ((y.pc + 2).setWidth 24)) ∧
      (2 ^ 17 ≤ ext.toNat → Faults (.jl sh d ext) s sh)) ∧
  (∀ (s t : State) (sh : Sh) (d a b : Reg),
      d.val % 2 = 0 → a.val % 2 = 0 → b.val % 2 = 0 → (s.shunter sh).canIssue = true → (s.shunter sh).loads = [] →
      Completes (.subp sh d a b) s t →
      ((t.shunter sh).holds 15 = true ↔
        1 ≤ (((s.shunter sh).pair a).toNat + 2 ^ 48 - ((s.shunter sh).pair b).toNat) % 2 ^ 48 ∧
        (((s.shunter sh).pair a).toNat + 2 ^ 48 - ((s.shunter sh).pair b).toNat) % 2 ^ 48 < 2 ^ 47))

/-- R80, R121, R122, R693, R701, R729: the system instructions, and a fault with what it records. -/
def Obligations.SystemAndFaultResults : Prop :=
  (∀ (s : State) (sh : Sh) (d a : Reg) (w ext : Word),
      let x := (s.settle sh [d]).shunter sh
      Runs (.rdfl sh d) s sh [d] 1 [d] (fun x y =>
        Gets y d (wd (b2n x.n * 8 + b2n x.z * 4 + b2n x.c * 2 + b2n x.v)) ∧ Flags y x.n x.z x.c x.v) ∧
      Runs (.wrfl sh a) s sh [a] 1 [] (fun x y =>
        Flags y ((x.r a).getLsbD 3) ((x.r a).getLsbD 2) ((x.r a).getLsbD 1) ((x.r a).getLsbD 0)) ∧
      Runs (.rdid sh d) s sh [d] 1 [d] (fun x y => Gets y d (wd sh.val) ∧ Flags y x.n x.z x.c x.v) ∧
      Runs (.rdpc sh d) s sh [d] 1 [d] (fun x y => Gets y d ((x.pc + 1).setWidth 24) ∧ Flags y x.n x.z x.c x.v) ∧
      ((s.shunter sh).canIssue = true →
        ∃ t, Completes (.rdast sh d) s t ∧ OnlyShunter sh (s.settle sh [d]) t ∧
          RanTo (x.following 1) [d] { x with sticky := false } (t.shunter sh) ∧ Kept [d] x (t.shunter sh) ∧
          Gets (t.shunter sh) d (wd (b2n x.sticky * 2 ^ 23 + x.rstat.toNat * 16 + x.mstat.toNat))) ∧
      ((s.shunter sh).run = .running → (s.shunter sh).canIssue = true →
        ∃ t, Completes (.halts sh) s t ∧ OnlyShunter sh s t ∧
          t.shunter sh = { s.shunter sh with
            run := .halted, pc := (s.shunter sh).following 1, jump := none, stepping := false, wdAcc := 0, wdFrom := s.now,
            wdFirst := false }) ∧
      Faults (.illegal sh w ext) s sh) ∧
  (∀ (s : State) (sh : Sh) (cause : Nat) (fpc : BitVec 17), (s.shunter sh).canIssue = true →
      let t := s.faultShunter sh cause fpc
      let x := s.shunter sh
      (∀ r, (t.shunter sh).r r = x.r r) ∧ Flags (t.shunter sh) x.n x.z x.c x.v ∧ (t.shunter sh).held = x.held ∧
        (t.shunter sh).run = .faulted ∧ (t.shunter sh).cause = BitVec.ofNat 4 cause ∧ (t.shunter sh).fpc = fpc ∧
        (t.shunter sh).pc = fpc ∧ (∀ j, j ≠ sh → t.shunter j = s.shunter j) ∧
        t = { s with
          shunters := t.shunters
          dp := { s.dp with inflight := s.dp.inflight ++ [Fin.ofNat 1024 (880 + sh.val / 8)] }
          hm := { s.hm with pending := s.hm.pending ++ [(0x08, 0)] } })

/-- R66, R78–R80, R711–R713: a load takes its word when it issues and stays outstanding; it arrives in its register with the
word and the status it took; an uncorrectable error faults the shunter for local data and gives 0 with FAULT beyond it.
Where the spec is silent it follows log 11, the model's choice. -/
def Obligations.LoadResults : Prop :=
  (∀ (s : State) (sh : Sh) (d a : Reg) (imm : BitVec 8) (ext : Word),
      let u := s.settle sh [d, a]
      let x := u.shunter sh
      let v := s.settle sh [d, d + 1, a]
      let y := v.shunter sh
      let near := x.r a + imm.signExtend 24
      let far := x.r a + ext
      let two := y.r a + imm.signExtend 24
      ((x.loads.filter (fun e => decide (0x100000 ≤ e.addr.toNat))).length < 4 →
        Leaves (.ld sh d a imm) s sh u (Shunter.stepped { x with loads := x.loads ++ [⟨d, near, u.sample sh near, x.seq, x.pc⟩] } 1) ∧
        Leaves (.ldx sh d a ext) s sh u (Shunter.stepped { x with loads := x.loads ++ [⟨d, far, u.sample sh far, x.seq, x.pc⟩] } 2)) ∧
      (d.val % 2 = 0 → (y.loads.filter (fun e => decide (0x100000 ≤ e.addr.toNat))).length < 3 →
        Leaves (.ldp sh d a imm) s sh v
          (Shunter.stepped { y with loads := y.loads ++ [⟨d, two, v.sample sh two, y.seq, y.pc⟩, ⟨d + 1, two + 1, v.sample sh (two + 1), y.seq, y.pc⟩] } 1)) ∧
      (d.val % 2 = 1 → Faults (.ldp sh d a imm) s sh)) ∧
  (∀ (s : State) (sh : Sh) (i : Nat) (e : LoadEntry) (w : Word) (st : Status),
      let x := s.shunter sh
      x.loads[i]? = some e → e.got = some (w, st) →
      ∃ t, Completes (.loadArrival sh i false) s t ∧ OnlyShunter sh s t ∧ Gets (t.shunter sh) e.dest w ∧
        Kept [e.dest] x (t.shunter sh) ∧
        t.shunter sh = { x with
          g := (t.shunter sh).g
          loads := x.loads.eraseIdx i
          mstat := if st = .ok then x.mstat else BitVec.ofNat 4 (stCode st)
          sticky := x.sticky || decide (st ≠ .ok)
          sfaddr := if st = .ok then x.sfaddr else e.addr }) ∧
  (∀ (s : State) (sh : Sh) (i : Nat) (e : LoadEntry),
      let x := s.shunter sh
      x.loads[i]? = some e →
      (e.addr.toNat < 0x4000 → x.wait = .none →
        ∃ t, Completes (.loadArrival sh i true) s t ∧ (t.shunter sh).run = .faulted ∧ (t.shunter sh).cause = 2 ∧
          (t.shunter sh).fpc = e.pc ∧ (t.shunter sh).g = x.g ∧ t.dp.inflight = s.dp.inflight ++ [Fin.ofNat 1024 (880 + sh.val / 8)] ∧
          t.hm.pending = s.hm.pending ++ [(0x08, 0)] ∧ t.locals = s.locals) ∧
      ((0x4000 ≤ e.addr.toNat ∧ e.addr.toNat < 0x8000) ∨ 0x400000 ≤ e.addr.toNat →
        ∃ t, Completes (.loadArrival sh i true) s t ∧ OnlyShunter sh s t ∧ Gets (t.shunter sh) e.dest 0 ∧
          (t.shunter sh).mstat = 7 ∧ (t.shunter sh).sticky = true ∧ (t.shunter sh).sfaddr = e.addr))

/-- R22, R63, R69, R70, R80, R106, R699, R711, R712: a store to local data takes effect at once and one beyond enters its buffer; a
pair is two stores; buffers drain in order into the memories whose domain is on; fence completes once they have drained.
Where the spec is silent it follows log 11, the model's choice. -/
def Obligations.StoreResults : Prop :=
  (∀ (s : State) (sh : Sh) (d a : Reg) (imm : BitVec 8) (ext : Word),
      let u := s.settle sh [d, a]
      let x := u.shunter sh
      let issues := fun (c : Instr) (len : Nat) (w : Word) =>
        (w.toNat < 0x4000 →
          Leaves c s sh (u.setLocal sh w.toNat (x.r d)) (x.stepped len) ∧ (u.setLocal sh w.toNat (x.r d)).localWord sh w.toNat = x.r d ∧
          ∀ (j : Sh) (k : Nat), k < 0x4000 → (j, k) ≠ (sh, w.toNat) →
            (u.setLocal sh w.toNat (x.r d)).localWord j k = u.localWord j k) ∧
        (0x4000 ≤ w.toNat → w.toNat < 0x8000 → x.scrBuf.length < 4 →
          Leaves c s sh u (Shunter.stepped { x with scrBuf := x.scrBuf ++ [⟨w, x.r d, x.seq⟩], seq := x.seq + 1 } len)) ∧
        (0x8000 ≤ w.toNat → x.mainBuf.length < 8 →
          Leaves c s sh u (Shunter.stepped { x with mainBuf := x.mainBuf ++ [⟨w, x.r d, x.seq⟩], seq := x.seq + 1 } len))
      issues (.st sh d a imm) 1 (x.r a + imm.signExtend 24) ∧ issues (.stx sh d a ext) 2 (x.r a + ext)) ∧
  (∀ (s : State) (sh : Sh) (d a : Reg) (imm : BitVec 8),
      let u := s.settle sh [d, d + 1, a]
      let x := u.shunter sh
      let w := x.r a + imm.signExtend 24
      let p := x.pair d
      (d.val % 2 = 0 → w.toNat + 1 < 0x4000 →
        Leaves (.stp sh d a imm) s sh ((u.setLocal sh w.toNat (hiWord p)).setLocal sh (w.toNat + 1) (loWord p)) (x.stepped 1)) ∧
      (d.val % 2 = 0 → 0x8000 ≤ w.toNat → w.toNat + 1 < 2 ^ 24 → x.mainBuf.length < 7 →
        Leaves (.stp sh d a imm) s sh u
          (Shunter.stepped { x with mainBuf := x.mainBuf ++ [⟨w, hiWord p, x.seq⟩, ⟨w + 1, loWord p, x.seq + 1⟩], seq := x.seq + 2 } 1)) ∧
      (d.val % 2 = 1 → Faults (.stp sh d a imm) s sh)) ∧
  (∀ (s : State) (sh : Sh) (e : StoreEntry) (r : List StoreEntry),
      let x := s.shunter sh
      (x.scrBuf = e :: r → 0x4000 ≤ e.addr.toNat → e.addr.toNat < 0x8000 →
        ∃ t, Completes (.storeDrain sh .scratch) s t ∧ t.shunter sh = { x with scrBuf := r } ∧
          t.scrWord (sh.val / 8) (e.addr.toNat - 0x4000) = e.val ∧
          ∀ b k, k < 0x4000 → (b, k) ≠ (sh.val / 8, e.addr.toNat - 0x4000) → t.scrWord b k = s.scrWord b k) ∧
      (x.mainBuf = e :: r → 0x400000 ≤ e.addr.toNat →
        (s.on (wordDomain e.addr.toNat) = true →
          ∃ t, Completes (.storeDrain sh .main) s t ∧ t.shunter sh = { x with mainBuf := r } ∧ t.mainWord e.addr.toNat = e.val ∧
            ∀ b, b ≠ e.addr.toNat → t.mainWord b = s.mainWord b) ∧
        (s.on (wordDomain e.addr.toNat) = false →
          ∃ t, Completes (.storeDrain sh .main) s t ∧ OnlyShunter sh s t ∧
            t.shunter sh = { x with mainBuf := r, mstat := 3, sticky := true, sfaddr := e.addr }))) ∧
  (∀ (s : State) (sh : Sh), (s.shunter sh).canIssue = true →
      ((s.shunter sh).mainBuf = [] → (s.shunter sh).scrBuf = [] → Leaves (.fence sh) s sh s ((s.shunter sh).stepped 1)) ∧
      (∀ e : StoreEntry, (s.shunter sh).mainBuf = [e] → (s.shunter sh).scrBuf = [] → 0x400000 ≤ e.addr.toNat →
        s.on (wordDomain e.addr.toNat) = true →
        ∃ t, Completes (.fence sh) s t ∧ OnlyShunter sh (s.setMain e.addr.toNat e.val) t ∧
          t.shunter sh = Shunter.stepped { s.shunter sh with mainBuf := [] } 1 ∧ t.mainWord e.addr.toNat = e.val))

/-- R715, R89, R90, R86: waitev is refused with a token held, takes the first record addressed to the shunter, or parks;
a parked waitev whose limit passes ends with TIMEOUT. -/
def Obligations.WaitevResults : Prop :=
  ∀ (s : State) (sh : Sh) (d a : Reg),
    let u := s.settle sh [d, a]
    let x := u.shunter sh
    let cell := aDP (sh.val / 8) 5
    (x.held ≠ [] → Ends (.waitev sh d a) s sh (u.setReg cell (satInc 24 (u.reg cell))) .denied [d] (fun y => Gets y d 0)) ∧
    (x.held = [] → (∀ r ∈ u.dp.records, u.addressed (sh.val / 8) (sh.val % 8) r = false) →
      Leaves (.waitev sh d a) s sh u { x with
        wait := .parked (if x.r a = 0 then none else some (u.now + 16 * (x.r a).toNat)) d
        wdAcc := x.watch u.now, wdFrom := u.now, stepping := false, busy := false }) ∧
    (∀ r, x.held = [] → u.firstRecord (sh.val / 8) (sh.val % 8) u.dp.records = some r → u.now - r.arrival ≤ 4095 →
      (s.shunter sh).canIssue = true →
      ∃ t, Completes (.waitev sh d a) s t ∧ (∀ j, j ≠ sh → t.shunter j = u.shunter j) ∧
        t.dp.records = removeFirst (fun q => decide (q = r)) u.dp.records ∧
        Gets (t.shunter sh) d (wd (r.event.val * 2 ^ 14 + b2n r.multi * 2 ^ 13 + (u.now - r.arrival))) ∧
        t.shunter sh = { x with
          g := (t.shunter sh).g, rstat := 0, z := true, wait := .none, jump := none, stepping := false, busy := false
          wdAcc := 0, wdFrom := u.now, wdFirst := false
          pc := x.goesTo ((u.route (sh.val / 8) r.event.val).2.setWidth 17) }) ∧
    (∀ lim, (s.shunter sh).wait = .parked (some lim) d → lim ≤ s.now →
      ∃ t, Completes (.waitevTimeout sh) s t ∧ OnlyShunter sh s t ∧ Gets (t.shunter sh) d 0 ∧
        Kept [d] { s.shunter sh with z := false } (t.shunter sh) ∧ (t.shunter sh).rstat = 11 ∧ (t.shunter sh).wait = .none ∧
        (t.shunter sh).pc = (s.shunter sh).following 1)

/-- R81–R85: an event that arrives at a depot whose entry is on in MODE ANY goes to a parked shunter of MASK, and is kept
as one record when none is parked; an event that no depot and no vector takes changes nothing else.
Where the spec is silent it follows log 11, the model's choice. -/
def Obligations.EventRouting : Prop :=
  ∀ (s : State) (e : Fin 1024) (d : Depot),
    let r0 := (s.route d.val e.val).1
    let gone := { s with dp := { s.dp with inflight := s.dp.inflight.erase e } }
    e ∈ s.dp.inflight → (s.reg (aHC (0x400 + e.val))).getLsbD 23 = false →
    (∀ k : Depot, k ≠ d → (s.route k.val e.val).1.getLsbD 23 = false) →
    (r0.getLsbD 23 = false → Completes (.eventArrival e) s gone) ∧
    (r0.getLsbD 23 = true → fld r0 21 20 = 0 → s.on (dDEPOT d.val) = true →
      ((∀ p : Fin 8, (s.shunter (shOf d.val p.val)).parkedDest = none) →
        (∀ q ∈ s.dp.records, q.depot = d → q.event = e → q.target ≠ .any) →
        Completes (.eventArrival e) s
          { gone with dp := { gone.dp with records := s.dp.records ++ [⟨d, e, .any, s.now, false⟩] } }) ∧
      (∀ (p : Fin 8) (dest : Reg), r0.getLsbD p.val = true → (s.shunter (shOf d.val p.val)).parkedDest = some dest →
        (∀ q : Fin 8, q ≠ p → (s.shunter (shOf d.val q.val)).parkedDest = none) →
        ∃ t, Completes (.eventArrival e) s t ∧ t.dp.records = s.dp.records ∧
          (∀ j, j ≠ shOf d.val p.val → t.shunter j = s.shunter j) ∧
          Gets (t.shunter (shOf d.val p.val)) dest (wd (e.val * 2 ^ 14)) ∧
          (t.shunter (shOf d.val p.val)).wait = .none ∧
          (t.shunter (shOf d.val p.val)).pc =
            (s.shunter (shOf d.val p.val)).goesTo ((s.route d.val e.val).2.setWidth 17)))

/-- R717, R105, R106: signal queues event 896 to 1023 for every depot after the stores issued before it; a number below is
BADARG; a delivered signal reaches one depot and leaves its list. -/
def Obligations.SignalResults : Prop :=
  ∀ (s : State) (sh : Sh) (a : Reg) (imm : BitVec 8),
    let u := s.settle sh [a]
    let x := u.shunter sh
    let n := if imm.getLsbD 7 then fld (x.r a) 9 0 else 896 + imm.toNat
    let sent : State := { u with dp := { u.dp with
      signals := u.dp.signals ++ [⟨sh, Fin.ofNat 1024 n, x.seq, [0, 1, 2, 3, 4, 5, 6, 7]⟩] } }
    ((imm.getLsbD 7 = true ∧ imm ≠ 128) ∨ (imm.getLsbD 7 = false ∧ a ≠ 0) → Faults (.signal sh a imm) s sh) ∧
    ((imm = 128 ∨ (imm.getLsbD 7 = false ∧ a = 0)) →
      (896 ≤ n → Ends (.signal sh a imm) s sh sent .ok [] (fun _ => True)) ∧
      (n < 896 → Ends (.signal sh a imm) s sh u .badarg [] (fun _ => True))) ∧
    (∀ (g : SignalEntry) (d : Depot), s.dp.signals = [g] → g.src = sh → g.todo = [d] → (s.shunter sh).mainBuf = [] →
      (s.shunter sh).scrBuf = [] → (s.route d.val g.event.val).1.getLsbD 23 = false →
      Completes (.signalDelivery sh d) s { s with dp := { s.dp with signals := [] } })

/-- R718, R93, R719: tcap writes the short time of the cycle; waitt holds the shunter until a time that is later but not by
more than 2^32 units, and ends at the first cycle at or after it. -/
def Obligations.TimeResults : Prop :=
  ∀ (s : State) (sh : Sh) (d a : Reg),
    let u := s.settle sh [d, d + 1]
    let v := s.settle sh [a, a + 1]
    let x := v.shunter sh
    (d.val % 2 = 0 →
      (u.on 5 = true → Ends (.tcap sh d) s sh u .ok [d, d + 1] (fun y => GetsPair y d u.tcap)) ∧
      (u.on 5 = false → Ends (.tcap sh d) s sh u .state [d, d + 1] (fun y => GetsPair y d 0))) ∧
    (a.val % 2 = 0 →
      (v.on 5 = false → Ends (.waitt sh a) s sh v .state [] (fun _ => True)) ∧
      (v.on 5 = true → after (x.pair a) v.tcap = false → Ends (.waitt sh a) s sh v .late [] (fun _ => True)) ∧
      (v.on 5 = true → after (x.pair a) v.tcap = true → 2 ^ 32 < (x.pair a - v.tcap).toNat →
        Ends (.waitt sh a) s sh v .badarg [] (fun _ => True)) ∧
      (v.on 5 = true → after (x.pair a) v.tcap = true → (x.pair a - v.tcap).toNat ≤ 2 ^ 32 →
        Leaves (.waitt sh a) s sh v { x with wait := .time (x.pair a), stepping := false, busy := false })) ∧
    (d.val % 2 = 1 → Faults (.tcap sh d) s sh) ∧ (a.val % 2 = 1 → Faults (.waitt sh a) s sh) ∧
    (∀ w, (s.shunter sh).wait = .time w → after w s.tcap = false →
      ∃ t, Completes (.waittTarget sh) s t ∧ OnlyShunter sh s t ∧ (t.shunter sh).wait = .none ∧ (t.shunter sh).rstat = 0 ∧
        (t.shunter sh).z = true ∧ (t.shunter sh).g = (s.shunter sh).g ∧ (t.shunter sh).pc = (s.shunter sh).following 1)

/-- R96–R98, R101, R103, R720–R722: the requests for tokens, their release to the first waiter, and the hold limit. -/
def Obligations.TokenResults : Prop :=
  (∀ (s : State) (sh : Sh) (k : BitVec 8),
      let x := s.shunter sh
      let q := s.token k.toNat
      let cell := aDP (sh.val / 8) 5
      let refused := (s.setReg cell (satInc 24 (s.reg cell))).occurV 0x0B 0
      let owned := s.setToken k.toNat { q with owner := some sh, last := sh, since := s.now, limitDone := false, relSeq := none }
      ((∃ h ∈ x.held, k.toNat ≤ h.toNat) →
        Ends (.tkacq sh k) s sh refused .denied [] (fun y => y.held = x.held) ∧
        Ends (.tktry sh k) s sh refused .denied [] (fun y => y.held = x.held)) ∧
      ((∀ h ∈ x.held, h.toNat < k.toNat) → 8 ≤ x.held.length →
        Ends (.tkacq sh k) s sh s .full [] (fun y => y.held = x.held) ∧ Ends (.tktry sh k) s sh s .full [] (fun y => y.held = x.held)) ∧
      ((∀ h ∈ x.held, h.toNat < k.toNat) → x.held.length < 8 → s.on (dDEPOT (k.toNat / 32)) = true → x.canIssue = true →
        (q.owner = none → q.waiters = [] →
          (∃ t, Completes (.tkacq sh k) s t ∧ OnlyShunter sh owned t ∧
            Requested .ok [] { x with held := x.held ++ [k] } (t.shunter sh)) ∧
          ∃ t, Completes (.tktry sh k) s t ∧ OnlyShunter sh owned t ∧
            Requested .ok [] { x with held := x.held ++ [k] } (t.shunter sh)) ∧
        (q.owner ≠ none →
          (∃ t, Completes (.tkacq sh k) s t ∧
            OnlyShunter sh (s.setToken k.toNat { q with waiters := q.waiters ++ [(sh, s.now)] }) t ∧
            t.shunter sh = { x with wait := .token k, stepping := false, busy := false }) ∧
          Ends (.tktry sh k) s sh s .busy [] (fun y => y.held = x.held)))) ∧
  (∀ (s : State) (sh : Sh) (k : BitVec 8),
      let x := s.shunter sh
      let q := s.token k.toNat
      let lim := fld (s.reg (aDP (k.toNat / 32) 4)) 15 0 * 1024
      (k ∉ x.held → Ends (.tkrel sh k) s sh s .badarg [] (fun _ => True)) ∧
      (k ∈ x.held → x.canIssue = true →
        ∃ t, Completes (.tkrel sh k) s t ∧ OnlyShunter sh (s.setToken k.toNat { q with relSeq := some x.seq }) t ∧
          Requested .ok [] { x with held := x.held.filter (fun h => h != k) } (t.shunter sh)) ∧
      (∀ n, q.owner = some sh → q.relSeq = some n → x.mainBuf = [] → x.scrBuf = [] →
        (q.waiters = [] →
          Completes (.tokenRelease k) s (s.setToken k.toNat { q with owner := none, relSeq := none })) ∧
        (∀ w c, q.waiters = [(w, c)] → (s.shunter w).wait = .token k →
          ∃ t, Completes (.tokenRelease k) s t ∧ (t.token k.toNat).owner = some w ∧ (t.token k.toNat).waiters = [] ∧
            k ∈ (t.shunter w).held ∧ (t.shunter w).wait = .none ∧ (t.shunter w).rstat = 0 ∧ (t.shunter w).z = true ∧
            ∀ j, j ≠ w → t.shunter j = s.shunter j)) ∧
      (q.owner ≠ none → q.limitDone = false → lim ≠ 0 → q.since + lim ≤ s.now →
        Completes (.tokenHoldLimit k) s
          (((s.setToken k.toNat { q with limitDone := true }).raise (888 + k.toNat / 32)).occurV 0x0C 0)))

/-- R10, R80, R116: an allowed write of a main-store word stores it and leaves every other word; a write that the profile
refuses stores nothing, is DENIED and records occurrence #0E.
Where the spec is silent it follows log 10, the model's choice. -/
def Obligations.RegisterWrites : Prop :=
  ∀ (s : State) (src : Src) (sh : Sh) (a v : Word),
    (0x400000 ≤ a.toNat → Allowed s src false a.toNat →
      ∃ t, Completes (.registerWrite src a v) s t ∧ t.mainWord a.toNat = v ∧ t.lastStatus = .ok ∧
        (∀ b, b ≠ a.toNat → t.mainWord b = s.mainWord b) ∧ t.regs = s.regs ∧ t.locals = s.locals ∧ t.scratch = s.scratch) ∧
    (s.agentOn (.shunter sh) = true → 0x100000 ≤ a.toNat → a.toNat < 0x200000 →
      (s.reg (aDP (sh.val / 8) (0x45 + 8 * (sh.val % 8)))).getLsbD ((a.toNat - 0x100000) / 0x10000) = false →
      ∃ t, Completes (.registerWrite (.shunter sh) a v) s t ∧ OnlyShunter sh { s.occurV 0x0E 0 with lastStatus := .denied } t ∧
        t.shunter sh = { s.shunter sh with mstat := 6, sticky := true, sfaddr := a })

/-- Table 02-9, R64, R104: GO starts a halted shunter at its entry, HALT stops a running one, RESET clears its registers.
Where the spec is silent it follows log 10, the model's choice. -/
def Obligations.RunControl : Prop :=
  ∀ (s : State) (src : Src) (sh : Sh) (entry : BitVec 17),
    let a := aSCTL sh
    let x := s.shunter sh
    Allowed s src false a → x.wait = .none →
    (x.run = .halted → x.loads = [] →
      Completes (.go src sh entry) s
        (((s.setReg a (wd entry.toNat)).setShunter sh
          { x with run := .running, pc := entry, jump := none, wdAcc := 0, wdFrom := s.now, wdFirst := false }).answered src a .ok)) ∧
    (x.run = .running →
      Completes (.halt src sh) s
        (((s.setReg a (wd (fld (s.reg a) 16 0))).setShunter sh
          { x with run := .halted, wdAcc := 0, wdFrom := s.now, wdFirst := false }).answered src a .ok)) ∧
    (x.held = [] → (s.reg a).getLsbD 22 = false → (s.reg a).getLsbD 23 = false →
      ∃ t, Completes (.reset src sh) s t ∧ (t.shunter sh).run = .halted ∧ (∀ r, (t.shunter sh).r r = 0) ∧
        Flags (t.shunter sh) false false false false ∧ (t.shunter sh).pc = 0 ∧ (t.shunter sh).cause = 0 ∧
        (t.shunter sh).mainBuf = x.mainBuf ∧ (∀ j, j ≠ sh → src ≠ .shunter j → t.shunter j = s.shunter j) ∧ t.locals = s.locals)

/-- R128, R129, R131: instruction words are written and read through DP_IMADDR, which moves on; a locked store is DENIED,
and one of a depot with another shunter not halted is STATE.
Where the spec is silent it follows log 10, the model's choice. -/
def Obligations.InstructionStore : Prop :=
  ∀ (s : State) (src : Src) (d : Depot) (v : Word),
    let a := aDP d.val 7
    let k := fld (s.reg (aDP d.val 6)) 16 0
    let moved := fun (u : State) => u.setReg (aDP d.val 6) (wd ((k + 1) % 131072))
    (Allowed s src false a →
      ((s.reg (aDP d.val 8)).getLsbD 0 = true → Completes (.dpImdataWrite src d v) s (s.answered src a .denied)) ∧
      ((s.reg (aDP d.val 8)).getLsbD 0 = false → s.othersHalted src d.val = false →
        Completes (.dpImdataWrite src d v) s (s.answered src a .state)) ∧
      ((s.reg (aDP d.val 8)).getLsbD 0 = false → s.othersHalted src d.val = true →
        Completes (.dpImdataWrite src d v) s ((moved (s.setCode d.val k v)).answered src a .ok) ∧
        ((moved (s.setCode d.val k v)).codeWord d.val k = v))) ∧
    (Allowed s src true a → Completes (.dpImdataRead src d) s ((moved s).answeredRead src a (s.codeWord d.val k)))

/-- R132, R91, R554: writing ROMEN = 0 in depot 6 removes the boot ROM and raises event 640, writing 1 does nothing; a route
entry switched off drops the records of its event.
Where the spec is silent it follows log 10, the model's choice. -/
def Obligations.DepotRegisters : Prop :=
  ∀ (s : State) (src : Src) (d : Depot) (e : Fin 1024) (v : Word),
    (Allowed s src false (aDP 6 0) → (s.reg (aDP 6 0)).getLsbD 23 = true →
      (v.getLsbD 23 = false → Completes (.romenWrite src 6 v) s (((s.setReg (aDP 6 0) 0).raise 640).answered src (aDP 6 0) .ok)) ∧
      (v.getLsbD 23 = true → Completes (.romenWrite src 6 v) s (s.answered src (aDP 6 0) .ok))) ∧
    (Allowed s src false (aDP d.val (0x800 + 2 * e.val)) → v.getLsbD 23 = false →
      ∃ t, Completes (.routeWrite src d e false v) s t ∧ t.reg (aDP d.val (0x800 + 2 * e.val)) &&& 0xF000FF = v &&& 0xF000FF ∧
        t.dp.records = s.dp.records.filter (fun r => !(decide (r.depot.val = d.val) && decide (r.event.val = e.val))) ∧
        t.main = s.main) ∧
    (Allowed s src false (aDP d.val (0x801 + 2 * e.val)) → (s.route d.val e.val).1.getLsbD 23 = false →
      ∃ t, Completes (.routeWrite src d e true v) s t ∧ t.reg (aDP d.val (0x801 + 2 * e.val)) &&& 0x1FFFF = v &&& 0x1FFFF ∧ t.main = s.main)

/-- R123–R126: the depot watchdog's two limits, a kick of the global watchdog, its window and its first period.
Where the spec is silent it follows log 12, the model's choice. -/
def Obligations.Watchdogs : Prop :=
  ∀ (s : State) (sh j : Sh) (d : Depot) (v : Word) (t0 : Nat),
    let x := s.shunter sh
    let lim := fld (s.reg (aDP (sh.val / 8) 2)) 15 0 * 4096
    let flag := aDP (sh.val / 8) 3
    let g := s.dp.gwd
    let a := aDP d.val 0x301
    (lim ≠ 0 → lim ≤ x.watch s.now → x.counts = true → x.wdFirst = false →
      Completes (.depotWatchdogLimit sh) s
        (((((s.setShunter sh { x with wdFirst := true }).setReg flag (setBit (s.reg flag) (sh.val % 8) true)).raise
          (872 + sh.val / 8))).occurV 0x09 0)) ∧
    (lim ≠ 0 → 2 * lim ≤ x.watch s.now → x.counts = true → Completes (.watchdogFault sh) s (s.faultShunter sh 3 x.pc)) ∧
    (x.watch s.now < lim → Completes (.depotWatchdogLimit sh) s s ∧ Completes (.watchdogFault sh) s s) ∧
    (Allowed s (.shunter j) false a →
      Completes (.gwdKick (.shunter j) d 0xC35A96) s
        ((s.modDp (fun q => { q with gwd := { g with first := some s.now } })).answered (.shunter j) a .ok) ∧
      (g.first = some t0 → s.now ≤ t0 + 3000000 →
        Completes (.gwdKick (.shunter j) d 0x3CA569) s
          ((s.modDp (fun q => { q with
            gwd := { since := g.since.map (fun _ => s.now), warned := false, first := none } })).answered (.shunter j) a .ok)) ∧
      (v ≠ 0xC35A96 → v ≠ 0x3CA569 ∨ g.first = none →
        Completes (.gwdKick (.shunter j) d v) s
          (((s.setReg (aDP 0 0x303) (satInc 24 (s.reg (aDP 0 0x303)))).modDp (fun q => { q with
            gwd := { g with first := none } })).answered (.shunter j) a .ok))) ∧
    (g.first = some t0 → t0 + 3000000 ≤ s.now →
      Completes .kickWindowExpiry s (s.modDp (fun q => { q with gwd := { q.gwd with first := none } }))) ∧
    (g.since = some t0 → g.warned = false → t0 + fld (s.reg (aDP 0 0x300)) 15 0 * 3000000 ≤ s.now →
      Completes .globalWatchdogWarning s
        (((s.modDp (fun q => { q with gwd := { q.gwd with warned := true } })).raise 831).occurV 0x0A 0))

/-- R725, R726: pt, ptp, kv and kvp send a command word to the points port or vault window of the depot.
Where the spec is silent it follows log 15, the model's choice. -/
def Obligations.PortRequests : Prop :=
  (∀ (s : State) (sh : Sh) (d a : Reg),
      let u := s.settle sh [a]
      let x := u.shunter sh
      let port := aPort (sh.val / 8) 0
      let sent := (u.plainWrite port (x.r a)).setReg (port + 1) 0x800000
      ((u.reg (aDP (sh.val / 8) (0x45 + 8 * (sh.val % 8)))).getLsbD 6 = false →
        Ends (.pt sh d a) s sh (u.occurV 0x0E 0) .denied [] (fun _ => True) ∧
        Ends (.ptp sh d a) s sh (u.occurV 0x0E 0) .denied [] (fun _ => True)) ∧
      (u.accessStatus (.shunter sh) false port = .ok → x.mainBuf = [] → x.scrBuf = [] → u.portBusy (sh.val / 8) = false →
        opListed (fld (x.r a) 23 18) = true →
        Ends (.ptp sh d a) s sh sent .ok [] (fun _ => True) ∧
        Leaves (.pt sh d a) s sh sent { x with wait := .points d, stepping := false, busy := false }) ∧
      (u.accessStatus (.shunter sh) false port = .ok → x.mainBuf = [] → x.scrBuf = [] → u.portBusy (sh.val / 8) = true →
        Ends (.ptp sh d a) s sh u .busy [] (fun _ => True))) ∧
  (∀ (s : State) (sh : Sh) (d a : Reg),
      let u := s.settle sh [a]
      let x := u.shunter sh
      let win := aWin (sh.val / 8) 0
      let op := fld (x.r a) 23 18
      let sent := ((u.plainWrite win (x.r a)).setReg (win + 1) 0x800000).modKv (fun v =>
        { v with begun := mapPut (fun _ => 0) v.begun (sh.val / 8) u.now })
      ((u.reg (aDP (sh.val / 8) (0x45 + 8 * (sh.val % 8)))).getLsbD 9 = false →
        Ends (.kv sh d a) s sh (u.occurV 0x0E 0) .denied [] (fun _ => True) ∧
        Ends (.kvp sh d a) s sh (u.occurV 0x0E 0) .denied [] (fun _ => True)) ∧
      (u.accessStatus (.shunter sh) false win = .ok → x.mainBuf = [] → x.scrBuf = [] → u.winBusy (sh.val / 8) = false →
        1 ≤ op → op ≤ 0x17 → u.kvRsvd (sh.val / 8) (x.r a) = false →
        Ends (.kvp sh d a) s sh sent .ok [] (fun _ => True) ∧
        Leaves (.kv sh d a) s sh sent { x with wait := .vault d, stepping := false, busy := false }) ∧
      (u.accessStatus (.shunter sh) false win = .ok → x.mainBuf = [] → x.scrBuf = [] → u.winBusy (sh.val / 8) = true →
        Ends (.kvp sh d a) s sh u .busy [] (fun _ => True)))

/-- R107–R114, R727: frt queues the descriptor at ga, which its checks may refuse; a descriptor ends with its words in place and
its completion item.
Where the spec is silent it follows log 16, the model's choice. -/
def Obligations.FreightResults : Prop :=
  (∀ (s : State) (sh : Sh) (a : Reg),
      let u := s.settle sh [a]
      let x := u.shunter sh
      let d := sh.val / 8
      let l := (upTo 8).map (fun i => u.localWord sh ((x.r a).toNat + i))
      let free := (u.reg (aDP d (0x45 + 8 * (sh.val % 8)))).getLsbD 14
      (free = false → Ends (.frt sh a) s sh (u.occurV 0x0E 0) .denied [] (fun _ => True)) ∧
      (free = true → 0x3FF8 < (x.r a).toNat → Ends (.frt sh a) s sh u .badarg [] (fun _ => True)) ∧
      (free = true → (x.r a).toNat ≤ 0x3FF8 → x.mainBuf = [] → x.scrBuf = [] →
        Ends (.frt sh a) s sh (if u.freightCheck d l = .ok then u.setFreight d (u.freightOf d ++ [freightDesc l]) else u)
          (u.freightCheck d l) [] (fun _ => True)) ∧
      (l.getD 7 0 ≠ 0 → u.freightCheck d l = .badarg) ∧
      (u.freightCheck d l = .ok → s.on dDRAM = true ∧ (u.freightOf d).length < 32 ∧ 1 ≤ (freightDesc l).len ∧
        (freightDesc l).len ≤ 65536 ∧ 0x400000 ≤ (freightDesc l).maddr ∧ (freightDesc l).maddr + (freightDesc l).len ≤ 2 ^ 24)) ∧
  (∀ (s : State) (d : Depot) (j : FreightJob) (r : List FreightJob) (n : Nat),
      s.on dDRAM = true → s.freightOf d.val = j :: r → j.crc = false → n ≤ j.len →
      let moved := (s.setFreight d.val r).move j n
      let ended := moved.count (aFR (0x28 + d.val))
      (n < j.len → Completes (.freightCompletion d (some n)) s
        ((ended.count (aFR 0x30)).post j.compq [j.tag, wd (n * 16 + 7), 0, 0])) ∧
      (n = j.len → Completes (.freightCompletion d none) s (ended.post j.compq [j.tag, wd (n * 16), 0, 0])) ∧
      moved.freightOf d.val = r ∧
      (j.toWords = true → j.packed = true →
        (∀ i < n, moved.mainWord (j.maddr + i) =
          s.dramByte (j.daddr + 3 * i) ++ s.dramByte (j.daddr + 3 * i + 1) ++ s.dramByte (j.daddr + 3 * i + 2)) ∧
        (∀ b, b < j.maddr ∨ j.maddr + n ≤ b → moved.mainWord b = s.mainWord b) ∧ moved.dram = s.dram) ∧
      (j.toWords = false → j.packed = false →
        (∀ i < n, moved.dramByte (j.daddr + 4 * i) = 0 ∧ moved.dramByte (j.daddr + 4 * i + 3) = (s.mainWord (j.maddr + i)).setWidth 8) ∧
        (∀ b, b < j.daddr ∨ j.daddr + 4 * n ≤ b → moved.dramByte b = s.dramByte b) ∧ moved.main = s.main))

/-- R139, R142, R144, R147, R148: FE_WIN takes only permitted window centres and starts a tune while SYNEN is set; a lock sets
LOCK and the ratio nearest to FE_WIN × D / (50 MHz × (1 + e)); a loss of lock ends the band's transmission and raises event
312 + band; e reaches each synthesiser that is on and not held, at once unless the signal box runs.
Where the spec is silent it follows log 24, the model's choice. -/
def Obligations.SynthesiserResults : Prop :=
  ∀ (s : State) (src : Src) (band : Band) (v : Word),
    let win := aFE band 1
    let st := aFE band 2
    let r := synthRatio (s.reg win).toNat band (s.refOfs band)
    (Allowed s src false win →
      (winOk band v.toNat = false → Completes (.feWinWrite src band v) s ((s.setRegFld st 21 21 1).answered src win .badarg)) ∧
      (winOk band v.toNat = true → (s.reg (aFE band 0)).getLsbD 23 = false →
        Completes (.feWinWrite src band v) s (((s.setReg win v).setRegFld st 21 21 0).answered src win .ok)) ∧
      (winOk band v.toNat = true → (s.reg (aFE band 0)).getLsbD 23 = true → (s.reg st).getLsbD 23 = false →
        Completes (.feWinWrite src band v) s
          (((((s.setReg win v).setRegFld st 21 21 0).setRegFld st 22 22 1).modRadio band (fun x => { x with tuneAt := some s.now })).answered
            src win .ok))) ∧
    (winOk .a v.toNat = true ↔ 830000 ≤ v.toNat ∧ v.toNat ≤ 880000) ∧
    (winOk .b v.toNat = true ↔ 2405500 ≤ v.toNat ∧ v.toNat ≤ 2478000) ∧
    (s.on (dRX band) = true → (s.radio band).tuneAt ≠ none →
      Completes (.synthesiserLock band) s
        ((((s.setRegFld st 23 22 2).modRadio band (fun x => { x with tuneAt := none })).setReg (aFE band 3) (wd (r / 2 ^ 24))).setReg
          (aFE band 4) (wd (r % 2 ^ 24)))) ∧
    (let n : Int := ((s.reg win).toNat * divOf band * 2 ^ 60 : Nat)
      let d : Int := 50000 * (2 ^ 36 + s.refOfs band)
      2 * r * d ≤ 2 * n + d ∧ 2 * n - d < 2 * r * d) ∧
    (s.on (dRX band) = true → (s.reg st).getLsbD 23 = true → s.slotsIn band 1 = [] → s.slotsIn band 2 = [] → s.lanes.lanes = [] →
      Completes (.lossOfLock band) s
        ((((((s.setRegFld st 23 23 0).modRadio band (fun x => { x with paEn := false })).raise (312 + band.idx)).occurV 0x20 0).modRadio
          band (fun x => { x with tuneAt := some s.now })))) ∧
    (s.on dSC = true → s.sc.refPend = true → s.on (dRX .a) = true → s.on (dRX .b) = false → (s.reg (aFE .a 6)).getLsbD 0 = false →
      (s.sbRuns = true → ∃ t, Completes .referenceOffsetDelivery s t ∧ t.sc.refPend = false ∧
        (t.radio .a).ePend = some (s.reg (aSC 0x12)) ∧ t.regs = s.regs) ∧
      (s.sbRuns = false → ∃ t, Completes .referenceOffsetDelivery s t ∧ t.sc.refPend = false ∧
        t.reg (aFE .a 5) = s.reg (aSC 0x12) ∧ t.reg (aFE .b 5) = s.reg (aFE .b 5)))

/-- R150, R152, R154: clipping lowers a chain's gain by 6 dB, at 0 dB it sets OVERLOAD and raises event 316 + band; the level below
the target raises it by 1 dB; with MANUAL set a write of FE_AGC_GAIN is the gain.
Where the spec is silent it follows log 24, the model's choice. -/
def Obligations.GainResults : Prop :=
  ∀ (s : State) (src : Src) (band : Band) (chain : Fin 4) (v : Word),
    let cell := aFE band (0x10 + chain.val)
    let g := s.gain band chain.val
    let set := aFE band (0x14 + chain.val)
    (s.on (dRX band) = true → (s.reg (aFE band 0)).getLsbD chain.val = true →
      (6 ≤ g → s.manualGain band = false → ∃ t, Completes (.agcGainDrop band chain) s t ∧ t.gain band chain.val = g - 6 ∧
        t.main = s.main ∧ t.shunters = s.shunters) ∧
      (g = 0 → (s.reg cell).getLsbD 23 = false →
        Completes (.agcGainDrop band chain) s (((s.setRegFld cell 23 23 1).raise (316 + band.idx)).occurV 0x21 0)) ∧
      (g < 60 → s.manualGain band = false → ∃ t, Completes (.agcGainRise band chain) s t ∧ t.gain band chain.val = g + 1 ∧
        t.main = s.main ∧ t.shunters = s.shunters) ∧
      (g = 60 → Completes (.agcGainRise band chain) s s)) ∧
    (Allowed s src false set →
      (s.manualGain band = false → Completes (.feAgcGainWrite src band chain v) s ((s.plainWrite set v).answered src set .ok)) ∧
      (s.manualGain band = true → ∃ t, Completes (.feAgcGainWrite src band chain v) s t ∧ t.lastStatus = .ok ∧
        t.gain band chain.val = min (v.toNat % 64) 60))

/-- R158–R163: predistortion, the antenna switch and the power amplifier.
Where the spec is silent it follows log 25, the model's choice. -/
def Obligations.AirResults : Prop :=
  ∀ (s : State) (src : Src) (band : Band) (v : Word) (conv : Bool),
    let st := aTX band 5
    let data := aTX band 0xA
    let ant := aTX band 3
    let idx := s.dpdIdx band
    let next := fun (u : State) => u.setReg (aTX band 9) (wd ((idx + 1) % 64))
    (s.on (dTX band) = true → (s.reg (aTX band 0)).getLsbD 21 = true → s.onAir band = true → (s.reg st).getLsbD 21 = false →
      ∃ t, Completes (.dpdUpdate band conv) s t ∧ (t.reg st).getLsbD 22 = conv ∧ (∀ a, a ≠ st → t.reg a = s.reg a) ∧
        (t.radio band).paEn = (s.radio band).paEn ∧ t.main = s.main) ∧
    (Allowed s src false data →
      ((s.reg (aTX band 0)).getLsbD 21 = true → Completes (.txDpdDataAccess src band (some v)) s (s.answered src data .state)) ∧
      ((s.reg (aTX band 0)).getLsbD 21 = false → s.onAir band = true → idx < 56 →
        Completes (.txDpdDataAccess src band (some v)) s
          ((next (s.modRadio band (fun x => { x with coefNew := mapSet x.coefNew idx v }))).answered src data .ok)) ∧
      ((s.reg (aTX band 0)).getLsbD 21 = false → s.onAir band = false → (s.radio band).coefNew = [] → idx < 56 →
        ∃ t, Completes (.txDpdDataAccess src band (some v)) s t ∧ t.coefWord band idx = v ∧ t.lastStatus = .ok ∧
          t.dpdIdx band = (idx + 1) % 64 ∧ ∀ i, i ≠ idx → t.coefWord band i = s.coefWord band i)) ∧
    (Allowed s src true data → idx < 56 → (s.radio band).coefNew = [] →
      Completes (.txDpdDataAccess src band none) s ((next s).answeredRead src data (s.coefWord band idx))) ∧
    (s.on (dTX band) = true →
      ((s.reg st).getLsbD 21 = false →
        Completes (.feedbackOverRange band) s (((s.setRegFld st 21 21 1).raise (318 + band.idx)).occurV 0x27 0)) ∧
      ((s.reg st).getLsbD 21 = true → Completes (.feedbackInRange band) s (s.setRegFld st 21 21 0))) ∧
    (Allowed s src false ant → 1 ≤ v.toNat % 8 → v.toNat % 8 ≤ 5 →
      (s.onAir band = false → Completes (.antennaRequest src band v) s
        ((((s.setRegFld ant 2 0 (v.toNat % 8)).setRegFld ant 18 16 (v.toNat % 8)).setRegFld ant 23 23 0).answered src ant .ok)) ∧
      (s.onAir band = true → Completes (.antennaRequest src band v) s
        (((s.setRegFld ant 2 0 (v.toNat % 8)).setRegFld ant 23 23 1).answered src ant .ok))) ∧
    (s.on (dTX band) = true → s.silenced = false → s.synthLocked band = true → s.onAir band = false →
      s.dueWithin band (s.swLead band + s.paLead band) = true →
      ∃ t, Completes (.goOnAir band) s t ∧ (t.radio band).paEn = true ∧
        (1 ≤ fld (s.reg ant) 2 0 → fld (s.reg ant) 2 0 ≤ 5 → fld (t.reg ant) 18 16 = fld (s.reg ant) 2 0)) ∧
    (s.on (dTX band) = true → (s.radio band).paEn = true → s.slotsIn band 2 = [] → (s.radio band).coefNew = [] →
      s.dueWithin band (s.paLag band + s.paLead band) = false →
      ∃ t, Completes (.goOffAir band) s t ∧ (t.radio band).paEn = false ∧
        ((s.reg ant).getLsbD 23 = false → fld (t.reg ant) 18 16 = 5))

/-- R165–R167, R170, R175: a commit of the region record is refused outside COMMISSIONED, OPERATIONAL and FIELD_RETURN; one that
completes writes the older copy with SEQ + 1 and its CRC and leaves the newer copy; FE_RGN_DATA moves through the staging words;
a bucket of an accumulator that is full is followed by an empty one.
Where the spec is silent it follows log 25, the model's choice. -/
def Obligations.RegionResults : Prop :=
  ∀ (s : State) (src : Src) (band : Band) (acc : AccId) (v : Word),
    let go := aFER 0xF003
    let data := aFER 0xF002
    let st := aFER 0xF000
    let i := s.rgnAddr
    let old := s.olderCopy
    let x := s.accum band acc
    let due := max x.since (mapGet (fun _ => 0) s.pw.onAt (dTX band)) + bucketLen (s.accWindow band acc)
    (Allowed s src false go → v.getLsbD 0 = true →
      ((s.kv.life = 0 ∨ s.kv.life = 3 ∨ s.kv.life = 5 ∨ s.fe.committing = true) →
        Completes (.feRgnCommit src v) s (((s.setRegFld st 21 21 1).occurV 0x29 0).answered src go .ok)) ∧
      ((s.kv.life = 1 ∨ s.kv.life = 2 ∨ s.kv.life = 4) → s.fe.committing = false →
        Completes (.feRgnCommit src v) s
          (((s.modFe (fun f => { f with committing := true })).setRegFld st 22 22 1).answered src go .ok))) ∧
    (s.on dMRAM = true → s.fe.committing = true → s.sbRuns = true →
      ∃ t, Completes .regionCommitDone s t ∧ t.fe.committing = false ∧ t.fe.rgnPend = true ∧ t.copyOk old = true ∧
        (∀ k, k < 126 → k ≠ 1 → t.copyWord old k = mapGet zeroWord s.fe.staging k) ∧
        (∀ b, s.bestCopy = some b → t.copyWord old 1 = s.copyWord b 1 + 1 ∧ ∀ k, k < 128 → t.copyWord b k = s.copyWord b k)) ∧
    (Allowed s src false data →
      ∃ t, Completes (.feRgnDataAccess src (some v)) s t ∧ mapGet zeroWord t.fe.staging i = v ∧ t.rgnAddr = (i + 1) % 128 ∧
        ∀ k, k ≠ i → mapGet zeroWord t.fe.staging k = mapGet zeroWord s.fe.staging k) ∧
    (Allowed s src true data →
      ∃ t, Completes (.feRgnDataAccess src none) s t ∧ t.readback = mapGet zeroWord s.fe.staging i ∧ t.fe = s.fe ∧
        t.rgnAddr = (i + 1) % 128) ∧
    (s.on (dTX band) = true → due ≤ s.now → ∀ c, acc = .dwell c →
      ∃ t, Completes (.accumulatorBucketAdvance band acc) s t ∧ (t.accum band acc).since = due ∧
        (t.accum band acc).sum = (x.buckets.take 128).sum ∧ t.regs = s.regs) ∧
    (s.on (dTX band) = true → due ≤ s.now → ∀ g, acc = .duty g →
      ∃ t, Completes (.accumulatorBucketAdvance band acc) s t ∧ (t.accum band acc).since = due ∧
        (t.accum band acc).sum = (x.buckets.take 128).sum ∧ t.regs = s.regs) ∧
    (s.now < due → Completes (.accumulatorBucketAdvance band acc) s s)

/-- R170–R172, R228, R232, R233, Tables 05-1 and 05-2: a slot is armed when its checks pass and otherwise ends with the status of the
first that fails; a slot reached by its time is launched, or ends refused; the last sample ends it.
Where the spec is silent it follows log 25, the model's choice. -/
def Obligations.TransmitResults : Prop :=
  ∀ (s : State) (src : Src) (band : Band) (k : Fin 16) (busy : Bool) (v : Word),
    let cell := aTS band k.val 0
    let st := aTS band k.val 1
    let ctl := aTX band 0
    let armed := s.plainWrite cell (setBit (s.reg cell) 23 true)
    let tact := armed.tactOf band k.val
    let l := s.slotLaunch band k.val
    let manual := s.sbRuns = false ∧ (s.pw.mode = .provision ∨ s.pw.mode = .maintenance)
    (Allowed s src false cell → manual → (s.slotState band k.val = 0 ∨ s.slotState band k.val = 3) →
      (s.reg cell).getLsbD 22 = false →
      (armed.armCheck band k.val = .ok →
        ∃ t, Completes (.tsArm src band k) s t ∧ t.slotState band k.val = 1 ∧ t.slotTact band k.val = tact ∧ t.lastStatus = .ok) ∧
      (armed.armCheck band k.val ≠ .ok →
        Completes (.tsArm src band k) s ((armed.setReg st (wd (3 * 2 ^ 22 + stCode (armed.armCheck band k.val) * 2 ^ 18))).answered
          src cell .ok))) ∧
    ((armed.reg ctl).getLsbD 23 = false ∨ armed.synthLocked band = false → armed.armCheck band k.val = .state) ∧
    (Allowed s src false cell → manual → s.slotState band k.val = 1 →
      ∃ t, Completes (.tsDisarm src band k) s t ∧ t.slotState band k.val = 0 ∧ t.slotStatus band k.val = s.slotStatus band k.val ∧
        t.lastStatus = .ok) ∧
    (Allowed s src false cell → s.sbRuns = true → Completes (.tsArm src band k) s (s.answered src cell .state)) ∧
    (s.on (dTX band) = true → s.synthLocked band = true → s.slotState band k.val = 1 → after (s.slotTact band k.val) s.tcap = false →
      s.sb.frames = [] → s.sb.state ≠ .running → (s.slotFrame band k.val).queue = none → (s.slotFrame band k.val).beacon = false →
      (s.overlapping band k.val = true →
        ∃ t, Completes (.tsLaunch band k busy) s t ∧ t.slotState band k.val = 3 ∧ t.slotStatus band k.val = 1 ∧ t.out = s.out) ∧
      (∀ e, s.overlapping band k.val = false → s.launchCheck band l busy = some e →
        ∃ t, Completes (.tsLaunch band k busy) s t ∧ t.slotState band k.val = 3 ∧ t.slotStatus band k.val = 10 ∧ t.out = s.out ∧
          t.reg (aFE band e.1) = satInc 24 (s.reg (aFE band e.1)) ∧ (BitVec.ofNat 8 e.2, (0 : Word)) ∈ t.hm.pending) ∧
      (s.overlapping band k.val = false → s.launchCheck band l busy = none →
        ∃ t, Completes (.tsLaunch band k busy) s t ∧ t.slotState band k.val = 2 ∧ (t.radio band).paEn = true ∧
          t.reg (aTX band 0x10) = satInc 24 (s.reg (aTX band 0x10)) ∧
          (s.accum band (.dwell l.chan)).sum + l.air = (t.accum band (.dwell l.chan)).sum ∧
          t.out = .octets ((s.slotFrame band k.val).sec.getD (s.psdu band k.val)))) ∧
    ((s.silenced = true ∨ (s.radio band).region = 0) → s.launchCheck band l busy = some (0x23, 0x28)) ∧
    (s.on (dTX band) = true → s.slotState band k.val = 2 → (s.slotFrame band k.val).endAt ≤ s.now →
      (s.slotFrame band k.val).queue = none →
      ∃ t, Completes (.lastDacSample band k) s t ∧ t.slotState band k.val = 3 ∧ t.slotStatus band k.val = 0 ∧
        mapGet (fun _ => none) (t.radio band).lastEnd (s.slotChan band k.val) = some s.now ∧
        ∀ j : Fin 16, j ≠ k → t.slotState band j.val = s.slotState band j.val) ∧
    (Allowed s src false ctl → ((s.reg ctl).getLsbD 23 = false ∨ v.getLsbD 23 = true ∨ s.slotsIn band 1 = []) →
      Completes (.txCtlWrite src band v) s ((s.plainWrite ctl v).answered src ctl .ok))

/-- The reception lanes: how a lane is bound to a channel and a frame starts, and how it ends.
Where the spec is silent it follows log 27, the model's choice. -/
def Obligations.Reception : Prop :=
  (∀ (s : State) (src : Src) (band : Band) (c : BitVec 8) (fofs : Bool) (v : Word) (d : Detect) (n : Lane) (p : Phr),
      let cell := aCh band c.toNat (if fofs then 1 else 0)
      let x := s.lane n.val
      let ch := d.chan.toNat
      (Allowed s src false cell → (s.chCfg band c.toNat).getLsbD 23 = false → s.lanesOn band c = [] →
        ((fofs = true ∨ s.chBad band c.toNat v = false) →
          Completes (.chCfgWrite src band c fofs v) s ((s.plainWrite cell v).answered src cell .ok)) ∧
        (fofs = false → s.chBad band c.toNat v = true → Completes (.chCfgWrite src band c fofs v) s (s.answered src cell .badarg))) ∧
      (Allowed s src false cell → s.lanesOn band c ≠ [] → (s.chCfg band c.toNat).getLsbD 23 = false →
        Completes (.chCfgWrite src band c fofs v) s (s.answered src cell .busy)) ∧
      (5 < fld v 22 20 → s.chBad band c.toNat v = true) ∧
      (s.detects d = false → Completes (.detection d) s s) ∧
      (s.detects d = true → s.lanesOn d.band d.chan = [] → s.chExp d.band ch = false → s.heldLanes < s.freeLanes → ∀ k,
        s.nextLane = some k →
        ∃ t, Completes (.detection d) s t ∧ t.reg (aCh d.band ch 5) = satInc 24 (s.reg (aCh d.band ch 5)) ∧
          t.lane k = { state := .bound, band := d.band, chan := d.chan, fam := d.fam, power := d.power } ∧
          ∀ j, j ≠ k → t.lane j = s.lane j) ∧
      (s.detects d = true → s.lanesOn d.band d.chan = [] → s.nextLane = none →
        ∃ t, Completes (.detection d) s t ∧ t.reg (aCh d.band ch 4) = satInc 24 (s.reg (aCh d.band ch 4)) ∧
          t.lanes.lanes = s.lanes.lanes ∧ (0x30, (0 : Word)) ∈ t.hm.pending) ∧
      (x.waitsPhr = true →
        (∃ t, Completes (.startOfFrameNotConfirmed n) s t ∧ t.lane n.val = {} ∧
          t.reg (aLN (0x13E + x.band.idx)) = satInc 24 (s.reg (aLN (0x13E + x.band.idx))) ∧ ∀ j, j ≠ n.val → t.lane j = s.lane j) ∧
        (∃ t, Completes (.phrReceived n none) s t ∧ t.lane n.val = {} ∧
          t.reg (aLN (0x15C + x.band.idx)) = satInc 24 (s.reg (aLN (0x15C + x.band.idx))) ∧ ∀ j, j ≠ n.val → t.lane j = s.lane j) ∧
        (p.len = 0 → ∃ t, Completes (.phrReceived n (some p)) s t ∧ t.lane n.val = {}) ∧
        (phrBad x.fam p = false → x.fam ≠ 3 → s.yardOn = true → ∀ k u, s.allocCells 0 (cellsFor p.len.toNat) = (.ok, k, u) →
          Completes (.phrReceived n (some p)) s (u.setLane n.val { x with phr := some p, codewords := 0, cell := some k }))) ∧
      (x.waitsPhr = false → Completes (.startOfFrameNotConfirmed n) s s ∧ Completes (.phrReceived n (some p)) s s)) ∧
  (∀ (s : State) (src : Src) (n : Lane) (m : RxMeasure) (p : Phr),
      let x := s.lane n.val
      let ctl := aLane n.val 0
      let q := fld (s.chCfg x.band x.chan.toNat) 12 10
      let fifo := fld (s.reg (aLN (if q < 4 then 0x9C + q else 0xBC + (q - 4)))) 17 0
      let lost := aLN (if q < 4 then 0xDC + q else 0xFC + (q - 4))
      (x.decodes = true →
        (s.on dLDPC = true →
          Completes (.codewordDecoded n true) s (s.setLane n.val { x with codewords := x.codewords - 1 }) ∧
          Completes (.codewordDecoded n false) s
            (((s.setLane n.val { x with codewords := 0, ended := some (.fault, 2) }).count (aLN 0x17D)).occurV 0x37 0)) ∧
        (x.cell = none → Completes (.ldpcTimeout n) s
          (s.setLane n.val { x with codewords := 0, ended := some (.timeout, 6), state := .drain }))) ∧
      (x.decodes = false → Completes (.codewordDecoded n true) s s ∧ Completes (.ldpcTimeout n) s s) ∧
      (x.phr = some p → x.state ≠ .free → s.reportDue x p m = true → (x.result m.fcsOk).1 ≠ .ok → x.cell = none →
        ∃ t, Completes (.reportPosting n m) s t ∧ t.lane n.val = {} ∧
          (s.isReport fifo = false → t.reg lost = satInc 24 (s.reg lost) ∧ (0x39, (0 : Word)) ∈ t.hm.pending)) ∧
      (x.phr = some p → s.reportDue x p m = false → Completes (.reportPosting n m) s s) ∧
      (Allowed s src false ctl →
        ∃ t, Completes (.lnLctlRel src n) s t ∧ t.lastStatus = .ok ∧ (x.state = .free → t.lane n.val = x) ∧
          (x.state = .bound → x.ended = none → x.phr = none → t.lane n.val = {}) ∧
          (x.state = .bound → x.ended = none → x.phr = some p → x.cell = none →
            t.lane n.val = { x with state := .drain, ended := some (.state, 7), codewords := 0 })) ∧
      (s.on (dLANES 0) = true → s.lanes.sampleAt + 3000000 ≤ s.now →
        Completes .boundLaneSample s
          ((s.occurV 0x33 (wd (s.lanes.lanes.filter (fun e => decide (e.2.state = .bound))).length)).modLanes
            (fun l => { l with sampleAt := s.now }))))

/-- R261, R263, R289, R294, R297, R304: the commands of the signal box and of its edition stores, the end of WAIT, and the cell
window.
Where the spec is silent it follows logs 21 and 36, the model's choice. -/
def Obligations.SignalBoxControl : Prop :=
  ∀ (s : State) (src : Src) (e : Fin 2) (v : Word),
    let ctl := aSB 0
    let ecmd := aSB 0x20
    let ccmd := aSB 0x3B
    let i := s.sbCaddr
    let put := fun (u : State) (x : StoreState) => u.setStore e.val x
    let noted := fun (w : Word) => s.plainWrite ecmd w
    (Allowed s src false ctl →
      (s.sb.state ≠ .idle ∨ s.storeIn .pending = none → Completes (.run src) s (s.answered src ctl .state)) ∧
      (s.runCheck = .ok →
        Completes (.run src) s ((s.modSb (fun b => { b with state := .wait, drain := false, ledger := [] })).answered src ctl .ok)) ∧
      (s.sb.state = .running →
        Completes (.stop src) s ((s.modSb (fun b => { b with drain := true })).answered src ctl .ok)) ∧
      (s.sb.state = .wait →
        (∃ t, Completes (.stop src) s t ∧ t.sb.state = .idle ∧ t.sb.cause = 1 ∧ Fin.ofNat 1024 66 ∈ t.dp.inflight) ∧
        ∃ t, Completes (.sbAbort src) s t ∧ t.sb.state = .idle ∧ t.sb.cause = 2 ∧ Fin.ofNat 1024 66 ∈ t.dp.inflight) ∧
      (s.sb.state = .running ∨ s.sb.state = .stalled →
        ∃ t, Completes (.sbAbort src) s t ∧ t.sb.state = .idle ∧ t.sb.cause = 2 ∧ t.sb.frames = [] ∧ t.sb.acks = []) ∧
      (s.sb.state = .idle → Completes (.stop src) s (s.answered src ctl .state) ∧
        Completes (.sbAbort src) s (s.answered src ctl .state))) ∧
    (Allowed s src false ecmd →
      (s.storeState e.val = .free →
        Completes (.commit src e) s ((put (noted (wd (2 ^ 23 + e.val))) .check).answered src ecmd .ok)) ∧
      (s.storeState e.val ≠ .free →
        Completes (.commit src e) s ((noted (wd (2 ^ 23 + e.val))).answered src ecmd .state)) ∧
      (s.storeState e.val = .pending → s.sbRuns = false →
        Completes (.cancel src e) s ((put (noted (wd (2 ^ 22 + e.val))) .free).answered src ecmd .ok)) ∧
      (s.storeState e.val ≠ .pending →
        Completes (.cancel src e) s ((noted (wd (2 ^ 22 + e.val))).answered src ecmd .state))) ∧
    (s.storeIn .check = some e.val → s.on dSB = true →
      (s.edCheck e.val = none →
        Completes .editionCheckDone s (((put s .pending).modSb (fun b => { b with edCause := 0 })).raise 65)) ∧
      (∀ c k, s.edCheck e.val = some (c, k) →
        Completes .editionCheckDone s
          ((((put s .free).modSb (fun b => { b with edCause := c, errCell := k })).raise 65).occurV 0x41 0))) ∧
    (s.edPlen e.val < 200 ∨ 10000 < s.edPlen e.val ∨ s.edNpath e.val = 0 → s.edCheck e.val = some (1, 0)) ∧
    (∀ p, s.storeIn .pending = some p → s.sb.state = .wait → s.on dSC = true → s.sbStallWord = 0 →
      let b := s.fullOf (long (s.reg (aSB 6)) (s.reg (aSB 7)))
      b ≤ s.sc.time + s.span5 (s.edPlen p) + s.spanUs (s.thlim + 100) →
      ∃ t, Completes .signalBoxWaitEnd s t ∧ t.sb.state = .running ∧ t.sb.bTime = b ∧ t.sb.begun = false ∧
        t.sb.asn = (long (s.reg (aSB 4)) (s.reg (aSB 5))).toNat ∧ t.sb.frames = [] ∧ t.regs = s.regs) ∧
    (Allowed s src false ccmd →
      (s.cellKept i = false → ∃ t, Completes (.sbCcmdWr src) s t ∧ t.lastStatus = .ok ∧ t.sbCell i 0 = s.reg (aSB 0x39) ∧
        t.sbCell i 1 = s.reg (aSB 0x3A) ∧ ∀ k w, k ≠ i → w < 2 → t.sbCell k w = s.sbCell k w) ∧
      (s.cellKept i = true → Completes (.sbCcmdWr src) s (s.answered src ccmd .state)) ∧
      Completes (.sbCcmdRd src) s
        (((s.setReg (aSB 0x39) (s.sbCell i 0)).setReg (aSB 0x3A) (s.sbCell i 1)).answered src ccmd .ok)) ∧
    (Allowed s src false (aSB 0x18) →
      Completes (.sbJoindoneWrite src v) s
        ((s.modSb (fun b => { b with joinOut := b.joinOut - v.toNat % 2 ^ 18 })).answered src (aSB 0x18) .ok)) ∧
    (∀ t0, s.sb.lastBeacon = some t0 → s.sb.meshAlive = true → t0 + s.cycleCycles < s.now →
      Completes .meshAliveTimeout s (s.modSb (fun b => { b with meshAlive := false })))

/-- R251, R265, R268–R272, R275, R278, R494: one path of the signal box: its preparation takes head wagons, its frames are armed and
keyed or ended, its boundary moves ASN on, acknowledgements are sent or missed, and its completion clears it.
Where the spec is silent it follows logs 21 and 36, the model's choice. -/
def Obligations.SignalBoxPaths : Prop :=
  ∀ (s : State) (i : Nat) (busy : Bool),
    let n := s.sb.prep
    (s.sb.state = .running → s.on dSB = true → s.on dSC = true → s.prepTime n ≤ s.sc.time →
      (s.owner n = none → Completes .pathPreparation s (s.modSb (fun b => { b with prep := n + 1 }))) ∧
      (∀ st k w att rest, s.owner n = some st → s.pathCells st n = [k] → cellType (s.sbCell k 0) = 1 →
        let q := cellTarget (s.sbCell k 0)
        let tnom := shortOf (s.pathStart n + s.span5 (s.edTxofs st))
        s.qLive q = true → s.qKind q = 0 → s.wagonsOf q = w :: rest → s.mayTake q n (s.sbCell k 0) tnom w = some att →
        w.ecc = .good → w.w3.getLsbD 23 = false →
        ∃ t f, Completes .pathPreparation s t ∧ t.sb.prep = n + 1 ∧ t.sb.frames = s.sb.frames ++ [f] ∧ f.asn = n ∧
          f.queue = q ∧ f.att = att ∧ f.stage = .prepared ∧ f.w0 = w.w0 ∧ f.tnom = tnom ∧ f.chan = s.cellChan st k n ∧
          t.regs = s.regs)) ∧
    (s.sc.time < s.prepTime n → Completes .pathPreparation s s) ∧
    (∀ f, s.sb.frames[i]? = some f → s.sb.state = .running → f.stage = .prepared → s.within f.tact 100 = true →
      (s.freeSlot f.band = none →
        ∃ t, Completes (.frameArming i) s t ∧
          t.sb.frames = s.sb.frames.modify i (fun x => { x with stage := .ended, status := some .full })) ∧
      (∀ k, s.freeSlot f.band = some k →
        ∃ t, Completes (.frameArming i) s t ∧
          ((t.slotState f.band k = 1 ∧ t.sb.frames = s.sb.frames.modify i (fun x =>
              { x with stage := .armed, slot := some (Fin.ofNat 16 k), tact := t.slotTact f.band k })) ∨
            ∃ st, st ≠ .ok ∧ t.slotState f.band k = 3 ∧ t.slotStatus f.band k = stCode st ∧
              t.sb.frames = s.sb.frames.modify i (fun x => { x with stage := .ended, status := some st })))) ∧
    (∀ f (k : Fin 16), s.sb.frames[i]? = some f → f.slot = some k → s.sb.state = .running → f.stage = .armed →
      s.within f.tact 50 = true →
      (f.kind ≠ .beacon → f.w3.getLsbD 23 = false →
        ∃ t, Completes (.keyCheck i) s t ∧ t.sb.frames = s.sb.frames.modify i (fun x => { x with stage := .checked }) ∧
          (t.slotFrame f.band k.val).sec = none ∧ t.slotState f.band k.val = s.slotState f.band k.val) ∧
      (f.kind = .node → f.w3.getLsbD 23 = true → enKv (s.nodeEntry f.queue) = false →
        ∃ t, Completes (.keyCheck i) s t ∧ t.slotState f.band k.val = 0 ∧
          t.sb.frames = s.sb.frames.modify i (fun x => { x with stage := .ended, slot := none, status := some .absent }))) ∧
    (∀ a, s.sb.acks[i]? = some a → s.sb.state = .running → a.done = false → after (s.ackTact a) s.tcap = false →
      (enKv (s.nodeEntry a.handle) = false →
        Completes (.uplinkAcknowledgement i busy) s
          (((s.modSb (fun b => { b with acks := b.acks.modify i (fun x => { x with done := true, status := .late }) })).count
            (aSB 0x48)).occurV 0x4C 0)) ∧
      ∃ t b, Completes (.uplinkAcknowledgement i busy) s t ∧ t.sb.acks[i]? = some b ∧ b.done = true ∧
        (b.status = .ok → ∃ k, t.slotState a.band k = 2)) ∧
    (s.sb.state = .running → s.on dSB = true → s.on dSC = true → s.nextBoundary ≤ s.sc.time → s.sb.drain = false →
      s.sb.holds = [] → s.fe.a.ePend = none → s.fe.b.ePend = none → s.fe.rgnPend = false →
      ∃ t, Completes .pathBoundary s t ∧ t.sb.bTime = s.nextBoundary ∧ t.sb.begun = true ∧ t.sb.state = .running ∧
        t.sb.asn = if s.sb.begun then (s.sb.asn + 1) % 2 ^ 48 else s.sb.asn) ∧
    (s.sc.time < s.nextBoundary → Completes .pathBoundary s s) ∧
    (s.sbPaths = true → s.sb.begun = true → s.sb.comp < s.sb.asn →
      ∃ t, Completes .pathCompletion s t ∧ t.sb.comp = s.sb.comp + 1 ∧
        (∀ f ∈ t.sb.frames, f.asn ≠ s.sb.comp) ∧ ∀ x ∈ t.sb.stales, s.sb.comp < x.asn)

/-- R311–R320: the rate is the integer nearest to A_nom × (1 + r) / (1 + e), and applies from 1 µs after a change; SC_SLEW beyond its
limit is BADARG; a slew runs for its length; a load or step is performed in START, PROVISION and MAINTENANCE and elsewhere refused
with event 20.
Where the spec is silent it follows log 23, the model's choice. -/
def Obligations.ClockRate : Prop :=
  ∀ (s : State) (src : Src) (v : Word) (t0 : Nat),
    let later := fun (u : State) => u.modSc (fun c => { c with addPend := some (s.sc.addPend.getD s.now) })
    let sv := signed 24 v.toNat
    (Allowed s src false (aSC 0x12) →
      (s.sc.ever = false → Completes (.scFreqWrite src v) s ((later (s.setReg (aSC 0x12) v)).answered src (aSC 0x12) .ok)) ∧
      (s.sc.ever = true → Completes (.scFreqWrite src v) s
        (((later (s.setReg (aSC 0x12) v)).modSc (fun c => { c with refPend := true })).answered src (aSC 0x12) .ok))) ∧
    (s.sc.addPend = some t0 → s.on dSC = true → t0 + 3000 ≤ s.now →
      ∃ t, Completes .addUpdate s t ∧ t.sc.addPend = none ∧ t.sc.time = s.sc.time ∧
        t.sc.add = addend (signed 24 (s.reg (aSC 0x12)).toNat) s.slewTerm) ∧
    (∀ e r : Int, -2 ^ 35 < e → -2 ^ 31 < r →
      let n : Int := 2 ^ 69 * (2 ^ 32 + r)
      let d : Int := 1953125 * (2 ^ 36 + e)
      2 * addend e r * d ≤ 2 * n + d ∧ 2 * n - d < 2 * addend e r * d) ∧
    (Allowed s src false (aSC 0x13) →
      (2147483 < sv.natAbs → Completes (.scSlewWrite src v) s ((s.occurV 0x19 0).answered src (aSC 0x13) .badarg)) ∧
      (sv.natAbs ≤ 2147483 → Completes (.scSlewWrite src v) s ((later (s.setReg (aSC 0x13) v)).answered src (aSC 0x13) .ok))) ∧
    (Allowed s src false (aSC 0x14) →
      (v ≠ 0 → Completes (.scSlewlenWrite src v) s
        ((later (s.modSc (fun c => { c with slewing := true, slewTicks := 1024 * v.toNat }))).answered src (aSC 0x14) .ok)) ∧
      (s.sc.slewing = false → Completes (.scSlewlenWrite src 0) s (s.answered src (aSC 0x14) .ok))) ∧
    (s.on dSC = true → s.sc.slewing = true → s.sc.slewTicks = 0 →
      Completes .slewEnd s ((later (s.modSc (fun c => { c with slewing := false, slewTicks := 0, slewEnd := some s.now }))).raise 18)) ∧
    (Allowed s src false (aSC 2) →
      (s.pw.mode ≠ .start → s.pw.mode ≠ .provision → s.pw.mode ≠ .maintenance →
        let refused := (((s.modSc (fun c => { c with refused := true })).raise 20).occurV 0x14 0).answered src (aSC 2) .state
        Completes (.scLoad src) s refused ∧ Completes (.scStep src) s refused) ∧
      (s.pw.mode = .start ∨ s.pw.mode = .provision ∨ s.pw.mode = .maintenance → s.sb.state = .idle →
        (∃ t, Completes (.scLoad src) s t ∧ t.lastStatus = .ok ∧ Fin.ofNat 1024 17 ∈ t.dp.inflight ∧
          t.reg (aSC 0x1F) = satInc 24 (s.reg (aSC 0x1F)) ∧
          t.sc.time = (s.reg (aSC 8) ++ s.reg (aSC 9) ++ s.reg (aSC 0xA) ++ s.reg (aSC 0xB)).toNat * 2 ^ 24) ∧
        ∃ t, Completes (.scStep src) s t ∧ t.lastStatus = .ok ∧ Fin.ofNat 1024 17 ∈ t.dp.inflight ∧
          (t.sc.time : Int) = ((s.sc.time : Int) +
            (signed 48 (long (s.reg (aSC 0xC)) (s.reg (aSC 0xD))).toNat * 2 ^ 72) / 1000000000) % 2 ^ 120))

/-- R321–R330: the lock state, the latched time, and the compare units.
Where the spec is silent it follows log 23, the model's choice. -/
def Obligations.ClockLock : Prop :=
  ∀ (s : State) (src : Src) (c : Fin 16) (k : Fin 4) (v : Word),
    let ctl := aCMP c.val 0
    let cell := aCMP c.val k.val
    let per := (s.reg (aCMP c.val 3)).toNat * 2 ^ 16
    let m := (signed 24 v.toNat).natAbs
    (Allowed s src false (aSC 0x18) →
      (s.sc.lock = .lead → ∃ t, Completes (.scMeasWrite src v) s t ∧ t.sc = s.sc ∧ t.reg (aSC 0x19) = v ∧ t.lastStatus = .ok) ∧
      (s.sc.lock = .holdover → s.slewMasks = false → m ≤ s.lockTh →
        ∃ t, Completes (.scMeasWrite src v) s t ∧ t.sc.lock = .locked ∧ t.reg (aSC 0x19) = v ∧ Fin.ofNat 1024 16 ∈ t.dp.inflight) ∧
      (s.sc.lock = .holdover → s.slewMasks = false → s.lockTh < m →
        ∃ t, Completes (.scMeasWrite src v) s t ∧ t.sc.lock = .locking ∧ (0x11, (0 : Word)) ∈ t.hm.pending)) ∧
    (s.on dSC = true → s.sc.lock = .locked → max s.sc.entered s.sc.lastTaken + s.holdTo * 3000000000 ≤ s.now →
      Completes .holdoverTimeout s
        (((s.modSc (fun x => { x with lock := .holdover, entered := s.now, taken := [], outRun := 0 })).raise 16).occurV 0x12 0)) ∧
    (Allowed s src false (aSC 0) →
      (v.getLsbD 23 = true → ∃ t, Completes (.leaderWrite src v) s t ∧ t.sc.lock = .lead ∧ t.lastStatus = .ok) ∧
      (v.getLsbD 23 = false → s.sc.lock = .lead →
        ∃ t, Completes (.leaderWrite src v) s t ∧ t.sc.lock = if s.sc.ever then .holdover else .free) ∧
      (v.getLsbD 23 = false → s.sc.lock ≠ .lead →
        Completes (.leaderWrite src v) s ((s.plainWrite (aSC 0) v).answered src (aSC 0) .ok))) ∧
    (Allowed s src true (aSC 4) →
      ∃ t, Completes (.scTime0Read src) s t ∧ t.readback = wd (s.sc.time / 2 ^ 96 % 2 ^ 24) ∧ t.sc.time = s.sc.time ∧
        mapGet (fun _ => 0) t.sc.latches (readerOf src) = s.sc.time / 2 ^ 24 % 2 ^ 96) ∧
    (s.on dSC = true → s.cmpArmed c.val = true → s.cmpSkips c.val = false → after (s.cmpTarget c.val) s.shortTime = false →
      ∃ t, Completes (.compareFire c) s t ∧ Fin.ofNat 1024 c.val ∈ t.dp.inflight ∧ (t.reg ctl).getLsbD 22 = true ∧
        (per = 0 → t.cmpArmed c.val = false ∧ t.cmpTarget c.val = s.cmpTarget c.val) ∧
        (per ≠ 0 → t.cmpArmed c.val = true ∧ t.cmpTarget c.val = s.cmpTarget c.val + ln per)) ∧
    (s.cmpArmed c.val = false → Completes (.compareFire c) s s) ∧
    (Allowed s src false cell →
      (k ≠ 0 → s.cmpArmed c.val = true → Completes (.cmpWrite src c k v) s (s.answered src cell .busy)) ∧
      (k ≠ 0 → s.cmpArmed c.val = false → Completes (.cmpWrite src c k v) s ((s.plainWrite cell v).answered src cell .ok)) ∧
      (k = 0 → v.getLsbD 23 = true →
        ∃ t, Completes (.cmpWrite src c k v) s t ∧ t.cmpArmed c.val = true ∧ (t.reg ctl).getLsbD 22 = false ∧ t.lastStatus = .ok))

/-- R362, R368, R725: a node command of points that waits at its port while the tables are powered ends there with its STATUS and
DETAIL; entries are read, written, inserted, deleted, found and synchronised, and LEARN answers as R370 says. Every shunter of the
port's depot that waits for it goes on with PT_STAT.
Where the spec is silent it follows log 26, the model's choice. -/
def Obligations.PointsNodes : Prop :=
  ∀ (s : State) (p : Fin 11),
    let at_ := fun (op : Nat) => s.portBusy p.val = true ∧ s.portOp p.val = op ∧ s.on dTABLES = true
    let h := s.portHandle p.val
    let e := s.nodeEntry h
    let w := s.portWords p.val 16
    let sound := s.badLive h = false ∧ s.badStable h = false
    let same := fun (t : State) => t.pt = s.pt ∧ t.main = s.main
    (s.portBusy p.val = false → Completes (.nread p) s s ∧ Completes (.nwrite p) s s ∧ Completes (.learn p) s s) ∧
    (at_ 1 → sound →
      (enState e = 0 → Answers (.nread p) s p .absent 0 same) ∧
      (enState e ≠ 0 → Answers (.nread p) s p .ok 0 (fun t => same t ∧ ∀ k, k < 16 → t.portData p.val k = s.nodeWord h k))) ∧
    (at_ 1 → s.badLive h = true →
      Answers (.nread p) s p .fault 0x17 (fun t => ∀ k, 10 ≤ k → k < 16 → t.nodeWord h k = 0)) ∧
    (at_ 2 →
      (entryRsvd w = true → Answers (.nwrite p) s p .badarg 0x12 same) ∧
      (entryRsvd w = false → h < 131072 → (enState w = 3 ∨ enState w = 4) → Answers (.nwrite p) s p .badarg 0x10 same) ∧
      (entryRsvd w = false → enState w = 0 →
        Answers (.nwrite p) s p .ok 0 (fun t => ∀ k, k < 16 → t.nodeWord h k = 0)) ∧
      (entryRsvd w = false → halfBad h (enState w) = false → 1 ≤ enState w → enState w ≤ 4 → parentBad w = false →
        s.dupKey (some h) w = true → Answers (.nwrite p) s p .badarg 0x11 same) ∧
      (∀ r, entryRsvd w = false → halfBad h (enState w) = false → 1 ≤ enState w → enState w ≤ 4 → parentBad w = false →
        s.dupKey (some h) w = false → s.reindex h e (cleanEntry w) = some r →
        Answers (.nwrite p) s p .ok (if r.2.2 then 9 else 0) (fun t => t.nodeEntry h = cleanEntry w ∧
          ∀ g k, g ≠ h → k < 16 → t.nodeWord g k = s.nodeWord g k))) ∧
    (at_ 3 → entryRsvd w = false → enState w = 1 → (s.reg (aPort p.val 3)).getLsbD 10 = false → parentBad w = false →
      s.dupKey none w = false →
      (s.freeHandle false = none → Answers (.ninsert p) s p .full 0x14 same) ∧
      (∀ g r, s.freeHandle false = some g → s.reindex g (s.nodeEntry g) (cleanEntry w) = some r →
        Answers (.ninsert p) s p .ok (if r.2.2 then 9 else 0) (fun t => t.portHandle p.val = g ∧ t.nodeEntry g = cleanEntry w))) ∧
    (at_ 4 → sound →
      (enState e = 0 → Answers (.ndelete p) s p .absent 0 same) ∧
      (enState e ≠ 0 → Answers (.ndelete p) s p .ok 0 (fun t => (∀ k, k < 16 → t.nodeWord h k = 0) ∧
        ∀ g k, g ≠ h → k < 16 → t.nodeWord g k = s.nodeWord g k))) ∧
    (at_ 5 → s.portKt p.val = false →
      (s.findEui (s.portEui p.val) = none → Answers (.nfind p) s p .absent 0 same) ∧
      (∀ g, s.findEui (s.portEui p.val) = some g → s.badLive g = false → s.badStable g = false → g < 2 ^ 18 →
        Answers (.nfind p) s p .ok 0 (fun t => same t ∧ t.portHandle p.val = g ∧ ∀ k, k < 16 → t.portData p.val k = s.nodeWord g k))) ∧
    (at_ 6 → s.badStable h = false → (w.getD 15 0).getLsbD 0 = false →
      (enState e = 0 → Answers (.nupdl p) s p .absent 0 same) ∧
      (enState e ≠ 0 → Answers (.nupdl p) s p .ok 0 (fun t =>
        (∀ k, 10 ≤ k → k < 16 → t.nodeWord h k = s.portData p.val k) ∧ (t.nodeWord h 2).getLsbD 2 = false ∧
          ∀ k, k < 10 → k ≠ 2 → t.nodeWord h k = s.nodeWord h k))) ∧
    (at_ 7 → sound → entryRsvd (w.take 10) = false → enState e ≠ 0 →
      (maskStable e = maskStable (w.take 10) →
        Answers (.nsync p) s p .ok 0 (fun t => (t.nodeWord h 2).getLsbD 3 = false ∧
          ∀ k, k ≠ 2 → t.nodeWord h k = s.nodeWord h k)) ∧
      (maskStable e ≠ maskStable (w.take 10) → Answers (.nsync p) s p .busy 0x15 same)) ∧
    (at_ 8 → s.portKt p.val = false → ∀ g, s.findEui (s.portEui p.val) = some g → s.badLive g = false → s.badStable g = false →
      enIng (s.nodeEntry g) = fld (s.reg (aPort p.val 3)) 15 12 → enParent (s.nodeEntry g) = fld (s.portData p.val 0) 17 0 → g < 2 ^ 18 →
      Answers (.learn p) s p .ok 1 (fun t => t.portHandle p.val = g ∧ (t.nodeWord g 2).getLsbD 2 = false ∧ t.nodeWord g 0 = s.nodeWord g 0)) ∧
    (at_ 8 → s.portKt p.val = true → s.findShort (s.portShort p.val) = none →
      Answers (.learn p) s p .absent 0 (fun t => same t ∧ t.portData p.val 1 = s.floodQ (fld (s.reg (aPort p.val 3)) 15 12)))

/-- R352, R355–R359, R368, R372, R377–R381: the route commands of points, its configuration registers, and the scrubber.
Where the spec is silent it follows log 26, the model's choice. -/
def Obligations.PointsRoutes : Prop :=
  ∀ (s : State) (p : Fin 11) (src : Src) (v : Word) (rcnt : Bool),
    let at_ := fun (op : Nat) => s.portBusy p.val = true ∧ s.portOp p.val = op ∧ s.on dTABLES = true
    let len := s.portLen p.val
    let a := s.portAddr p.val
    let x := s.portHandle p.val % 65536
    let r0 := s.portData p.val 0
    let r1 := s.portData p.val 1
    let w := s.portWords p.val 5
    let same := fun (t : State) => t.pt = s.pt ∧ t.main = s.main
    let shadow := aPT (if rcnt then 0x2A3 else 0x2A2)
    let refused := fun (u : State) => (u.count (aPT 0x2F)).occurV 0x6E 0
    (at_ 0x10 →
      (len < 17 ∨ 128 < len ∨ routeBad r0 = true → Answers (.radd p) s p .badarg 0x12 same) ∧
      (17 ≤ len → len ≤ 128 → routeBad r0 = false → s.badFilter (a / 2 ^ 112) = false →
        ((s.findRoute len a).isNone = true → 262144 ≤ s.routeCount → Answers (.radd p) s p .full 0x13 same) ∧
        (∀ r, s.routeCount < 262144 → (s.findRoute len a).isNone = true →
          s.pt.hash.insert s.hashBs (hashKey len a) (routeVal r0 r1) = some r →
          Answers (.radd p) s p .ok (if r.stashed then 9 else 0) (fun t => t.pt.hash = r.table ∧ t.filterBit (a / 2 ^ 112) len = true)))) ∧
    (at_ 0x11 →
      ((s.findRoute len a).isNone = true → Answers (.rdel p) s p .absent 0 same) ∧
      (17 ≤ len → len ≤ 128 → (s.findRoute len a).isNone = false →
        Answers (.rdel p) s p .ok 0 (fun t => t.pt.hash = s.pt.hash.erase (s.hashBs (hashKey len a)) (hashKey len a) ∧
          t.pt.filter = s.pt.filter))) ∧
    (at_ 0x12 → 17 ≤ len → len ≤ 128 →
      (s.findRoute len a = none → Answers (.rfind p) s p .absent 0 same) ∧
      (∀ q : Nat, s.findRoute len a = some q → Answers (.rfind p) s p .ok 0 (fun t =>
        same t ∧ t.portData p.val 0 = wd (q / 2 ^ 24) ∧ t.portData p.val 1 = wd q))) ∧
    (at_ 0x13 → s.badFilter (a / 2 ^ 112) = false → s.badDirect (a / 2 ^ 112) = false →
      (∀ l, 17 ≤ l → l ≤ 128 → s.filterBit (a / 2 ^ 112) l = false) → (s.reg (aPort p.val 3)).getLsbD 9 = false →
      Answers (.lookup p) s p .ok 0 (fun t => t.portData p.val 0 = s.directWord (a / 2 ^ 112) 0 ∧
        t.portData p.val 1 = s.directWord (a / 2 ^ 112) 1 ∧ t.portData p.val 3 = 0 ∧
        t.portData p.val 2 = wd (fld (s.directWord (a / 2 ^ 112) 1) 23 16 * 2 ^ 16) ∧ t.pt = s.pt)) ∧
    (at_ 0x13 → s.badFilter (a / 2 ^ 112) = false → (s.reg (aPort p.val 3)).getLsbD 9 = false → ∀ l q : Nat, 17 ≤ l → l ≤ 128 →
      (∀ j, l < j → j ≤ 128 → s.filterBit (a / 2 ^ 112) j = false) → s.filterBit (a / 2 ^ 112) l = true → s.findRoute l a = some q →
      Answers (.lookup p) s p .ok 0 (fun t => t.portData p.val 0 = wd (q / 2 ^ 24) ∧ t.portData p.val 1 = wd q ∧
        t.portData p.val 2 = wd (l * 2 ^ 16 + 2 ^ 8) ∧ t.pt = s.pt)) ∧
    (at_ 0x14 →
      (16 < fld r1 23 16 ∨ routeBad r0 = true → Answers (.dset p) s p .badarg 0x12 same) ∧
      (fld r1 23 16 ≤ 16 → routeBad r0 = false →
        Answers (.dset p) s p .ok 0 (fun t => t.directWord x 0 = r0 ∧ t.directWord x 1 = r1 ∧
          ∀ y k, y ≠ x → k < 2 → t.directWord y k = s.directWord y k))) ∧
    (at_ 0x15 → s.badDirect x = false →
      Answers (.dget p) s p .ok 0 (fun t => same t ∧ t.portData p.val 0 = s.directWord x 0 ∧ t.portData p.val 1 = s.directWord x 1)) ∧
    (at_ 0x15 → s.badDirect x = true → Answers (.dget p) s p .fault 0x17 (fun t => t.main = s.main)) ∧
    (at_ 0x16 → s.badFilter x = false →
      Answers (.fget p) s p .ok 0 (fun t => same t ∧ ∀ k, k < 5 → t.portData p.val k = s.filterWord x k)) ∧
    (at_ 0x17 → s.badFilter x = false →
      (fld (w.getD 4 0) 7 0 ≠ 0 → Answers (.fclr p) s p .badarg 0x12 same) ∧
      (fld (w.getD 4 0) 7 0 = 0 → Answers (.fclr p) s p .ok 0 (fun t => ∀ k, k < 5 →
        t.filterWord x k = s.filterWord x k &&& ~~~(s.portData p.val k) ∧ t.portData p.val k = t.filterWord x k))) ∧
    (Allowed s src false (aPT 0x21) →
      (s.pt.eui.isEmpty = true → s.pt.short.isEmpty = true → s.pt.hash.isEmpty = true →
        Completes (.ptHseedWrite src v) s ((s.plainWrite (aPT 0x21) v).answered src (aPT 0x21) .ok)) ∧
      (s.pt.hash.isEmpty = false → Completes (.ptHseedWrite src v) s ((refused s).answered src (aPT 0x21) .state))) ∧
    (Allowed s src false (aPT 0x20) →
      (s.roaming = v.getLsbD 23 ∨ s.anyLearned = false →
        Completes (.ptCfgWrite src v) s ((s.plainWrite (aPT 0x20) v).answered src (aPT 0x20) .ok)) ∧
      (s.roaming ≠ v.getLsbD 23 → s.anyLearned = true →
        Completes (.ptCfgWrite src v) s ((refused s).answered src (aPT 0x20) .state))) ∧
    (Allowed s src false shadow →
      ((s.reg (aPT 0x2A0)).getLsbD 23 = false →
        Completes (.ptShadowWrite src rcnt v) s ((s.plainWrite shadow v).answered src shadow .ok)) ∧
      ((s.reg (aPT 0x2A0)).getLsbD 23 = true → Completes (.ptShadowWrite src rcnt v) s ((refused s).answered src shadow .state)))

/-- R373, R377–R381: the scrubber waits for DRAM with event 455; a node entry that matches its shadow, whose keys lead to it and
which is not too old is left as it is, and the next item follows; a direct entry that differs takes its shadow.
Where the spec is silent it follows log 26, the model's choice. -/
def Obligations.Scrubber : Prop :=
  ∀ (s : State),
    let ctl := aPT 0x2A1
    let pos := fld (s.reg ctl) 17 0
    let e := s.nodeEntry pos
    let on := s.on dTABLES = true ∧ (s.reg (aPT 0x2A0)).getLsbD 23 = true
    let base := fld (s.reg (aPT 0x2A2)) 21 0 * 4096 + 0x1000000 + 8 * pos
    (¬ on → Completes .scrubberNodeVisit s s ∧ Completes .scrubberTableVisit s s) ∧
    (on → s.on dDRAM = false → (s.reg ctl).getLsbD 22 = false →
      (fld (s.reg ctl) 21 20 = 0 → Completes .scrubberNodeVisit s ((s.setRegFld ctl 22 22 1).raise 455)) ∧
      (fld (s.reg ctl) 21 20 ≠ 0 → Completes .scrubberTableVisit s ((s.setRegFld ctl 22 22 1).raise 455))) ∧
    (on → s.on dDRAM = true → fld (s.reg ctl) 21 20 = 0 → (s.reg ctl).getLsbD 23 = true → pos + 1 < 262144 →
      s.badLive pos = false → s.badStable pos = false → maskStable e = maskStable (s.shadow (64 * pos) 16) → enState e = 0 →
      ∃ t, Completes .scrubberNodeVisit s t ∧ t.pt = s.pt ∧ t.reg ctl = wd (2 ^ 23 + pos + 1) ∧
        ∀ a, a ≠ ctl → t.reg a = s.reg a) ∧
    (on → s.on dDRAM = true → fld (s.reg ctl) 21 20 = 1 → (s.reg ctl).getLsbD 23 = true → pos + 1 < 65536 → s.badDirect pos = false →
      (∀ k, k < 2 → s.directWord pos k =
        s.dramByte (base + 4 * k + 1) ++ s.dramByte (base + 4 * k + 2) ++ s.dramByte (base + 4 * k + 3)) →
      ∃ t, Completes .scrubberTableVisit s t ∧ t.pt = s.pt ∧ t.reg ctl = wd (2 ^ 23 + 2 ^ 20 + pos + 1)) ∧
    (on → s.on dDRAM = true → fld (s.reg ctl) 21 20 = 1 → (s.reg ctl).getLsbD 23 = true → pos + 1 < 65536 →
      ∃ t, Completes .scrubberTableVisit s t ∧ t.reg ctl = wd (2 ^ 23 + 2 ^ 20 + pos + 1) ∧ ∀ k, k < 2 → t.directWord pos k =
        s.dramByte (base + 4 * k + 1) ++ s.dramByte (base + 4 * k + 2) ++ s.dramByte (base + 4 * k + 3))

/-- R403, R405, R723, R724, R755: each yard request, from a shunter and from the host port: its operand registers and block, the
words it returns, and the fields that must be 0.
Where the spec is silent it follows log 22, the model's choice. -/
def Obligations.YardForms : Prop :=
  ∀ (s : State) (sh : Sh) (d a b : Reg),
    ShunterAsks (.enq (.shunter sh 0 a b)) s sh [a, b] (fun x => some (x.r b, 6))
      (fun u => u.yEnq (fld ((u.shunter sh).r a) 17 0) (u.localWagon sh ((u.shunter sh).r b).toNat)) (fun _ u => u) ∧
    ShunterAsks (.enqm (.shunter sh d a b)) s sh [d, a, b] (fun x => some (x.r b, 6))
      (fun u => u.yEnqm (fld ((u.shunter sh).r a) 11 0) (u.localWagon sh ((u.shunter sh).r b).toNat)) (numTo sh d) ∧
    ShunterAsks (.deq (.shunter sh 0 a b)) s sh [a, b] (fun x => some (x.r b, 6))
      (fun u => u.yDeq (fld ((u.shunter sh).r a) 17 0)) (fun r u => u.putLocal sh ((u.shunter sh).r b).toNat r.words) ∧
    ShunterAsks (.put (.shunter sh d a b)) s sh [d, a, b]
      (fun x => if (x.r d).toNat ≤ 64 then some (x.r b, (x.r d).toNat) else none)
      (fun u => u.yPut (fld ((u.shunter sh).r a) 17 0) ((u.shunter sh).r d).toNat
        (u.localWords sh ((u.shunter sh).r b).toNat (min ((u.shunter sh).r d).toNat 64))) (fun _ u => u) ∧
    ShunterAsks (.get (.shunter sh d a b)) s sh [d, a, b]
      (fun x => if (x.r d).toNat ≤ 64 then some (x.r b, (x.r d).toNat + 2) else none)
      (fun u => u.yGet (fld ((u.shunter sh).r a) 17 0) ((u.shunter sh).r d).toNat)
      (fun r u =>
        let t := if r.status = .ok then
            u.putLocal sh ((u.shunter sh).r b).toNat (hiWord r.stamp :: loWord r.stamp :: r.words) else u
        if r.status = .ok ∨ r.status = .full then t.modShunter sh (fun x => x.setR d (wd r.num)) else t) ∧
    ShunterAsks (.qflush (.shunter sh d a 0)) s sh [d, a] (fun _ => none)
      (fun u => u.yFlush (fld ((u.shunter sh).r a) 17 0)) (numTo sh d) ∧
    ShunterAsks (.calloc (.shunter sh d a b)) s sh [d, a, b] (fun _ => none)
      (fun u => u.yCalloc (fld ((u.shunter sh).r a) 1 0) ((u.shunter sh).r b).toNat) (numTo sh d) ∧
    ShunterAsks (.cfree (.shunter sh 0 a 0)) s sh [a] (fun _ => none) (fun u => u.yCfree (fld ((u.shunter sh).r a) 17 0))
      (fun _ u => u) ∧
    ShunterAsks (.clink (.shunter sh 0 a b)) s sh [a, b] (fun _ => none)
      (fun u => u.yClink (fld ((u.shunter sh).r a) 17 0) (fld ((u.shunter sh).r b) 17 0)) (fun _ u => u) ∧
    (d.val % 2 = 0 →
      ShunterAsks (.cnext (.shunter sh d a 0)) s sh [d, d + 1, a] (fun _ => none)
        (fun u => u.yCnext (fld ((u.shunter sh).r a) 17 0))
        (fun r u => if r.status = .ok then
          u.modShunter sh (fun x => x.setPair d (long (r.words.getD 0 0 + r.words.getD 1 0) (wd r.num))) else u)) ∧
    (d ≠ 0 → Faults (.enq (.shunter sh d a b)) s sh ∧ Faults (.deq (.shunter sh d a b)) s sh ∧
      Faults (.cfree (.shunter sh d a b)) s sh ∧ Faults (.clink (.shunter sh d a b)) s sh) ∧
    (b ≠ 0 → Faults (.qflush (.shunter sh d a b)) s sh ∧ Faults (.cfree (.shunter sh d a b)) s sh ∧
      Faults (.cnext (.shunter sh d a b)) s sh) ∧
    (d.val % 2 = 1 → Faults (.cnext (.shunter sh d a b)) s sh) ∧
    HostAsks (.enq .host) s 1 (fun u => u.yEnq u.hostQ u.hostWagon) (fun _ u => u) (fun _ => 0) ∧
    HostAsks (.enqm .host) s 2 (fun u => u.yEnqm u.hostQ u.hostWagon) resTo (fun _ => 0) ∧
    HostAsks (.deq .host) s 3 (fun u => u.yDeq u.hostQ) (fun r u => u.putRegs (aYD 0x108) r.words) (fun _ => 0) ∧
    HostAsks (.put .host) s 4 (fun u => u.yPut u.hostQ u.hostArg (u.hostData (min u.hostArg 64))) (fun _ u => u) (fun _ => 0) ∧
    HostAsks (.get .host) s 5 (fun u => u.yGet u.hostQ u.hostArg)
      (fun r u => ((u.putRegs (aYD 0x140) r.words).setReg (aYD 0x104) (hiWord r.stamp)).setReg (aYD 0x105) (loWord r.stamp))
      (fun r => if r.status = .ok ∨ r.status = .full then r.num else 0) ∧
    HostAsks (.qflush .host) s 6 (fun u => u.yFlush u.hostQ) resTo (fun _ => 0) ∧
    HostAsks (.calloc .host) s 7 (fun u => u.yCalloc u.hostPool u.hostArg) resTo (fun _ => 0) ∧
    HostAsks (.cfree .host) s 8 (fun u => u.yCfree u.hostQ) (fun _ u => u) (fun _ => 0) ∧
    HostAsks (.clink .host) s 9 (fun u => u.yClink u.hostQ u.hostArg) (fun _ u => u) (fun _ => 0) ∧
    HostAsks (.cnext .host) s 10 (fun u => u.yCnext u.hostQ)
      (fun r u => (u.setReg (aYD 0x103) (r.words.getD 0 0 + wd r.num)).setReg (aYD 0x140) (r.words.getD 1 0)) (fun _ => 0)

/-- R393–R399, R402, R406, R407, R419–R425, R755: what the yard requests do.
Where the spec is silent it follows log 22, the model's choice. -/
def Obligations.YardResults : Prop :=
  ∀ (s : State) (q n l c m : Nat) (w : Wagon) (words : List Word),
    let enq := s.yEnq q w
    let word := s.wordQ q
    let live := q < queueCount ∧ s.yardOn = true ∧ s.qEn q = true
    ((queueCount ≤ q → (s.yEnq q w).1.status = .badarg ∧ s.yDeq q = (⟨.badarg, 0, [], 0⟩, s) ∧
      s.yPut q n words = (⟨.badarg, 0, [], 0⟩, s) ∧ s.yGet q n = (⟨.badarg, 0, [], 0⟩, s) ∧
      s.yFlush q = (⟨.badarg, 0, [], 0⟩, s)) ∧
    (s.enqCheck q w = none → (131072 ≤ q ∨ w.w2.toNat % 4 ≠ 0) →
      enq.1.status = .ok ∧
      enq.2.wagonsOf q = s.wagonsOf q ++ [{ w with acc := s.shortTime, id := s.yd.nextId }] ∧
      (enq.2.cell (bufCell w.w0)).ref = (s.cell (bufCell w.w0)).ref + 1 ∧
      ∀ p, p ≠ q → enq.2.wagonsOf p = s.wagonsOf p) ∧
    (∀ st occ, s.enqCheck q w = some (st, occ) → enq.1.status = st ∧ enq.2.yd.wagons = s.yd.wagons) ∧
    (∀ v r, live → s.qKind q = 0 → 131072 ≤ q → s.qEgr q = 0x20 → s.wagonsOf q = v :: r → v.ecc = .good → v.copy = none →
      (s.yDeq q).1 = ⟨.ok, 0, [v.w0, v.w1, v.w2, v.w3, v.w4, v.w5], 0⟩ ∧
      (s.yDeq q).2.wagonsOf q = (s.wagonsOf q).filter (fun x => x.id != v.id)) ∧
    (live → s.qKind q = 1 ∨ s.qKind q = 2 → word.sound = true → 1 ≤ n → n ≤ 64 →
      (word.packets = [] → (s.yGet q n).1.status = .absent ∧ (s.yGet q n).2 = s) ∧
      (∀ p r, word.packets = p :: r → p.words.length ≤ n →
        (s.yGet q n).1 = ⟨.ok, p.words.length, p.words, p.stamp⟩ ∧ ((s.yGet q n).2.wordQ q).packets = r) ∧
      (∀ p r, word.packets = p :: r → n < p.words.length →
        (s.yGet q n).1 = ⟨.full, p.words.length, [], 0⟩ ∧ (s.yGet q n).2 = s) ∧
      (words.length = n → word.used + n + 2 ≤ s.region q →
        (s.yPut q n words).1.status = .ok ∧
        ((s.yPut q n words).2.wordQ q).packets = word.packets ++ [⟨stampAfter word.last s.shortTime, words⟩]) ∧
      (words.length = n → s.qKind q = 2 → s.region q < word.used + n + 2 →
        (s.yPut q n words).1.status = .full ∧ ((s.yPut q n words).2.wordQ q) = word) ∧
      ((s.yFlush q).1 = ⟨.ok, word.packets.length, [], 0⟩ ∧ ((s.yFlush q).2.wordQ q).packets = [])) ∧
    (s.yardOn = true →
      (3 ≤ m → s.yCalloc m n = (⟨.badarg, 0, [], 0⟩, s)) ∧
      (m < 3 → n = 0 ∨ 64 < n → (s.yCalloc m n).1.status = .badarg) ∧
      (m < 3 → 1 ≤ n → n ≤ 64 → s.yd.cellFree < n → (s.yCalloc m n).1.status = .full ∧ (s.yCalloc m n).2.yd.cells = s.yd.cells) ∧
      (m < 3 → 1 ≤ n → n ≤ 64 → (fld (s.reg (aYD (0xC + m))) 17 0 = 0 ∨ s.used m + n ≤ fld (s.reg (aYD (0xC + m))) 17 0) →
        n + s.poolNeed m ≤ s.yd.cellFree →
        (s.yCalloc m n).1.status = .ok ∧ (s.yCalloc m n).2.yd.cellFree = s.yd.cellFree - n ∧
          (s.yCalloc m n).2.used m = s.used m + n) ∧
      (s.managed c = true →
        ((s.cell c).alloc = false ∨ (s.cell c).first = false → (s.yCfree c).1.status = .badarg) ∧
        ((s.cell c).alloc = true → (s.cell c).first = true → 0 < (s.cell c).ref → s.yCfree c = (⟨.busy, 0, [], 0⟩, s)) ∧
        ((s.cell c).alloc = true → (s.cell c).first = true → (s.cell c).ref = 0 → (s.yCfree c).1.status = .ok) ∧
        (s.yCnext c).1.status = .ok ∧ (s.yCnext c).1.num = ((s.cell c).link.getD 0x3FFFF) ∧ (s.yCnext c).2 = s) ∧
      (s.managed c = true → s.managed n = true → c ≠ n → (s.cell c).alloc = true → (s.cell c).link = none →
        (s.cell n).alloc = true → (s.cell n).first = true → (s.cell n).ref = 0 → s.inChain c n = false →
        (s.yClink c n).1.status = .ok ∧ ((s.yClink c n).2.cell c).link = some n ∧ ((s.yClink c n).2.cell n).first = false) ∧
      (s.managed c = false → (s.yCfree c).1.status = .badarg ∧ (s.yClink c n).1.status = .badarg ∧ (s.yCnext c).1.status = .badarg)) ∧
    (4096 ≤ l → s.yEnqm l w = (⟨.badarg, 0, [], 0⟩, s)) ∧
    (l < 4096 → s.yardOn = true → (mapGet (fun _ => {}) s.yd.lists l).count = 0 → s.yEnqm l w = (⟨.badarg, 0, [], 0⟩, s)))

/-- R390, R391, R400, R401, R411–R416, R425, R436: queue descriptors, cell initialisation, shapers, gate lists, replication lists and
the yard's ticks.
Where the spec is silent it follows logs 14 and 22, the model's choice. -/
def Obligations.YardRegisters : Prop :=
  ∀ (s : State) (src : Src) (q : Nat) (e : Fin 18) (r : Fin 4) (v : Word) (t0 : Long),
    let cell := aQ q 0
    let gl := aGL e.val 0
    let data := aGL e.val 6
    let g := s.gate e.val
    let i := s.glAddr e.val
    let ml := aYD 0x304
    (q < 147456 → Allowed s src false cell →
      ((s.qctl q).getLsbD 23 = false → v.getLsbD 23 = true → s.enableCheck q v ≠ .ok →
        Completes (.qctlWrite src q v) s (s.answered src cell (s.enableCheck q v))) ∧
      ((s.qctl q).getLsbD 23 = false → v.getLsbD 23 = true → s.enableCheck q v = .ok → fld v 22 21 = 0 →
        Completes (.qctlWrite src q v) s ((s.setReg cell v).answered src cell .ok)) ∧
      ((s.qctl q).getLsbD 23 = false → v.getLsbD 23 = false →
        Completes (.qctlWrite src q v) s ((s.setReg cell v).answered src cell .ok)) ∧
      ((s.qctl q).getLsbD 23 = true → v.getLsbD 23 = false → s.holdsAny q = true →
        Completes (.qctlWrite src q v) s (s.answered src cell .state))) ∧
    (fld v 22 21 = 3 → s.enableCheck q v = .badarg) ∧
    (Allowed s src false (aYD 4) →
      ((s.reg (aYD 0)).getLsbD 23 = false → s.yd.initRun = false → v.getLsbD 0 = true →
        Completes (.cellinit src v) s
          ((s.modYd (fun y => { y with initRun := true, initDone := false })).answered src (aYD 4) .ok)) ∧
      ((s.reg (aYD 0)).getLsbD 23 = true → v.getLsbD 0 = true → Completes (.cellinit src v) s (s.answered src (aYD 4) .state))) ∧
    (s.yd.initRun = true → s.on dYARD = true →
      Completes .cellinitDone s ((s.modYd (fun y =>
        { y with cells := [], used := [], cellFree := s.cellCount, initRun := false, initDone := true })).raise 423)) ∧
    (Allowed s src false (aYD 0) →
      (v.getLsbD 23 = true → s.yd.initDone = false → Completes (.ydCtlWrite src v) s (s.answered src (aYD 0) .state)) ∧
      (v.getLsbD 23 = false ∨ s.yd.initDone = true →
        Completes (.ydCtlWrite src v) s ((s.plainWrite (aYD 0) v).answered src (aYD 0) .ok))) ∧
    (s.yd.refillAt + 3072 ≤ s.now → s.on dYARD = true →
      ∃ t, Completes .refillTick s t ∧ t.yd.refillAt = s.yd.refillAt + 3072 ∧ t.regs = s.regs ∧
        ∀ n x, s.yd.shapers = [(n, x)] → s.yd.sentSince = [] → 0 ≤ x.credit → x.credit + x.idle ≤ x.burst →
          x.newIdle = none → x.newSend = none → x.newBurst = none → x.newCredit = none →
          (t.shaper n).credit = x.credit + x.idle) ∧
    (Allowed s src false (aYD (0x201 + r.val)) →
      ∃ t, Completes (.shaperWrite src r v) s t ∧ t.lastStatus = .ok ∧ (t.shaper s.shAddr).credit = (s.shaper s.shAddr).credit ∧
        (r = 0 → (t.shaper s.shAddr).newIdle = some (v.toNat % 2 ^ 20)) ∧ (r = 1 → (t.shaper s.shAddr).newSend = some (v.toNat % 2 ^ 20)) ∧
        (r = 2 → (t.shaper s.shAddr).newBurst = some (v.toNat % 2 ^ 23)) ∧ (r = 3 → (t.shaper s.shAddr).newCredit = some (signed 24 v.toNat))) ∧
    (Allowed s src false gl →
      (g.armed ≠ none → Completes (.glCommit src e) s (((s.count (aYD 0x26)).occurV 0x77 0).answered src gl .state)) ∧
      (g.armed = none → s.glNent e.val ≤ 1024 → 1 ≤ s.glNent e.val → (∀ w ∈ listWords g.pend (s.glNent e.val), gateLen w ≠ 0) →
        ∃ t T, Completes (.glCommit src e) s t ∧ t.lastStatus = .ok ∧ (t.gate e.val).armed = some T ∧ (t.gate e.val).take = T ∧
          (t.gate e.val).active = g.active) ∧
      (g.armed = none → Completes (.glCancel src e) s (s.answered src gl .state)) ∧
      (g.armed = some t0 → after t0 s.shortTime = true →
        Completes (.glCancel src e) s ((s.setGate e.val { g with armed := none }).answered src gl .ok))) ∧
    (Allowed s src false data →
      (g.armed ≠ none → Completes (.glDataAccess src e (some v)) s (s.answered src data .state)) ∧
      (g.armed = none → ∃ t, Completes (.glDataAccess src e (some v)) s t ∧ mapGet zeroWord (t.gate e.val).pend i = v ∧
        t.glAddr e.val = (i + 1) % 1024)) ∧
    (Allowed s src true data →
      ∃ t, Completes (.glDataAccess src e none) s t ∧ t.readback = mapGet zeroWord g.pend i ∧ t.glAddr e.val = (i + 1) % 1024) ∧
    (g.armed = some t0 → s.on dYARD = true → after t0 s.shortTime = false →
      Completes (.gateListTakeOver e) s
        (((s.setGate e.val { g with active := g.pend, pend := g.active, entries := s.glNent e.val, start := t0, armed := none }).raise
          (424 + e.val)).occurV 0x76 0)) ∧
    (g.armed = none → Completes (.gateListTakeOver e) s s) ∧
    (Allowed s src false ml →
      ∃ t, Completes (.ydMldataAccess src (some v)) s t ∧ mapGet (fun _ => 0) (t.repList s.mlAddr).targets s.mlIdx = v.toNat % 2 ^ 18 ∧
        t.mlIdx = (s.mlIdx + 1) % 64) ∧
    (Allowed s src true ml →
      ∃ t, Completes (.ydMldataAccess src none) s t ∧ t.mlIdx = (s.mlIdx + 1) % 64 ∧ t.yd = s.yd ∧
        t.readback = wd (mapGet (fun _ => 0) (s.repList s.mlAddr).targets s.mlIdx)) ∧
    (s.yd.histAt + 3000000 ≤ s.now → s.on dYARD = true →
      Completes .wagonHistogramSample s ((s.modYd (fun y => { y with histAt := s.now })).occurV 0x78 (wd s.wagonsHeld)))

/-- R408, R409, R439–R444, R448–R450, R453, R457, R465: a port takes the head wagon of the highest class offered, sends its frame with
its FCS and counts it; a frame received is judged in the order of R440; pauses, flow control and code errors.
Where the spec is silent it follows log 28, the model's choice. -/
def Obligations.BackhaulFrames : Prop :=
  ∀ (s : State) (p : Band) (f : PortFrame) (w : Wagon) (r : RxFrame) (k : Option (Fin 8)),
    let x := s.port p
    let l := r.octets
    let z := s.pause p (pauseKey k)
    let wd0 := s.reg (aBH p 0xA)
    (s.bhEn p = true → s.yardOn = true → x.frame = none → s.probeDue p = false →
      (s.choose p = none → Completes (.wagonOffer p) s s) ∧
      (∀ q v u, s.choose p = some (q, v, u) → (∀ e ∈ s.offers p, clsOf v.w2 ≤ clsOf e.2.w2) ∧
        (v.ecc = .good → u.isPr q v = false → Completes (.wagonOffer p) s
          ((u.modWagon q v.id (fun y => { y with taken := true })).modPort p (fun y =>
            { y with frame := some ⟨q, v.id, false, 0, 0, false⟩ }))))) ∧
    (x.frame = some f → f.started = false → s.wagon f.queue f.wagon = some w →
      ∃ t body, Completes (.frameSend p) s t ∧ t.out = .octets (body ++ etherFcs body) ∧ body ++ etherFcs body = s.wagonFrame p f.queue w ∧
        ∃ g, (t.port p).frame = some g ∧ g.started = true ∧ g.octets = (body ++ etherFcs body).length ∧ g.queue = f.queue) ∧
    (x.frame = some f → f.started = true → s.wagon f.queue f.wagon = some w → s.isPr f.queue w = false → w.timed = false →
      w.copy = none → s.bh.swapPend = false →
      ∃ t, Completes (.frameSent p) s t ∧ (t.port p).frame = none ∧ t.counter p.idx 0 = min (s.counter p.idx 0 + 1) (2 ^ 48 - 1) ∧
        t.counter p.idx 1 = min (s.counter p.idx 1 + f.octets) (2 ^ 48 - 1) ∧ ∀ v ∈ t.wagonsOf f.queue, v.id ≠ w.id) ∧
    (x.frame = none → Completes (.frameSend p) s s ∧ Completes (.frameSent p) s s) ∧
    (s.bhEn p = false ∨ x.link = false → Completes (.frameReceive p r) s s) ∧
    (s.bhEn p = true → x.link = true → r.pcsError = false → fcsGood l = true →
      (l.length < 64 → Completes (.frameReceive p r) s (s.bhCount p.idx 6 1)) ∧
      (64 ≤ l.length → s.maxLen p < l.length → Completes (.frameReceive p r) s (s.bhCount p.idx 5 1)) ∧
      (64 ≤ l.length → l.length ≤ s.maxLen p → r.bufferFull = true →
        Completes (.frameReceive p r) s (((s.bhCount p.idx 9 1).occurV 0x88 0).bhTold p 4)) ∧
      (64 ≤ l.length → l.length ≤ s.maxLen p → r.bufferFull = false → be16 l 12 ≠ 0x8808 → s.daAccepted p (mac48 l 0) = false →
        Completes (.frameReceive p r) s (s.bhCount p.idx 10 1)) ∧
      (∀ cell u, 64 ≤ l.length → l.length ≤ s.maxLen p → r.bufferFull = false → be16 l 12 ≠ 0x8808 →
        s.daAccepted p (mac48 l 0) = true → mac48 l 0 ≠ s.prbDa →
        let v := vlanTags l
        let body := l.take (l.length - 4)
        let rq := s.rxQueue p body v.1
        be16 l v.1 ≠ 0xF1C1 → l3Check body v.1 ≠ 2 → l4Check body v.1 ≠ 2 → s.yardOn = true →
        s.allocCells 1 (cellsFor l.length) = (.ok, cell, u) →
        let t := u.fillChain cell l
        let q := fld (s.reg (aBH p (0x10 + rq))) 17 0
        t.isReport q = true → (t.wordQ q).sound = true → (t.wordQ q).used + 8 ≤ t.region q →
        Completes (.frameReceive p r) s
          (((t.putPacket q (rxReport p none (l3Check body v.1) (l4Check body v.1) rq v.2.length cell l.length r.trx)).2.bhCount p.idx 2 1).bhCount
            p.idx 3 l.length))) ∧
    (s.bhEn p = true → s.probeDue p = true → x.frame = none →
      ∃ t, Completes (.probeSend p) s t ∧ t.out = .octets (s.probeFrame p) ∧ (t.port p).prbSeq = x.prbSeq + 1 ∧
        (t.port p).probeAt = x.probeAt + 30000000 ∧ t.counter p.idx 15 = min (s.counter p.idx 15 + 1) (2 ^ 48 - 1)) ∧
    (s.on (dBH p) = true → fld wd0 11 0 ≠ 0 → z.stop ≠ none → z.since + fld wd0 11 0 * 300000 ≤ s.now →
      Completes (.pauseWatchdog p k) s
        ((((s.setPause p (pauseKey k) { z with stop := none, ignore := some (s.now + fld wd0 23 12 * 3000000) }).bhCount p.idx 14 1).raise
          (512 + 16 * p.idx + 3)).occurV 0x87 0)) ∧
    (∀ t0, z.stop = some t0 → t0 ≤ s.now → Completes (.pauseExpiry p k) s (s.setPause p (pauseKey k) { z with stop := none })) ∧
    (∀ t0, z.ignore = some t0 → t0 ≤ s.now → Completes (.pauseIgnoreEnd p k) s (s.setPause p (pauseKey k) { z with ignore := none })) ∧
    (z.stop = none → Completes (.pauseExpiry p k) s s ∧ Completes (.pauseWatchdog p k) s s) ∧
    (s.fcEnabled p = true → x.fcOn = true → x.fcAt + s.bitCycles p (256 * s.fcQuanta p) ≤ s.now →
      Completes (.flowControlRepeat p) s
        { (s.setPort p { x with fcAt := s.now }).bhCount p.idx 13 1 with out := .octets (s.fcFrame p (s.fcQuanta p)) }) ∧
    (s.bhEn p = true → fld (s.reg (aBH p 0xB)) 7 0 = 0 →
      ∃ t, Completes (.pcsCodeError p) s t ∧ (t.port p).errCnt = min (x.errCnt + 1) 255 ∧ (t.port p).path = x.path ∧
        t.counter p.idx 7 = min (s.counter p.idx 7 + 1) (2 ^ 48 - 1))

/-- R437, R454, R455, R460–R462, R466, R470, Table 10-6: the path states of the ports, their intervals, swap, hold and counters.
Where the spec is silent it follows log 28, the model's choice. -/
def Obligations.BackhaulPaths : Prop :=
  ∀ (s : State) (src : Src) (p : Band) (v : Word) (speed : Fin 3) (why : LinkFault) (i : Nat) (t0 : Nat),
    let x := s.port p
    let ctl := aBH p 0
    let bad := { x.nextInterval with count := 0, errCnt := 0 }
    let per := max (fld (s.reg (aBH p 0xB)) 15 8) 1 * 30000000
    let due := s.bhEn p = true ∧ x.intAt + 30000000 ≤ s.now
    (due → x.path = .proving → s.intervalPasses p = true → x.count < 98 → s.path p.other ≠ .proving →
      ∃ t, Completes (.probeInterval p) s t ∧ (t.port p).count = x.count + 1 ∧ t.path p = .proving ∧
        (t.port p).intAt = x.intAt + 30000000) ∧
    (due → x.path = .proving → s.intervalPasses p = false →
      ∃ t, Completes (.probeInterval p) s t ∧ (t.port p).count = 0 ∧ (t.port p).errCnt = bad.errCnt ∧ t.path p = .proving ∧
        t.counter p.idx 17 = min (s.counter p.idx 17 + 1) (2 ^ 48 - 1)) ∧
    (x.path = .off → Completes (.probeInterval p) s s) ∧
    (s.bhEn p = true →
      (x.path = .down → ∃ t, Completes (.linkUp p speed) s t ∧ t.path p = .proving ∧ (t.port p).link = true ∧ (t.port p).count = 0 ∧
        (t.port p).errCnt = 0 ∧ (t.port p).speed.toNat = speed.val) ∧
      (x.path ≠ .down → Completes (.linkUp p speed) s (s.modPort p (fun y =>
        { y with link := true, lf := false, rf := false, speed := BitVec.ofNat 2 speed.val }))) ∧
      (x.path = .off ∨ x.path = .down → Completes (.linkLoss p why) s (s.modPort p (fun y =>
        { y with link := false, linkBroke := true, lf := decide (why = .localFault), rf := decide (why = .remoteFault) }))) ∧
      (x.path = .proving ∨ x.path = .standby ∨ x.path = .active →
        ∃ t, Completes (.linkLoss p why) s t ∧ t.path p = .down ∧ (t.port p).link = false ∧
          Fin.ofNat 1024 (513 + 16 * p.idx) ∈ t.dp.inflight ∧
          (x.path = .active → s.path p.other = .standby → t.path p.other = .active))) ∧
    (s.bhEn p = false → Completes (.linkUp p speed) s s ∧ Completes (.linkLoss p why) s s) ∧
    (s.bh.islAt = some t0 → s.on dYARD = true → t0 + max (fld (s.reg (aBHC 3)) 15 0) 1 * 3000000 ≤ s.now →
      ((∀ e ∈ s.yd.wagons, s.qEgr e.1 ≠ 0x23) → Completes .holdExpiry s s) ∧
      (∀ q w, s.yd.wagons = [(q, [w])] → s.qEgr q = 0x23 → w.w2.toNat % 4 < 2 → w.copy = none →
        ∃ t, Completes .holdExpiry s t ∧ t.wagonsOf q = [] ∧ t.counter 2 4 = min (s.counter 2 4 + 1) (2 ^ 48 - 1))) ∧
    (s.bh.islAt = none → Completes .holdExpiry s s) ∧
    (Allowed s src false (aBHC 0) →
      (s.path .a = .active → s.path .b = .standby → (s.port .a).frame = none →
        ∃ t, Completes (.swap src) s t ∧ t.path .a = .standby ∧ t.path .b = .active ∧ Fin.ofNat 1024 548 ∈ t.dp.inflight ∧
          t.counter 2 5 = min (s.counter 2 5 + 1) (2 ^ 48 - 1) ∧ t.lastStatus = .ok) ∧
      (s.path .a ≠ .active → s.path .b ≠ .active → Completes (.swap src) s (s.answered src (aBHC 0) .state))) ∧
    (0 < x.errCnt → x.decayAt + per ≤ s.now →
        Completes (.errcntDecay p) s (s.setPort p { x with errCnt := x.errCnt - 1, decayAt := x.decayAt + per })) ∧
    (x.errCnt = 0 → Completes (.errcntDecay p) s s) ∧
    (Allowed s src false ctl →
      ((s.reg ctl).getLsbD 23 = true → fld (s.reg ctl) 22 20 ≠ fld v 22 20 →
        Completes (.bhCtlWrite src p v) s (s.answered src ctl .state)) ∧
      ((s.reg ctl).getLsbD 23 = false → v.getLsbD 23 = true →
        ∃ t, Completes (.bhCtlWrite src p v) s t ∧ t.path p = .down ∧ t.lastStatus = .ok) ∧
      ((s.reg ctl).getLsbD 23 = true → v.getLsbD 23 = false → fld (s.reg ctl) 22 20 = fld v 22 20 →
        ∃ t, Completes (.bhCtlWrite src p v) s t ∧ t.path p = .off ∧ t.lastStatus = .ok) ∧
      ((s.reg ctl).getLsbD 23 = false → v.getLsbD 23 = false →
        Completes (.bhCtlWrite src p v) s ((s.plainWrite ctl v).answered src ctl .ok))) ∧
    (Allowed s src true (aBH p (0x101 + 2 * (i % 21))) →
      ∃ t, Completes (.bhCntLoRead src (some p) i) s t ∧ t.readback = wd (s.counter p.idx (i % 21) % 2 ^ 24) ∧
        t.counter p.idx (i % 21) = 0 ∧ mapGet zeroWord t.bh.holds (65 * p.idx + readerOf src) = wd (s.counter p.idx (i % 21) / 2 ^ 24)) ∧
    (Allowed s src true (aBHC (0x101 + 2 * (i % 6))) →
      ∃ t, Completes (.bhCntLoRead src none i) s t ∧ t.readback = wd (s.counter 2 (i % 6) % 2 ^ 24) ∧ t.counter 2 (i % 6) = 0) ∧
    (s.on dYARD = true → s.bh.skewAt + 3000000 ≤ s.now → s.carries .a = false →
      Completes .prSkewSample s ((s.modBh (fun y => { y with skewAt := s.now })).occurV 0x8F 0))

/-- R482, R484, R485, R487, R488, R490, R493, R496–R499, Table 11-8: the commands on key slots and blobs: LOAD, EVICT,
REVOKE, REWRAP, and the arrival of a blob, a write-back and a tombstone.
Where the spec is silent it follows logs 33 and 35, the model's choice. -/
def Obligations.VaultKeys : Prop :=
  ∀ (s : State) (w : Fin 9) (slot : Nat),
    let at_ := fun (op : Nat) => s.winBusy w = true ∧ s.winOp w = op ∧ s.on dVAULT = true
    let k := s.winSlot w
    let i := s.winBlob w
    let x := s.keySlot k
    let y := s.keySlot slot
    let pin := bit (s.winArg w) 13
    let done := fun (u : State) (st : Status) => u.kvDone w { status := st }
    let others := fun (t : State) (n : Nat) => ∀ m, m ≠ n → t.keySlot m = s.keySlot m
    (at_ 1 →
      (s.blobCnt ≤ i → Completes (.load w) s (done s .badarg)) ∧
      (∀ st, i < s.blobCnt → s.rootCheck = some st → Completes (.load w) s (done s st)) ∧
      (i < s.blobCnt → s.rootCheck = none →
        (s.on dDRAM = false ∨ s.elsewhere i k = true → Completes (.load w) s (done (s.occurV 0x91 0) .state)) ∧
        (s.on dDRAM = true → s.elsewhere i k = false →
          (x.state = .empty → ∃ t : State, Completes (.load w) s t ∧ (t.keySlot k).state = .loading i ∧ (t.keySlot k).window = some w ∧
            (t.keySlot k).pinNext = pin ∧ others t k ∧ t.reg (aWin w 1) = s.reg (aWin w 1)) ∧
          (x.state = .loading i → Completes (.load w) s s) ∧
          (x.state = .resident i → x.ecc = false → Completes (.load w) s
            (((s.setKeySlot k { x with pin := x.pin || pin }).count (aKV 0x250)).kvDone w { status := .ok, detail := 1 })) ∧
          (x.state = .resident i → x.ecc = true → Completes (.load w) s (done (s.eccSlot k) .fault)) ∧
          (∀ j, x.state = .resident j → i ≠ j → x.ecc = false →
            (x.hold = true ∨ x.pin = true → Completes (.load w) s (done (s.occurV 0x91 0) .busy)) ∧
            (x.hold = false → x.pin = false → ∃ t : State, Completes (.load w) s t ∧ (t.keySlot k).state = .loading i ∧ others t k ∧
              t.kv.wb = s.kv.wb ++ (if x.dirty then [⟨j, k, x.whole, false⟩] else [])))))) ∧
    (at_ 2 →
      (x.state = .empty → Completes (.evict w) s (done s .ok)) ∧
      (∀ j, x.state = .resident j →
        (x.hold = true → Completes (.evict w) s (done s .busy)) ∧
        (x.hold = false → ∃ t : State, Completes (.evict w) s (done t .ok) ∧ t.keySlot k = {} ∧ others t k ∧
          t.kv.wb = s.kv.wb ++ (if x.dirty then [⟨j, k, x.whole, false⟩] else [])))) ∧
    (at_ 4 → i < s.blobCnt → s.rootCheck = none → s.on dDRAM = true → s.inFlight i = false →
      (∀ n, s.slotOf i = some n → (s.keySlot n).state = .resident i → (s.keySlot n).ecc = false →
        ∃ t : State, Completes (.revoke w) s t ∧ (t.keySlot n).state = .revoking i ∧ (t.keySlot n).window = some w ∧
          (t.keySlot n).shareA = [] ∧ (t.keySlot n).shareB = [] ∧ others t n) ∧
      (∀ r, s.slotOf i = none → s.readBlob i = .key r → Completes (.revoke w) s ((s.putBlob i r.tomb true).kvDone w
        { status := .ok, detail := s.waitDetail w, out := r.counters })) ∧
      (s.slotOf i = none → s.readBlob i = .none → Completes (.revoke w) s (done s .absent)) ∧
      (∀ r, s.slotOf i = none → s.readBlob i = .tomb r → Completes (.revoke w) s (done s .denied)) ∧
      (s.slotOf i = none → s.readBlob i = .bad → Completes (.revoke w) s (done ((s.count (aKV 0x253)).occurV 0x92 0) .fault))) ∧
    (at_ 4 → i < s.blobCnt → s.rootCheck = none → s.on dDRAM = true → s.inFlight i = true →
      mapGet (fun _ => false) s.kv.waited w = false →
      ∃ t : State, Completes (.revoke w) s t ∧ t.reg (aKV 0x25A) = satInc 24 (s.reg (aKV 0x25A)) ∧ t.waitDetail w = 3 ∧
        t.reg (aWin w 1) = s.reg (aWin w 1)) ∧
    (at_ 3 → i < s.blobCnt → s.rootCheck = none → s.on dDRAM = true → s.inFlight i = false → s.slotOf i = none →
      ∀ r, s.readBlob i = .key r → Completes (.rewrap w) s
        ((s.putBlob i { r with dest := r.dest &&& s.argDest w } false).kvDone w { status := .ok, detail := s.waitDetail w })) ∧
    (∀ j, s.on dVAULT = true → y.state = .loading j →
      (s.inFlight j = true ∨ s.canLoad = false → Completes (.blobLoaded slot) s s) ∧
      (s.inFlight j = false → s.canLoad = true → y.holdQ = [] →
        (s.readBlob j = .none → ∀ v, y.window = some v → ∃ u : State, Completes (.blobLoaded slot) s u ∧
          (u.keySlot slot).state = .empty ∧ others u slot ∧ u.reg (aWin v 1) = wd (stCode .absent * 2 ^ 19)) ∧
        (∀ r v, s.readBlob j = .key r → y.window = some v → ∃ u : State, Completes (.blobLoaded slot) s u ∧
          (u.keySlot slot).state = .resident j ∧ (u.keySlot slot).octets = r.key ∧ (u.keySlot slot).pin = y.pinNext ∧
          (u.keySlot slot).info = { r with key := [] } ∧ others u slot ∧
          u.reg (aWin v 1) = wd (stCode .ok * 2 ^ 19 + 2 * 2 ^ 8) ∧
          u.kv.wb = s.kv.wb ++ (if r.typ = 1 then
            [⟨j, slot, { r with tx := BitVec.ofNat 32 (min (r.tx.toNat + s.leaseLen) (2 ^ 32 - 1)) }, true⟩] else [])))) ∧
    (∀ b r, s.canLoad = true → s.kv.wb = b :: r → (s.keySlot b.slot).state = .empty →
      ∃ u : State, Completes .writeBackDone s (u.count (aKV 0x252)) ∧ u.kv.wb = r ∧ u.kv.slots = s.kv.slots ∧
        u = (s.modKv (fun v => { v with wb := r })).putBlob b.blob b.info false) ∧
    (s.kv.wb = [] → Completes .writeBackDone s s) ∧
    (∀ j v, s.canLoad = true → y.state = .revoking j → y.holdQ = [] → y.window = some v →
      ∃ t : State, Completes (.tombstoneWritten slot) s t ∧ t.keySlot slot = {} ∧ others t slot ∧
        t.dram = (s.putBlob j y.info.tomb true).dram ∧ t.reg (aWin v 1) = wd (stCode .ok * 2 ^ 19 + s.waitDetail v * 2 ^ 8)) ∧
    (∀ j, y.state = .resident j → Completes (.tombstoneWritten slot) s s ∧ Completes (.blobLoaded slot) s s)

/-- R477, R478, R500, R505–R511, Table 11-11: the root, the entropy states, the random requests, the self-test and the
re-masking of the vault.
Where the spec is silent it follows log 33, the model's choice. -/
def Obligations.VaultEntropy : Prop :=
  ∀ (s : State) (w : Fin 9) (pass : Bool) (osc : Fin 4) (slot : Nat),
    let at_ := fun (op : Nat) => s.winBusy w = true ∧ s.winOp w = op ∧ s.on dVAULT = true
    let f := s.freeOctets 32
    let g := s.freeOctets (s.winSlen w)
    let drawn := fun (u : State) => u.modKv (fun v => { v with drbgReqs := s.kv.drbgReqs + 1 })
    let up := s.on dVAULT = true
    let x := s.keySlot slot
    let m := s.freeOctets x.octets.length
    (at_ 0x10 →
      (s.kv.ent = .ok → s.reseedDue = false → Completes (.challenge w) s
        (((drawn f.2).modKv (fun v => { v with
          challenges := mapPut (fun _ => {}) v.challenges w { octets := f.1, used := false, since := s.now } })).kvDone w
          { status := .ok, out := packOctets f.1 })) ∧
      (s.kv.ent = .ok → s.reseedDue = true → Completes (.challenge w) s s) ∧
      (s.kv.ent = .init ∨ s.kv.ent = .restart → Completes (.challenge w) s s) ∧
      (s.kv.ent = .failed → ∃ t : State, Completes (.challenge w) s (t.kvDone w { status := .noentropy }) ∧
        t.reg (aKV 0x258) = satInc 24 (s.reg (aKV 0x258)) ∧ t.hm.pending = s.hm.pending ++ [(0x98, 0)] ∧
        t.dp.inflight = s.dp.inflight ++ (if s.kv.told586 then [] else [586]))) ∧
    (at_ 0x0F →
      (inMain (s.winDst w) (s.winSlen w) = false → Completes (.random w) s (s.kvDone w { status := .badarg })) ∧
      (inMain (s.winDst w) (s.winSlen w) = true → s.kv.ent = .ok → s.reseedDue = false →
        Completes (.random w) s ((drawn g.2).kvDone w { status := .ok, dst := some g.1 }))) ∧
    (at_ 5 → ∀ l,
      let t := s.argType w
      let d := s.argDest w
      let e := s.freeOctets 56
      (destFits t d = false → Completes (.genkey w) s (s.kvDone w { status := .badarg })) ∧
      (destFits t d = true → s.winBlob w < s.blobCnt → s.rootCheck = none → s.on dDRAM = true → s.kv.ent = .ok →
        s.reseedDue = false → (if t = 1 then s.srcOctets w 9 = some l else l = []) →
        Completes (.genkey w) s (((drawn e.2).newKey (s.winBlob w)
          { typ := BitVec.ofNat 4 t, dest := d, key := keyFrom t e.1, eui := BitVec.ofNat 64 (octetsToNat (l.take 8))
            index := l.getD 8 0 }).kvDone w { status := .ok }))) ∧
    (at_ 0x16 →
      (s.pw.mode ≠ .maintenance → Completes (.selftest w pass) s (s.kvDone w { status := .state })) ∧
      (s.pw.mode = .maintenance → s.kv.ent = .failed → ∃ t : State,
        Completes (.selftest w pass) s (t.kvDone w { status := if pass then .ok else .fault }) ∧
        t.kv.ent = (if pass then .ok else .failed) ∧ t.kv.failcnt = (if pass then 0 else s.kv.failcnt) ∧
        t.dp.inflight = s.dp.inflight ++ [593])) ∧
    (up → s.kv.ready = false → s.kv.rootf = false → s.kv.life ≠ 0 → s.kv.life ≠ 5 →
      (s.kv.helper = true → Completes (.rootReconstruction true) s (s.modKv (fun v => { v with ready := true }))) ∧
      (s.kv.helper = false ∨ pass = false → Completes (.rootReconstruction pass) s
        (((s.modKv (fun v => { v with rootf := true })).raise 588).occurV 0x9C 0))) ∧
    (s.kv.life = 0 ∨ s.kv.life = 5 ∨ s.kv.rootf = true → Completes (.rootReconstruction pass) s s) ∧
    (up → s.kv.ent = .init ∨ s.kv.ent = .restart →
      Completes (.startupTestDone true) s (s.modKv (fun v => { v with ent := .ok, entAt := s.now, drbgReqs := 0, drbgAt := s.now })) ∧
      (s.kv.failcnt < 2 → ∃ t : State, Completes (.startupTestDone false) s t ∧ t.kv.failcnt = s.kv.failcnt + 1 ∧ t.kv.ent = s.kv.ent ∧
        t.dp = s.dp) ∧
      (s.kv.failcnt = 2 → ∃ t : State, Completes (.startupTestDone false) s t ∧ t.kv.ent = .failed ∧
        t.dp.inflight = s.dp.inflight ++ [585] ∧ t.hm.pending = s.hm.pending ++ [(0x97, 0)])) ∧
    (s.kv.ent = .ok ∨ s.kv.ent = .failed → Completes (.startupTestDone pass) s s) ∧
    (up → s.kv.ent = .ok → s.kv.failcnt < 2 → ∃ t : State, Completes (.healthFailure osc) s t ∧ t.kv.ent = .restart ∧
      t.kv.failcnt = s.kv.failcnt + 1 ∧ t.dp.inflight = s.dp.inflight ++ [585] ∧ t.hm.pending = s.hm.pending ++ [(0x96, 0)]) ∧
    (up → s.kv.ent = .failed → ∃ t : State, Completes (.healthFailure osc) s t ∧ t.kv = s.kv ∧ t.dp = s.dp) ∧
    (up → s.kv.ent = .ok →
      (s.kv.entAt + 3000000000 ≤ s.now → Completes .failcntClear s (s.modKv (fun v => { v with failcnt := 0 }))) ∧
      (s.reseedEarly = true → Completes .reseed s (s.modKv (fun v => { v with drbgReqs := 0, drbgAt := s.now }))) ∧
      (s.now < s.kv.entAt + 3000000000 → Completes .failcntClear s s)) ∧
    (s.kv.ent ≠ .ok → Completes .failcntClear s s ∧ Completes .reseed s s) ∧
    (s.reseedEarly = true ↔ 7 * s.reseedLimit ≤ 8 * s.kv.drbgReqs ∨ s.kv.drbgAt + 525 * 3000000000 ≤ s.now) ∧
    (up → slot = s.kv.remaskNext → ∀ j, x.state = .resident j →
      ∃ t : State, Completes (.remask slot) s t ∧ (t.keySlot slot).octets = x.octets ∧ (t.keySlot slot).shareA = m.1 ∧
        t.kv.remaskNext = (slot + 1) % 16384 ∧ ∀ n, n ≠ slot → t.keySlot n = s.keySlot n) ∧
    (slot ≠ s.kv.remaskNext → Completes (.remask slot) s s)

/-- R472–R476, R485, R502, R503, R512–R520, Table 11-13: the requests of the vault that use keys or write digests.
Where the spec is silent it follows logs 32, 33 and 34, the model's choice. -/
def Obligations.VaultServices : Prop :=
  ∀ (s : State) (w : Fin 9) (l : List Byte),
    let at_ := fun (op : Nat) => s.winBusy w = true ∧ s.winOp w = op ∧ s.on dVAULT = true
    let k := s.winSlot w
    let x := s.keySlot k
    let done := fun (u : State) (st : Status) => u.kvDone w { status := st }
    let n := s.winAux w
    let i := s.winBlob w
    let key := fun (d : Nat) (j : Nat) => x.state = .resident j ∧ x.ecc = false ∧ x.info.dest.getLsbD d = true
    let give := fun (u : State) (out : List Word) (r : List Byte) => u.kvDone w { status := .ok, out := out, dst := some r }
    let room := fun (r : List Byte) => inMain (s.winDst w) r.length = true
    let ready := s.blobCnt > i ∧ s.rootCheck = none ∧ s.on dDRAM = true
    (at_ 0x0A → (s.src w = some l → Completes (.hash w) s (s.kvDone w { status := .ok, out := packOctets (sha384 l) })) ∧
      (s.src w = none → Completes (.hash w) s (done s .badarg))) ∧
    (at_ 9 → s.src w = some l →
      (∀ j, key 0 j → Completes (.hmac w) s (s.kvDone w { status := .ok, out := packOctets (hmac384 x.octets l) })) ∧
      (x.state = .empty → Completes (.hmac w) s (done s .absent)) ∧
      (∀ j, x.state = .resident j → x.ecc = true → ∃ t : State, Completes (.hmac w) s (done t .fault) ∧ (t.keySlot k).state = .empty ∧
        t.reg (aKV 0x25D) = satInc 24 (s.reg (aKV 0x25D)) ∧ t.dp.inflight = s.dp.inflight ++ [592] ∧
        t.hm.pending = s.hm.pending ++ [(0x9F, 0)] ∧ t.kv.wb = s.kv.wb) ∧
      (∀ j, x.state = .resident j → x.ecc = false → x.info.dest.getLsbD 0 = false → Completes (.hmac w) s (done s .denied)) ∧
      (∀ j, x.state = .loading j ∨ x.state = .revoking j → Completes (.hmac w) s s)) ∧
    (at_ 0x13 → s.src w = some l → Completes (.extend w) s
      ((s.modKv (fun v => { v with digest := sha384 (s.kv.digest ++ l) })).kvDone w { status := .ok })) ∧
    (at_ 0x14 → s.srcOctets w 48 = some l →
      (n < 12 → w = 6 → mapGet (fun _ => []) s.kv.meas n = [] → ∃ t : State, Completes (.measure w) s (done t .ok) ∧
        t.measured n = padTo 48 l ∧ ∀ c, c ≠ n → t.measured c = s.measured c) ∧
      (n < 12 → w = 6 → mapGet (fun _ => []) s.kv.meas n ≠ [] → Completes (.measure w) s (done s .state)) ∧
      (n < 12 → w ≠ 6 → Completes (.measure w) s (done s .denied)) ∧
      (12 ≤ n → Completes (.measure w) s (done s .badarg))) ∧
    (at_ 0x0B → s.src w = some l → bit (s.winArg w) 11 = false → 12 + n ≤ l.length → ∀ j, key 4 j →
      let c := gcmSeal x.octets (l.take 12) ((l.drop 12).take n) (l.drop (12 + n))
      room (c.1 ++ c.2) → Completes (.gcmseal w) s (give s (packOctets (l.take 12)) (c.1 ++ c.2))) ∧
    (at_ 0x0C → s.src w = some l →
      (l.length < 28 + n → Completes (.gcmopen w) s (done s .badarg)) ∧
      (28 + n ≤ l.length → ∀ j, key 4 j →
        let c := l.drop (12 + n)
        let p := gcmOpen x.octets (l.take 12) ((l.drop 12).take n) (c.take (c.length - 16)) (c.drop (c.length - 16))
        (p = none → Completes (.gcmopen w) s (done s .fault)) ∧
        (∀ q, p = some q → room q → Completes (.gcmopen w) s (give s [] q)))) ∧
    (at_ 0x0D → s.src w = some l → (∀ j, key 2 j → x.info.typ = 4 → s.kv.ent = .ok → s.reseedDue = false →
      room (mlSig x.octets [] l s.take.1) → Completes (.sign w) s
        (give (s.take.2.modKv (fun v => { v with drbgReqs := s.kv.drbgReqs + 1 })) [] (mlSig x.octets [] l s.take.1)))) ∧
    (s.on dVAULT = true → s.winBusy w = true → s.winOp w = 0x11 →
      (mapGet (fun _ => 0) s.kv.begun w + 300000000 ≤ s.now →
        Completes (.signingTimeout w) s (done (s.occurV 0x98 0) .timeout)) ∧
      (s.now < mapGet (fun _ => 0) s.kv.begun w + 300000000 → Completes (.signingTimeout w) s s)) ∧
    (at_ 0x0E → s.argAlg w = 1 → s.src w = some l → 193 ≤ l.length →
      let good := ecVerify (l.take 97) (sha384 (l.drop 193)) ((l.drop 97).take 96)
      (fld (s.winArg w) 8 7 = 0 → Completes (.verify w) s (done s (if good then .ok else .fault))) ∧
      (fld (s.winArg w) 8 7 = 1 → l.take 97 ≠ vendorKeys.1 → Completes (.verify w) s (done s .denied))) ∧
    (at_ 0x11 → s.srcOctets w 32 = some l → s.rootCheck = none → s.kv.ent = .ok → s.reseedDue = false →
      s.kv.digest.length = 48 → inMain (s.winDst w) 4193 = true →
      ∃ (u : State) (sig : List Byte), Completes (.attest w) s (give u [] (s.statement l ++ sig)) ∧ (s.statement l).length = 788 ∧
        sig.length = 3405 ∧ u.kv.drbgReqs = s.kv.drbgReqs + 1 ∧ u.regs = s.regs ∧ u.main = s.main) ∧
    (at_ 0x12 → s.rootCheck = none → s.argAlg w = 2 → inMain (s.winDst w) 1952 = true →
      Completes (.attpub w) s (give s [] (mlPub s.attMl))) ∧
    (at_ 0x12 → ∀ st, s.rootCheck = some st → Completes (.attpub w) s (done s st)) ∧
    (at_ 6 →
      (destFits (s.argType w) (s.argDest w) = false → Completes (.kdf w) s (done s .badarg)) ∧
      (s.argType w = 5 → destFits 5 (s.argDest w) = true → ready → s.src w = some l → ∀ j, key 3 j →
        Completes (.kdf w) s (done ((s.freeOctets 9).2.newKey i
          { typ := 5, dest := s.argDest w, key := (kdf384 x.octets Config.kdfLabel l 384).take 48 }) .ok))) ∧
    (at_ 8 → ready → s.srcOctets w 96 = some l → ∀ j, key 1 j →
      let b := packOctets l
      (fld (b.getD 0 0) 23 20 = 0 → Completes (.importKey w) s (done s .absent)) ∧
      (b.getD 0 0 = blobW0 (blobTyp b) (blobDest b) 3 0 → (b.getD 1 0).toNat ≠ fld (s.reg (aKV 0x24C)) 13 0 →
        Completes (.importKey w) s (done s .denied)) ∧
      (b.getD 0 0 = blobW0 (blobTyp b) (blobDest b) 3 0 → (b.getD 1 0).toNat = fld (s.reg (aKV 0x24C)) 13 0 →
        (openBlob x.octets b = none → Completes (.importKey w) s (done ((s.count (aKV 0x253)).occurV 0x92 0) .fault)) ∧
        (∀ p, openBlob x.octets b = some p → destFits (blobTyp b).toNat (blobDest b) = true →
          Completes (.importKey w) s (done (s.newKey i (keyOfPlain (blobTyp b) (blobDest b) p)) .ok)))) ∧
    (at_ 7 → s.blobCnt ≤ n → Completes (.exportKey w) s (done s .badarg)) ∧
    (at_ 7 → n < s.blobCnt → s.rootCheck = none → s.on dDRAM = true → s.slotOf n = none → ∀ j, key 1 j →
      (s.readBlob n = .none → Completes (.exportKey w) s (done s .absent)) ∧
      (∀ r, s.readBlob n = .key r → ∃ (u : State) (b : List Word),
        (room (b.flatMap octets) → Completes (.exportKey w) s (give u [] (b.flatMap octets))) ∧
        b.getD 0 0 = blobW0 r.typ r.dest 3 0 ∧ b.getD 1 0 = wd (fld (s.winArg w) 13 0) ∧ u.dram = s.dram)) ∧
    (at_ 0x15 →
      (lifeStep s.kv.life.val (fld (s.winArg w) 6 4) = none → Completes (.lcadv w) s (done s .state)) ∧
      (s.kv.life = 0 → fld (s.winArg w) 6 4 = 1 → s.on dMRAM = true → ∃ t : State, Completes (.lcadv w) s t ∧ t.kv.fManuf = true ∧
        t.kv.helper = true ∧ t.kv.slots = [] ∧ t.kv.fEpoch = s.kv.fEpoch)) ∧
    (at_ 0x17 → s.src w = some l → ∀ j, key 5 j →
      (j ≠ i → Completes (.ccm w) s (done s .absent)) ∧
      (j = i → bit (s.winArg w) 12 = true → ∀ h a, parseMac true l = some h → h.aux = some a → a.fits x.info.index.toNat = true →
        let c := a.counter.getD 0
        let p := openFrame x.octets x.info.eui.toNat h a l
        (c < x.info.rx.toNat ∨ c = 0xFFFFFFFF → Completes (.ccm w) s (done s .denied)) ∧
        (x.info.rx.toNat ≤ c → c ≠ 0xFFFFFFFF → p = none → Completes (.ccm w) s (done s .fault)) ∧
        (∀ q, x.info.rx.toNat ≤ c → c < 0xFFFFFFFF → p = some q → room q →
          ∃ t : State, Completes (.ccm w) s (give t [] q) ∧ (t.keySlot k).info.rx.toNat = c + 1 ∧ (t.keySlot k).dirty = true))) ∧
    (∀ (j : SecJob) r, s.canLoad = true → s.on dTABLES = true → s.on dYARD = true → s.kv.jobs = j :: r →
      parseMac true (noFcs (s.chainOctets j.cell 0 j.len)) = none → Completes .receiveSecurityJob s
        ((s.modKv (fun v => { v with jobs := r })).post (fld (s.reg (aKV 0x244)) 17 0)
          [wd (stCode .fault * 2 ^ 20 + 7 * 2 ^ 16), wd (j.cell % 2 ^ 18 * 2 ^ 6), 0x3FFFF, 0, wd (j.len % 2 ^ 11)])) ∧
    (s.kv.jobs = [] → Completes .receiveSecurityJob s s)

/-- R534–R540, R544, R546, R547, R550, R553, Tables 12-7 to 12-9: the commands of field update, the confirm window and the
read-back of the image store.
Where the spec is silent it follows log 40, the model's choice. -/
def Obligations.UpdateCommands : Prop :=
  ∀ (s : State) (p : Fin 2) (rest : List (Fin 2)) (good : Bool) (src : Src),
    let at_ := fun (op : Nat) =>
      s.upBusy p = true ∧ fld (s.reg (aUPort p 0)) 23 18 = op ∧ s.up.order = p :: rest ∧ s.on dMRAM = true
    let run := fun (op : Nat) => at_ op ∧ s.upMode p op = true
    let v := s.modUp (fun u => { u with order := rest })
    let ses := fun (x : Session) => v.modUp (fun u => { u with session := x })
    let m := BitVec.ofNat 13 (fld (s.reg (aUPort p 3)) 12 0)
    let n := fld (s.reg (aUPort p 3)) 3 0
    let a := (s.reg (aUPort p 4)).toNat
    let l := s.mainOctets a 1036
    let r := oct l 3
    let i := be l 4 2
    let count := be l 6 2
    let b := slotBlock r i
    let d := (s.reg (aUP 0x40)).toNat
    (run 1 →
      (s.up.session ≠ .none → Completes (.openSession p) s (v.upDone p .state 0)) ∧
      (s.up.session = .none → m = 0 → Completes (.openSession p) s (v.upDone p .badarg 0)) ∧
      (s.up.session = .none → m ≠ 0 → Completes (.openSession p) s ((v.modUp (fun u =>
        { u with session := .opened, sid := s.reg (aUPort p 2), mask := m, counts := [], blocks := [] })).upDone p .ok 0))) ∧
    (run 3 → (s.up.session = .none → Completes (.abort p) s (v.upDone p .state 0)) ∧
      (s.up.session ≠ .none → Completes (.abort p) s ((ses .none).upDone p .ok 0))) ∧
    (run 4 → (s.up.session = .complete → s.up.boot = .steady → Completes (.arm p) s ((ses .armed).upDone p .ok 0)) ∧
      (s.up.session ≠ .complete ∨ s.up.boot ≠ .steady → Completes (.arm p) s (v.upDone p .state 0))) ∧
    (run 5 → (s.up.session = .armed → Completes (.disarm p) s ((ses .complete).upDone p .ok 0)) ∧
      (s.up.session ≠ .armed → Completes (.disarm p) s (v.upDone p .state 0))) ∧
    (run 6 →
      (s.up.boot = .trial → ∃ t : State, Completes (.confirm p) s (t.upDone p .ok 0) ∧ t.up.boot = .steady ∧ t.up.attempts = 0 ∧
        t.up.ctimeout = false ∧ t.up.confAt = none ∧ t.mram = s.mram ∧
        (mRaise (s.manifest slotA) = false → t.up.svnMin = s.up.svnMin) ∧
        (mRaise (s.manifest slotA) = true → mSvn (s.manifest slotA) < 2 ^ 32 →
          t.up.svnMin.toNat = max (mSvn (s.manifest slotA)) s.up.svnMin.toNat) ∧
        t.hm.pending = s.hm.pending ++ [(0xA9, wd s.up.attempts), (0xA3, 0)]) ∧
      (s.up.boot ≠ .trial → Completes (.confirm p) s (v.upDone p .state 0))) ∧
    (at_ 6 → s.pw.mode = .maintenance → Completes (.confirm p) s (v.upDone p .state 0)) ∧
    (run 7 → (s.up.fromP = true → s.up.boot = .steady → Completes (.rollback p) s
        (((v.modUp (fun u => { u with boot := .restore })).occurV 0xAE 0).upDone p .ok 0)) ∧
      (s.up.fromP = false ∨ s.up.boot ≠ .steady → Completes (.rollback p) s (v.upDone p .state 0))) ∧
    (at_ 7 → s.pw.mode = .service → Completes (.rollback p) s (v.upDone p .state 0)) ∧
    (run 8 →
      (s.up.session = .none ∨ s.up.session = .armed → Completes (.clrreg p) s (v.upDone p .state 0)) ∧
      (s.up.session ≠ .none → s.up.session ≠ .armed → 12 < n → Completes (.clrreg p) s (v.upDone p .badarg 0)) ∧
      (s.up.session ≠ .none → s.up.session ≠ .armed → n ≤ 12 → ∃ t : State, Completes (.clrreg p) s (t.upDone p .ok 0) ∧
        t.up.session = .opened ∧ t.regionCount n = 0 ∧ (∀ k, k < regionBlocks n → t.blockSet (slotBlock n k) = false) ∧
        (∀ c, c < slotBlock n 0 ∨ slotBlock n 0 + regionBlocks n ≤ c → t.blockSet c = s.blockSet c) ∧ t.mram = s.mram)) ∧
    (run 2 → s.up.session = .opened ∨ s.up.session = .complete → 0x400000 ≤ a → a + 346 ≤ 2 ^ 24 →
      s.on dMSTORE0 = true → s.on dMSTORE1 = true →
      (natToOctets 4 (crc32Of (l.take 1032)).toNat ≠ l.drop 1032 → ∃ t : State, Completes (.wrblk p good) s (t.upDone p .fault 0) ∧
        t.reg (aUP 0x4A) = satInc 24 (s.reg (aUP 0x4A)) ∧ t.mram = s.mram ∧
        t.dp.inflight = s.dp.inflight ++ (if s.up.crcTold then [] else [642])) ∧
      (natToOctets 4 (crc32Of (l.take 1032)).toNat = l.drop 1032 →
        (be l 0 3 ≠ s.up.sid.toNat →
          Completes (.wrblk p good) s (((v.count (aUP 0x4B)).occurV 0xA5 0).upDone p .denied 0)) ∧
        (be l 0 3 = s.up.sid.toNat → r ≤ 12 → s.up.mask.getLsbD r = true → count ≠ 0 → count ≤ regionBlocks r → i < count →
          s.regionCount r = 0 ∨ s.regionCount r = count →
          (s.blockSet b = true → ∃ t : State, Completes (.wrblk p good) s (t.upDone p .ok 1) ∧ t.mram = s.mram ∧
            t.reg (aUP 0x49) = satInc 24 (s.reg (aUP 0x49))) ∧
          (s.blockSet b = false → ∃ t : State, Completes (.wrblk p good) s (t.upDone p (if good then .ok else .fault) 0) ∧
            (∀ k, k < 1024 → t.mramByte (slotS + 1024 * b + k) = l.getD (8 + k) 0) ∧
            (∀ c, c < slotS + 1024 * b ∨ slotS + 1024 * b + 1024 ≤ c → t.mramByte c = s.mramByte c) ∧
            t.blockSet b = good ∧ t.regionCount r = count ∧
            t.up.session = (if good && t.sessionFull then .complete else s.up.session))))) ∧
    (run 2 → s.up.session = .none ∨ s.up.session = .armed →
      Completes (.wrblk p good) s (((v.count (aUP 0x4B)).occurV 0xA5 0).upDone p .state 0)) ∧
    (Allowed s src true (aUP 0x41) → s.up.ecc = [] → d + 3 ≤ 0xC00000 → Completes (.upRdataRead src) s
      ((s.setReg (aUP 0x40) (wd (d + 3))).answeredRead src (aUP 0x41) (s.mramByte d ++ s.mramByte (d + 1) ++ s.mramByte (d + 2)))) ∧
    (∀ t0, s.up.confAt = some t0 →
      let left := s.up.confLeft - (s.now - t0)
      (left ≤ 180000000000 → s.up.warned = false → Completes .confirmWindowWarning s
        ((s.modUp (fun u => { u with warned := true })).raise 645)) ∧
      (180000000000 < left ∨ s.up.warned = true → Completes .confirmWindowWarning s s) ∧
      (left = 0 → Completes .confirmTimeout s (((s.modUp (fun u => { u with ctimeout := true })).occurV 0xA8 0).resetDevice 8)) ∧
      (left ≠ 0 → Completes .confirmTimeout s s)) ∧
    (∀ (u : State) st k, (u.upDone p st k).reg (aUPort p 1) = wd (stCode st * 2 ^ 19 + k * 2 ^ 8))

/-- R555, R556, R558–R563, R591: BAR0 writes and reads, doorbells, MSI-X messages and table, PERST_N, the link and the
configuration bits.
Where the spec is silent it follows log 12, the model's choice. -/
def Obligations.HostPort : Prop :=
  ∀ (s : State) (addr v w : Word) (d : BitVec 10) (vec : Fin 64) (link : Option (Fin 4 × Fin 4)) (c : PcieCfg) (e : MsixEntry),
    let a := addr.toNat
    let x := s.msixEntry vec.val
    let q := fld (s.reg (aHC (0x100 + d.toNat))) 17 0
    let lost := (s.count (aHC 6)).occurV 0xB1 0
    let up := s.agentOn .host = true
    let clears := s.on dHOST = true ∧ s.hc.link.isSome = true ∧ mapGet (fun _ => false) s.hc.pba vec.val = true ∧ s.hc.bme = true ∧
      s.hc.msixEn = true ∧ s.hc.fmask = false ∧ x.masked = false
    (up → 0x400000 ≤ a → a + 1 < 2 ^ 24 → s.accessStatus .host false a = .ok →
      (s.accessStatus .host false (a + 1) = .ok → ∃ t, Completes (.bar0Write addr [(v, true), (w, true)]) s t ∧ t.mainWord a = v ∧
        t.mainWord (a + 1) = w ∧ (∀ b, b ≠ a → b ≠ a + 1 → t.mainWord b = s.mainWord b) ∧ t.regs = s.regs) ∧
      (∃ t, Completes (.bar0Write addr [(v, true), (w, false)]) s t ∧ t.mainWord a = v ∧
        (∀ b, b ≠ a → t.mainWord b = s.mainWord b) ∧ t.reg (aHC 5) = satInc 24 (s.reg (aHC 5)) ∧
        t.hm.pending = s.hm.pending ++ [(0xB0, 0)])) ∧
    (up → s.accessStatus .host false a = .denied → s.hc.hrefTold = false →
      ∃ t, Completes (.bar0Write addr [(v, true)]) s t ∧ t.main = s.main ∧ t.reg (aHC 4) = satInc 24 (s.reg (aHC 4)) ∧
        t.hm.pending = s.hm.pending ++ [(0xB0, 0)] ∧ t.dp.inflight = s.dp.inflight ++ [705] ∧ t.hc.hrefTold = true) ∧
    (up → ∀ n, 0x400000 ≤ a → a + n ≤ 2 ^ 24 → (∀ k < n, s.accessStatus .host true (a + k) = .ok) →
      Completes (.bar0Read addr n) s { s with out := .words ((List.range n).map (fun k => s.mainWord (a + k))) }) ∧
    (s.agentOn .host = false → Completes (.bar0Write addr [(v, true)]) s s ∧ Completes (.bar0Read addr 1) s s ∧
      Completes (.doorbell d v) s s ∧ Completes (.msixTableWrite vec e) s s) ∧
    (up → d.toNat < 64 →
      (s.isMailbox q = true → (s.putPacket q [v]).1 = .ok → Completes (.doorbell d v) s (s.putPacket q [v]).2) ∧
      (s.isMailbox q = false → Completes (.doorbell d v) s
        (if s.hc.dbTold then lost else (lost.modHc (fun h => { h with dbTold := true })).raise 706))) ∧
    (clears → Completes (.msixMessage vec) s
      { s.modHc (fun h => { h with pba := mapPut (fun _ => false) h.pba vec.val false }) with out := .message x.addr x.data }) ∧
    (¬ clears → Completes (.msixMessage vec) s s) ∧
    (up → ∃ t, Completes (.msixTableWrite vec e) s t ∧ t.msixEntry vec.val = e ∧
      (∀ k : Fin 64, k ≠ vec → t.msixEntry k.val = s.msixEntry k.val) ∧ t.hc.pba = s.hc.pba ∧ t.regs = s.regs) ∧
    (s.on dHOST = true → s.hc.link.isSome = true → ∃ t, Completes .perstN s t ∧ t.hc.link = none ∧ t.reg (aHC 0) = 0 ∧
      t.hc.memEn = false ∧ t.hc.bme = false ∧ t.hc.msixEn = false ∧ t.hc.pba = [] ∧ (∀ k : Fin 64, (t.msixEntry k.val).masked = true) ∧
      t.dp.inflight = s.dp.inflight ++ [704] ∧ t.hm.pending = s.hm.pending ++ [(0xBE, 0)]) ∧
    (s.on dHOST = true → s.hc.link = none → link.isSome = true →
      ((s.reg (aHC 0)).getLsbD 23 = true → Completes (.pcieLinkChange link) s ((s.modHc (fun h => { h with link := link })).raise 704)) ∧
      ((s.reg (aHC 0)).getLsbD 23 = false → Completes (.pcieLinkChange link) s s)) ∧
    (s.on dHOST = true → s.hc.link.isSome = true → Completes (.pcieLinkChange none) s
      (((s.modHc (fun h => { h with link := none })).raise 704).occurV 0xBE 0)) ∧
    (s.on dHOST = true → s.hc.link.isSome = true → Completes (.pcieConfigWrite c) s
      (s.modHc (fun h => { h with memEn := c.memEn, bme := c.bme, msixEn := c.msixEn, fmask := c.fmask }))) ∧
    (s.hc.link = none → Completes (.pcieConfigWrite c) s s)

/-- R576–R581: the NFC tag: the field, the APDUs, the window onto the tag memory and staged commits.
Where the spec is silent it follows log 42, the model's choice. -/
def Obligations.NfcTag : Prop :=
  ∀ (s : State) (src : Src) (data : List Byte) (ofs len k : Nat) (ins : Byte) (v : Word),
    let n := s.hc.nfc
    let here := n.field = true ∧ n.pend = none ∧ s.on dNFC = true
    let a := aHC 0x2004
    let ca := fld (s.reg (aHC 0x2002)) 12 0
    let cn := fld (s.reg (aHC 0x2003)) 8 0
    let staged := (upTo cn).map (octetAt (fun i => s.reg (aHC (0x2100 + i))))
    let refused := fun (c : Instr) => ∃ t l, Completes c s t ∧ t.out = .octets l ∧ l.length = 2 ∧ t.hc.nfc.tag = n.tag ∧
      t.hc.nfc.file = n.file ∧ t.dp = s.dp
    let answered := fun (c : Instr) (l : List Byte) (file : TagFile) => ∃ t, Completes c s t ∧ t.out = .octets (l ++ [0x90, 0x00]) ∧
      t.hc.nfc.file = file ∧ t.hc.nfc.tag = n.tag ∧ s.now ≤ t.hc.nfc.ownUntil ∧ t.regs = s.regs
    let fixed := fun (u : State) st => (u.modNfc (fun x => { x with status := st })).answered src a st
    (n.field = false → Completes (.nfcFieldChange false) s s ∧ Completes (.select data) s s ∧ Completes (.readBinary ofs len) s s ∧
      Completes (.updateBinary ofs data) s s ∧ Completes (.unknownApdu ins) s s) ∧
    (n.field = false → s.on dNFC = true → s.wakeEn = 0 → Completes (.nfcFieldChange true) s
      ((s.modNfc (fun x => { x with field := true, file := .none, ownUntil := 0 })).raise 712)) ∧
    (n.field = true → s.on dNFC = true → n.pend = none → Completes (.nfcFieldChange false) s
      ((s.modNfc (fun x => { x with field := false, file := .none, ownUntil := 0 })).raise 712)) ∧
    (here →
      answered (.select [0xD2, 0x76, 0x00, 0x00, 0x85, 0x01, 0x01]) [] .app ∧
      (n.file ≠ .none → answered (.select [0xE1, 0x03]) [] .container ∧ answered (.select [0xE1, 0x04]) [] .ndef) ∧
      (n.file = .none → refused (.select [0xE1, 0x04])) ∧
      (n.file = .ndef → len ≤ 254 → ofs + len ≤ 8176 →
        answered (.readBinary ofs len) ((upTo len).map (fun i => s.tagByte (16 + ofs + i))) .ndef) ∧
      (n.file = .container → len ≤ 15 → answered (.readBinary 0 len) ((upTo len).map s.tagByte) .container) ∧
      (254 < len → refused (.readBinary ofs len)) ∧
      (n.file = .ndef → (s.reg (aHC 0x2000)).getLsbD 23 = true → data.length ≤ 251 → ofs + data.length ≤ 8176 →
        ∃ t, Completes (.updateBinary ofs data) s t ∧ t.out = .octets [0x90, 0x00] ∧
          (∀ i, i < data.length → t.tagByte (16 + ofs + i) = data.getD i 0) ∧
          (∀ j, 15 ≤ j → j < 16 + ofs ∨ 16 + ofs + data.length ≤ j → t.tagByte j = s.tagByte j) ∧
          t.dp.inflight = s.dp.inflight ++ [713]) ∧
      (n.file ≠ .ndef ∨ (s.reg (aHC 0x2000)).getLsbD 23 = false ∨ 251 < data.length → refused (.updateBinary ofs data)) ∧
      (ins ≠ 0xA4 → ins ≠ 0xB0 → ins ≠ 0xD6 → ∃ t, Completes (.unknownApdu ins) s t ∧ t.out = .octets [0x6D, 0x00] ∧
        t.hc.nfc.file = n.file ∧ t.hc.nfc.tag = n.tag)) ∧
    (k < 2731 → Allowed s src true (aHC (0x3000 + k)) →
      (s.fieldOwns = true → ∃ t, Completes (.hcNfcwinRead src k) s t ∧ t.readback = 0 ∧ t.lastStatus = .busy ∧
        t.hc.nfc.hbusy = true ∧ t.hm.pending = s.hm.pending ++ [(0xB6, 0)] ∧ t.hc.nfc.tag = n.tag) ∧
      (s.fieldOwns = false → Completes (.hcNfcwinRead src k) s (s.answeredRead src (aHC (0x3000 + k)) (s.tagWord k)))) ∧
    (3 * k + 2 < 8192 → s.tagWord k = s.tagByte (3 * k) ++ s.tagByte (3 * k + 1) ++ s.tagByte (3 * k + 2)) ∧
    (Allowed s src false a → v.getLsbD 23 = true →
      (ca < 16 ∨ 8192 < ca + cn ∨ cn = 0 ∨ 256 < cn → Completes (.hcNfccmt src v) s (fixed s .badarg)) ∧
      (16 ≤ ca → ca + cn ≤ 8192 → 1 ≤ cn → cn ≤ 256 →
        (n.pend.isSome = true → Completes (.hcNfccmt src v) s (fixed s .state)) ∧
        (n.pend = none → n.field = true → Completes (.hcNfccmt src v) s
          ((s.modNfc (fun x => { x with pend := some (ca, staged), status := .ok })).answered src a .ok)) ∧
        (n.pend = none → n.field = false → ∃ t, Completes (.hcNfccmt src v) s t ∧ t.hc.nfc.pend = none ∧
          (∀ i, i < cn → t.tagByte (ca + i) = staged.getD i 0) ∧ t.dp.inflight = s.dp.inflight ++ [714]))) ∧
    (∀ m l, n.pend = some (m, l) → s.fieldOwns = false → 15 ≤ m → ∃ t, Completes .stagingCommitApplied s t ∧ t.hc.nfc.pend = none ∧
      (∀ i, i < l.length → t.tagByte (m + i) = l.getD i 0) ∧ (∀ j, j < m ∨ m + l.length ≤ j → t.tagByte j = s.tagByte j) ∧
      t.dp.inflight = s.dp.inflight ++ [714]) ∧
    (s.fieldOwns = true ∨ n.pend = none → Completes .stagingCommitApplied s s)

/-- R564–R575: the USB commissioning port: VBUS, bus resets, INFO, GET, SET and QUERY with the commit log, answers and
their timeout, bulk transfers; a request that Table 13-2 does not list is answered STALL.
Where the spec is silent it follows log 43, the model's choice. -/
def Obligations.UsbPort : Prop :=
  ∀ (s : State) (src : Src) (high hs : Bool) (n : Nat) (id item wl : BitVec 16) (req : Byte) (data : List Byte) (v : Word),
    let u := s.hc.usb
    let up := s.attached = true
    let idle := up ∧ u.posted = none
    let stalled := { s.occurV 0xB5 0 with out := .stall }
    let q := fld (s.reg (aHC 0x804)) 17 0
    let lim := (if fld (s.reg (aHC 0x805)) 15 0 = 0 then 500 else fld (s.reg (aHC 0x805)) 15 0) * 3000000
    let top := fld (s.reg (aHC 0x809)) 15 0
    let ans := aHC 0x806
    (u.vbus ≠ high → s.on dHOST = true → Completes (.vbusChange high) s ((s.modUsb (fun x => { x with vbus := high })).raise 709)) ∧
    (u.vbus = high ∨ s.on dHOST = false → Completes (.vbusChange high) s (s.modUsb (fun x => { x with vbus := high }))) ∧
    (s.attached = false → Completes (.usbBusReset hs) s s ∧ Completes (.info n) s s ∧ Completes (.commissioningGet item wl) s s ∧
      Completes (.commissioningSet id item data) s s ∧ Completes (.query id) s s ∧ Completes (.bulkOutPacket data) s s ∧
      Completes .bulkInEnd s s ∧ Completes .usbStandardRequest s s ∧ Completes (.unsupportedVendorRequest req id wl) s s) ∧
    (up → u.posted = none → ∃ t, Completes (.usbBusReset hs) s t ∧ t.hc.usb.bin = false ∧ t.hc.usb.bout = none ∧
      t.hc.usb.babort = (u.babort || u.bin || u.bout.isSome) ∧ t.hc.usb.hs = (hs && !(s.reg (aHC 0x800)).getLsbD 22) ∧
      t.hc.usb.log = u.log ∧ t.reg (aHC 0x80D) = satInc 24 (s.reg (aHC 0x80D)) ∧ t.dp.inflight = s.dp.inflight ++ [707]) ∧
    (idle →
      (n ≠ 20 → Completes (.info n) s stalled) ∧
      Completes (.info 20) s { s with out := .octets (devsn ++ [BitVec.ofNat 8 s.kv.life.val, BitVec.ofNat 8 s.pw.mode.code,
        BitVec.ofNat 8 (b2n s.hc.dbg.unlocked), 0]) } ∧
      (wl = 0 ∨ 256 < wl.toNat → Completes (.commissioningGet item wl) s stalled) ∧
      (wl ≠ 0 → wl.toNat ≤ 256 → s.isMailbox q = false → Completes (.commissioningGet item wl) s
        { s.modUsb (fun x => { x with posted := some ⟨0, false, wl.toNat, s.now, true, false⟩ }) with out := .nak }) ∧
      (wl ≠ 0 → wl.toNat ≤ 256 → s.isMailbox q = true → Completes (.commissioningGet item wl) s
        { (s.putPacket q [0x020000, wd item.toNat, wd wl.toNat]).2.modUsb (fun x =>
            { x with posted := some ⟨0, false, wl.toNat, s.now, true, false⟩ }) with out := .nak }) ∧
      (id = 0 ∨ data = [] ∨ 256 < data.length → Completes (.commissioningSet id item data) s stalled) ∧
      (id ≠ 0 → data ≠ [] → data.length ≤ 256 →
        let w := s.putWords (aHC 0x880) (packOctets data)
        (u.logged id = some 0 → Completes (.commissioningSet id item data) s { w with out := .zeroLength }) ∧
        (∀ st, u.logged id = some st → st ≠ 0 → Completes (.commissioningSet id item data) s { w.occurV 0xB5 0 with out := .stall }) ∧
        (u.logged id = none → fld (w.reg (aHC 0x804)) 17 0 = q → w.isMailbox q = false →
          Completes (.commissioningSet id item data) s
            { w.modUsb (fun x => { x with posted := some ⟨id, true, data.length, s.now, true, false⟩ }) with out := .nak })) ∧
      (u.logged id = none → Completes (.query id) s { s with out := .octets ([0, 0] ++ natToOctets 2 id.toNat) }) ∧
      (∀ st, u.logged id = some st → Completes (.query id) s
        { s with out := .octets ([2, BitVec.ofNat 8 (16 * st.toNat)] ++ natToOctets 2 id.toNat) }) ∧
      Completes .usbStandardRequest s s ∧
      (vendorListed req id wl = false → Completes (.unsupportedVendorRequest req id wl) s stalled) ∧
      (vendorListed req id wl = true → Completes (.unsupportedVendorRequest req id wl) s s)) ∧
    (up → ∀ p, u.posted = some p → p.isSet = true → p.live = true →
      ∃ t, Completes (.query p.id) s t ∧ t.out = .octets ([1, 0] ++ natToOctets 2 p.id.toNat) ∧
        t.hc.usb.posted = some { p with live := false } ∧ t.hm.pending = s.hm.pending ++ [(0xB2, 0)]) ∧
    (∀ p, u.posted = some p → Allowed s src false ans →
      ∃ t, Completes (.hcUsbans src v) s t ∧ t.hc.usb.posted = none ∧ t.lastStatus = .ok ∧
        (p.isSet = true → t.hc.usb.logged p.id = some (BitVec.ofNat 4 (fld v 23 20))) ∧ (p.isSet = false → t.hc.usb.log = u.log) ∧
        (p.live = true → fld v 23 20 ≠ 0 → t.out = .stall) ∧ (p.live = true → p.isSet = true → fld v 23 20 = 0 → t.out = .zeroLength) ∧
        (p.live = true → p.isSet = false → fld v 23 20 = 0 →
          t.out = .octets (s.usbBuf (min (min (fld v 15 0) 256) p.len))) ∧ (p.live = false → t.out = s.out)) ∧
    (u.posted = none → Allowed s src false ans → Completes (.hcUsbans src v) s (s.answered src ans .ok)) ∧
    (∀ st, (s.logSet id st).hc.usb.log.length ≤ 32 ∧ (s.logSet id st).hc.usb.logged id = some st) ∧
    (∀ p, u.posted = some p →
      (p.late = true ∨ s.now < p.since + lim → Completes .commissioningAnswerTimeout s s) ∧
      (p.late = false → p.since + lim ≤ s.now → ∃ t, Completes .commissioningAnswerTimeout s t ∧
        t.hc.usb.posted = some { p with late := true, live := false } ∧ t.dp.inflight = s.dp.inflight ++ [708] ∧
        t.out = (if p.live then .stall else s.out))) ∧
    (Allowed s src false (aHC 0x809) → v.getLsbD 23 = true → Completes (.bulkOutArm src v) s
      (((s.plainWrite (aHC 0x809) v).modUsb (fun x => { x with bout := some 0, babort := false })).answered src (aHC 0x809) .ok)) ∧
    (up →
      (u.bout = none → Completes (.bulkOutPacket data) s { s with out := .nak }) ∧
      (∀ m, u.bout = some m → u.hs = true → data.length = 512 → m + 512 < top → Completes (.bulkOutPacket data) s
        ((s.boutBytes m data).modUsb (fun x => { x with bout := some (m + 512) }))) ∧
      (∀ m, u.bout = some m → u.hs = true → data.length < 512 → m + data.length ≤ top → Completes (.bulkOutPacket data) s
        ((((s.boutBytes m data).setReg (aHC 0x80A) (wd (m + data.length))).modUsb (fun x => { x with bout := none })).raise 710)) ∧
      (u.bin = true → u.hs = true →
        (fld (s.reg (aHC 0x80C)) 15 0 % 512 = 0 → Completes .bulkInEnd s
          { (s.modUsb (fun x => { x with bin := false })).raise 711 with out := .zeroLength }) ∧
        (fld (s.reg (aHC 0x80C)) 15 0 % 512 ≠ 0 → Completes .bulkInEnd s ((s.modUsb (fun x => { x with bin := false })).raise 711))) ∧
      (u.bin = false → Completes .bulkInEnd s s)) ∧
    (∀ b r, (s.reg (aHC 0x808)).toNat = r → 0x400000 ≤ r → s.on (wordDomain r) = true →
      (s.boutBytes 0 [b]).mainWord r = setFld (s.mainWord r) 23 16 b.toNat) ∧
    (Allowed s src false (aHC 0x80C) → v.getLsbD 23 = true →
      (u.bin = true → Completes (.bulkInGo src v) s (s.answered src (aHC 0x80C) .busy)) ∧
      (u.bin = false → fld v 15 0 ≠ 0 → ∃ t, Completes (.bulkInGo src v) s t ∧ t.hc.usb.bin = true ∧ t.hc.usb.babort = false ∧
        t.lastStatus = .ok ∧ t.out = .octets (s.mainOctets (s.reg (aHC 0x80B)).toNat (fld v 15 0))))

/-- R582, R591, Table 13-7: GPIO, SPI, I2C and UART: levels and their change events, transfers and their ends, the FIFOs.
Where the spec is silent it follows log 43, the model's choice. -/
def Obligations.LowSpeed : Prop :=
  ∀ (s : State) (src : Src) (c : Fin 2) (pins : BitVec 32) (v : Word) (l : List Byte) (b : Byte) (res : I2cResult),
    let spi := aHC (0x4100 + 0x20 * c.val)
    let i2c := aHC (0x4200 + 0x20 * c.val)
    let uart := aHC (0x4303 + 0x20 * c.val)
    let x := s.uart c.val
    let w := s.modHc (fun h => { h with pins := pins })
    let diff := ((s.pinLevels ^^^ w.pinLevels) &&& s.pinPair 0x4008).toNat
    let n := (s.reg (aHC (0x4300 + 0x20 * c.val))).toNat
    (diff = 0 → Completes (.gpioChange pins) s w) ∧
    (diff ≠ 0 → ∃ t, Completes (.gpioChange pins) s t ∧ t.hc.pins = pins ∧ t.dp.inflight = s.dp.inflight ++ [718] ∧
      t.reg (aHC 0x400A) = s.reg (aHC 0x400A) ||| wd diff ∧ t.reg (aHC 0x400B) = s.reg (aHC 0x400B) ||| wd (diff / 2 ^ 24)) ∧
    (∀ i : Nat, i < 32 → s.pinLevels.getLsbD i =
      (if (s.pinPair 0x4002).getLsbD i && !((s.pinPair 0x4004).getLsbD i && (s.pinPair 0x4000).getLsbD i) then
        (s.pinPair 0x4000).getLsbD i else s.hc.pins.getLsbD i)) ∧
    (Allowed s src false spi → v.getLsbD 23 = true →
      (s.lsBusy c.val = true → Completes (.spiGo src c v) s (s.answered src spi .busy)) ∧
      (s.lsBusy c.val = false → fld v 5 0 = 0 ∨ 32 < fld v 5 0 → Completes (.spiGo src c v) s (s.answered src spi .badarg)) ∧
      (s.lsBusy c.val = false → 1 ≤ fld v 5 0 → fld v 5 0 ≤ 32 → ∃ t, Completes (.spiGo src c v) s t ∧ t.lsBusy c.val = true ∧
        t.lastStatus = .ok ∧ t.out = .octets (s.lsData (0x4108 + 0x20 * c.val) (fld v 5 0)))) ∧
    (s.on dHOST = true → s.lsBusy c.val = true → fld (s.reg spi) 5 0 = 3 → l.length = 3 →
      ∃ t, Completes (.spiTransferEnd c l) s t ∧ t.lsBusy c.val = false ∧ t.reg (spi + 8) = l.getD 0 0 ++ l.getD 1 0 ++ l.getD 2 0 ∧
        t.lsWord c.val = 0 ∧ t.dp.inflight = s.dp.inflight ++ [Fin.ofNat 1024 (721 + c.val)]) ∧
    (s.lsBusy c.val = false → Completes (.spiTransferEnd c l) s s) ∧
    (Allowed s src false i2c → v.getLsbD 23 = true →
      (s.lsBusy (2 + c.val) = true → Completes (.i2cGo src c v) s (s.answered src i2c .busy)) ∧
      (s.lsBusy (2 + c.val) = false → fld v 11 6 ≤ 32 → fld v 5 0 ≤ 32 → ∃ t, Completes (.i2cGo src c v) s t ∧
        t.lsBusy (2 + c.val) = true ∧ t.lastStatus = .ok ∧ t.out = .octets (s.lsData (0x4208 + 0x20 * c.val) (fld v 11 6)))) ∧
    (s.on dHOST = true → s.lsBusy (2 + c.val) = true →
      (res ≠ .ok → ∃ t, Completes (.i2cTransactionEnd c res l) s t ∧ t.lsBusy (2 + c.val) = false ∧ t.regs = s.regs ∧
        t.lsWord (2 + c.val) = wd (stCode (match res with
          | .addrNack => .absent
          | .dataNack => .badarg
          | _ => .timeout) * 2 ^ 19) ∧ t.dp.inflight = s.dp.inflight ++ [Fin.ofNat 1024 (719 + c.val)]) ∧
      (fld (s.reg i2c) 5 0 = 2 → l.length = 2 → ∃ t, Completes (.i2cTransactionEnd c .ok l) s t ∧ t.lsBusy (2 + c.val) = false ∧
        t.reg (i2c + 8) = l.getD 0 0 ++ l.getD 1 0 ++ (0 : Byte) ∧ t.lsWord (2 + c.val) = 0)) ∧
    (Allowed s src false uart →
      (x.tx.length < 64 → Completes (.uartDataWrite src c v) s
        ((s.setUart c.val { x with tx := x.tx ++ [v.setWidth 8] }).answered src uart .ok)) ∧
      (64 ≤ x.tx.length → Completes (.uartDataWrite src c v) s (s.answered src uart .full))) ∧
    (Allowed s src true uart →
      (x.rx = [] → Completes (.uartDataRead src c) s (s.answeredRead src uart 0)) ∧
      (∀ r, x.rx = b :: r → ∃ t, Completes (.uartDataRead src c) s t ∧ t.readback = wd b.toNat ∧ (t.uart c.val).rx = r ∧
        (t.uart c.val).tx = x.tx)) ∧
    (s.on dHOST = true →
      (s.uartEn c.val = true → x.rx.length < 64 → ∃ t, Completes (.uartOctetArrival c b) s t ∧ (t.uart c.val).rx = x.rx ++ [b] ∧
        (t.uart c.val).rxAt = s.now ∧ t.regs = s.regs ∧ t.dp = s.dp) ∧
      (s.uartEn c.val = false ∨ 64 ≤ x.rx.length → Completes (.uartOctetArrival c b) s s) ∧
      (∀ r, x.tx = b :: r → s.uartEn c.val = true → Completes (.uartOctetSent c) s
        { s.setUart c.val { x with tx := r } with out := .octets [b] }) ∧
      (x.tx = [] ∨ s.uartEn c.val = false → Completes (.uartOctetSent c) s s) ∧
      (x.rx ≠ [] → x.told = false → s.uartThresh c.val ≤ x.rx.length ∨ (n ≠ 0 ∧ x.rxAt + 1200 * 2 ^ 24 / n ≤ s.now) →
        Completes (.uartReceive c) s ((s.setUart c.val { x with told := true }).raise (723 + c.val)))) ∧
    (x.rx = [] ∨ x.told = true → Completes (.uartReceive c) s s)

/-- R583–R588, Tables 13-4 to 13-6: the unlock engine, the TAP and the debug accesses that the open scopes permit.
Where the spec is silent it follows log 43, the model's choice. -/
def Obligations.DebugAccess : Prop :=
  ∀ (s : State) (src : Src) (sh : Sh) (r : Reg) (v : Word) (a : BitVec 14) (i : TapInstr),
    let g := aHC 0xA00
    let d := s.hc.dbg
    let here := Allowed s src false g
    let note := fun (u : State) st => u.modDbg (fun x => { x with status := st })
    let l := (upTo (fld (s.reg (aHC 0xA02)) 11 0)).map (octetAt (fun k => s.reg (aHC (0x1000 + k))))
    let open_ := BitVec.ofNat 3 (octetsToNat ((l.drop 24).take 2))
    let opened := ((s.modDbg (fun x => { x with state := .opened, scope := open_, status := .ok, nonce := [], unlocked := true })).raise
      715).occurV 0xB9 (wd open_.toNat)
    let tap := fun (j : TapInstr) => Completes (.tapInstruction i) s (s.modHc (fun h => { h with tap := j }))
    let may := fun (k : Nat) => s.on dHOST = true ∧ d.scope.getLsbD k = true
    let depotOn := s.on (6 + sh.val / 8) = true
    let debugged := fun (c : DbgOp) (u : State) (w : Word) (st : Status) =>
      Completes (.dbgacc c) s { u with readback := w, lastStatus := st }
    (here →
      (d.state = .closed ∨ d.state = .opened → s.on dVAULT = true → s.kv.ent = .ok → ∃ t, Completes (.chal src) s t ∧
        t.hc.dbg.state = .challenged ∧ t.hc.dbg.nonce.length = 32 ∧ t.hc.dbg.nonceAt = s.now ∧ t.hc.dbg.scope = d.scope ∧
        t.hc.dbg.status = .ok ∧ t.kv.drbgReqs = s.kv.drbgReqs + 1) ∧
      (d.state = .lockout → Completes (.chal src) s ((note s .denied).answered src g .ok) ∧
        Completes (.submit src) s ((note s .denied).answered src g .ok) ∧
        Completes (.relock src) s ((note s .denied).answered src g .ok)) ∧
      (d.state = .challenged → Completes (.chal src) s ((note s .state).answered src g .ok)) ∧
      (d.state = .closed ∨ d.state = .opened → Completes (.submit src) s ((note s .state).answered src g .ok)) ∧
      (d.state = .challenged → s.on dVAULT = true → s.unlockGood l = true → Completes (.submit src) s (opened.answered src g .ok)) ∧
      (d.state = .challenged → s.on dVAULT = true → s.unlockGood l = false → ∃ t, Completes (.submit src) s t ∧
        t.hc.dbg.fails = d.fails + 1 ∧ t.hc.dbg.scope = 0 ∧ t.hc.dbg.nonce = [] ∧ t.hc.dbg.status = .denied ∧
        t.hc.dbg.state = (if 2 ≤ d.fails then .lockout else .closed) ∧
        t.dp.inflight = s.dp.inflight ++ (if 2 ≤ d.fails then [716, 717] else [716]) ∧
        t.hm.pending = s.hm.pending ++ (if 2 ≤ d.fails then [(0xBA, 0), (0xBB, 0)] else [(0xBA, 0)])) ∧
      (d.state = .opened → Completes (.relock src) s
        ((s.modDbg (fun x => { x with state := .closed, scope := 0, status := .ok })).answered src g .ok)) ∧
      (d.state = .closed ∨ d.state = .challenged → Completes (.relock src) s ((note s .state).answered src g .ok))) ∧
    (s.unlockGood l = true → l.take 7 = ascii "K16-DBG" ∧ (l.drop 8).take 16 = devsn ∧ (l.drop 26).take 32 = d.nonce ∧
      s.now < d.nonceAt + 180000000000 ∧ (((l.getD 7 0) = 1 ∧ s.debugKeys.isSome = true) ∨
        ((l.getD 7 0) = 2 ∧ s.kv.life = 1 ∧ (l.drop 58).take 32 = debugPassword))) ∧
    (s.on dHOST = true → d.state = .challenged →
      (d.nonceAt + 180000000000 ≤ s.now → Completes .challengeExpiry s (s.modDbg (fun x => { x with state := .closed }))) ∧
      (s.now < d.nonceAt + 180000000000 → Completes .challengeExpiry s s)) ∧
    (d.state ≠ .challenged → Completes .challengeExpiry s s) ∧
    (s.pw.ioAonGood = true →
      (i ≠ .extest → i ≠ .clamp → i ≠ .highz → tap i) ∧
      (s.pw.resetLow = true ∨ (s.pw.mode = .maintenance ∧ s.on dHOST = true ∧ d.scope.getLsbD 1 = true) → tap i) ∧
      (s.pw.resetLow = false → s.pw.mode ≠ .maintenance ∨ s.on dHOST = false ∨ d.scope.getLsbD 1 = false →
        i = .extest ∨ i = .clamp ∨ i = .highz → tap .bypass)) ∧
    (s.pw.ioAonGood = false → Completes (.tapInstruction i) s s) ∧
    (may 0 → depotOn →
      debugged (.readReg sh r) s ((s.shunter sh).r r) .ok ∧ debugged (.readPc sh) s (wd (s.shunter sh).pc.toNat) .ok ∧
      debugged (.readLocal sh a) s (s.localWord sh a.toNat) .ok) ∧
    (may 1 → depotOn →
      debugged (.writeReg sh r v) (s.modShunter sh (fun x => x.setR r v)) 0 .ok ∧
      debugged (.writeLocal sh a v) (s.setLocal sh a.toNat v) 0 .ok ∧
      debugged (.halt sh) (s.haltShunter sh) 0 .ok ∧
      ((s.shunter sh).run = .halted → debugged (.step sh) (s.modShunter sh (fun x => { x with stepping := true })) 0 .ok) ∧
      ((s.shunter sh).run ≠ .halted → debugged (.step sh) s 0 .state)) ∧
    (may 2 → debugged .test (s.modKv (fun k => { k with test := true, slots := [] })) 0 .ok) ∧
    (s.on dHOST = true →
      (d.scope.getLsbD 0 = false → Completes (.dbgacc (.readPc sh)) s { s with lastStatus := .denied }) ∧
      (d.scope.getLsbD 1 = false → Completes (.dbgacc (.halt sh)) s { s with lastStatus := .denied }) ∧
      (d.scope.getLsbD 2 = false → Completes (.dbgacc .test) s { s with lastStatus := .denied })) ∧
    (may 0 → s.on (6 + sh.val / 8) = false → debugged (.readPc sh) s 0 .state) ∧
    (may 1 → 0x400000 ≤ v.toNat → s.accessStatus .host false v.toNat = .ok → ∀ w, debugged (.writeMain v w) (s.setMain v.toNat w) 0 .ok) ∧
    (s.on dHOST = false → Completes (.dbgacc (.readPc sh)) s s)

/-- R624–R631, R634, R648, R650, Table 15-2: the requests to the power controller, for a mode, for domains and for spreading,
and what their completion leaves.
Where the spec is silent it follows log 41, the model's choice. -/
def Obligations.PowerRequests : Prop :=
  ∀ (s : State) (src : Src) (k : Fin 8) (v : Word),
    let a := aPW 1
    let refused := (s.count (aPW 0xB)).occurV 0x03 0
    let told := fun (u : State) (st : Status) (n : Nat) =>
      (u.modPw (fun p => { p with modeStat := st, modeTarget := n })).raise 769
    let free := s.pw.modeReq = none ∧ s.pw.domReq = none ∧ s.pw.sleep = false
    let busy := s.pw.modeReq.isSome = true ∨ s.pw.domReq.isSome = true ∨ s.pw.sleep = true
    let boots := s.pw.mode = .start ∨ s.pw.mode = .provision ∨ s.pw.mode = .maintenance
    let works := s.pw.mode = .provision ∨ s.pw.mode = .service ∨ s.pw.mode = .island ∨ s.pw.mode = .maintenance
    let asks := fun (n : Fin 8) (st : Status) => Completes (.modeRequest src n) s ((told refused st n.val).answered src a st)
    let takes := fun (n : Fin 8) (m : Mode) => Completes (.modeRequest src n) s
      ((s.modPw (fun p => { p with modeReq := some m, modeTarget := n.val })).answered src a .ok)
    let dead := s.kv.life.val = 5
    let w := s.wanted
    let dom := fun (u : State) (st : Status) => (u.modPw (fun p => { p with domStat := st })).raise 770
    (Allowed s src false a →
      (busy → Completes (.modeRequest src k) s ((refused.raise 769).answered src a .busy) ∧
        Completes (.dormantRequest src) s ((refused.raise 769).answered src a .busy) ∧
        Completes (.keepaliveRequest src) s ((refused.raise 769).answered src a .busy)) ∧
      (free → asks 0 .badarg ∧ asks 3 .badarg ∧
        (s.pw.mode = .provision → Completes (.modeRequest src 4) s ((told s .ok 4).answered src a .ok)) ∧
        (s.pw.mode = .start ∨ s.pw.mode = .maintenance ∨ s.pw.mode = .service →
          (dead → asks 4 .denied) ∧ (¬ dead → s.pw.recov = true → asks 4 .state) ∧
          (¬ dead → s.pw.recov = false → takes 4 .provision)) ∧
        (s.pw.mode = .island → asks 4 .state ∧ asks 5 .state) ∧
        (s.pw.mode = .start ∨ s.pw.mode = .provision ∨ s.pw.mode = .service ∨ s.pw.mode = .island →
          (dead → asks 7 .denied) ∧ (¬ dead → takes 7 .maintenance)) ∧
        (boots →
          (s.kv.life.val ≠ 2 → s.kv.life.val ≠ 3 → asks 5 .denied) ∧
          (s.kv.life.val = 2 ∨ s.kv.life.val = 3 → (s.pw.recov = true → asks 5 .state) ∧ (s.pw.recov = false → takes 5 .service))) ∧
        (works → s.sb.state ≠ .idle → Completes (.dormantRequest src) s ((told refused .state 2).answered src a .state) ∧
          Completes (.keepaliveRequest src) s ((told refused .state 1).answered src a .state)) ∧
        (works → s.sb.state = .idle →
          (s.wakeEn = 0 → Completes (.dormantRequest src) s ((told refused .badarg 2).answered src a .badarg)) ∧
          (s.wakeEn ≠ 0 → ∃ t, Completes (.dormantRequest src) s t ∧ t.pw.sleep = true ∧ t.pw.modeReq = some .dormant ∧
            t.dp.gwd.since = none ∧ t.lastStatus = .ok ∧ t.main = s.main) ∧
          (fld (s.reg (aRTC 0xE)) 23 22 = 0 →
            Completes (.keepaliveRequest src) s ((told refused .badarg 1).answered src a .badarg)) ∧
          (fld (s.reg (aRTC 0xE)) 23 22 ≠ 0 → ∃ t, Completes (.keepaliveRequest src) s t ∧ t.pw.mode = .keepalive ∧ t.pw.don = 1 ∧
            t.pw.supplyEn = false ∧ t.pw.modeReq = none ∧ t.lastStatus = .ok)))) ∧
    (s.pw.modeReq = none ∨ s.pw.sleep = true → Completes .modeChangeDone s s) ∧
    (∀ m, s.pw.modeReq = some m → s.pw.sleep = false → m = .provision ∨ m = .service ∨ m = .maintenance →
      let tgt := if m = .service ∧ s.bh.isl = true then Mode.island else m
      ∃ t, Completes .modeChangeDone s t ∧ t.pw.mode = tgt ∧ t.pw.modeReq = none ∧ t.pw.modeStat = .ok ∧
        t.dp.inflight = s.dp.inflight ++ (if s.pw.mode = tgt then [] else [768]) ++ [769] ∧ t.pw.don = s.pw.don ∧
        (s.pw.mode ≠ tgt → tgt = .service ∨ tgt = .island → (t.reg (aPW 6)).getLsbD 23 = false)) ∧
    (Allowed s src false (aPW 0x12) →
      (busy → Completes (.domainRequest src) s ((refused.raise 770).answered src (aPW 0x12) .busy)) ∧
      (free → ¬ works → Completes (.domainRequest src) s ((dom refused .state).answered src (aPW 0x12) .state)) ∧
      (free → works → (∃ d < 32, s.offRefused src w d = true) →
        Completes (.domainRequest src) s ((dom refused .state).answered src (aPW 0x12) .state)) ∧
      (free → works → (∀ d < 32, s.offRefused src w d = false) →
        Completes (.domainRequest src) s ((s.modPw (fun p => { p with domReq := some w })).answered src (aPW 0x12) .ok))) ∧
    (∀ sh : Sh, s.on (6 + sh.val / 8) = true → w.getLsbD (6 + sh.val / 8) = false →
      s.offRefused (.shunter sh) w (6 + sh.val / 8) = true) ∧
    (s.on 18 = true → w.getLsbD 18 = false → s.sb.state ≠ .idle → s.offRefused src w 18 = true) ∧
    (s.pw.domReq = none → Completes .domainChangeDone s s) ∧
    (∀ x, s.pw.domReq = some x → ∃ t, Completes .domainChangeDone s t ∧ t.pw.domReq = none ∧ t.pw.domStat = .ok ∧
      (s.pw.dret = 0 → ∀ d < 32, t.pw.don.getLsbD d = if swDomain d then x.getLsbD d else s.pw.don.getLsbD d)) ∧
    (Allowed s src false (aPW 6) →
      (v.getLsbD 23 = true → s.pw.mode ≠ .provision → s.pw.mode ≠ .maintenance → Completes (.pwSscWrite src v) s
        ((s.occurV 0x0F 0).answered src (aPW 6) .state)) ∧
      (v.getLsbD 23 = false ∨ s.pw.mode = .provision ∨ s.pw.mode = .maintenance →
        Completes (.pwSscWrite src v) s ((s.plainWrite (aPW 6) v).answered src (aPW 6) .ok)))

/-- R126, R546, R633, R635–R637, R640–R647, R468: resets and what they leave, their release, and the wakes from DORMANT.
Where the spec is silent it follows log 41, the model's choice. -/
def Obligations.Resets : Prop :=
  ∀ (s : State) (src : Src) (v : Word) (ms : Nat) (w : WakeSrc) (p : Band) (frame : List Byte) (c : BitVec 4),
    let held := s.pw.inReset = some 0 ∨ s.pw.inReset = some 10
    let lost := s.modPw (fun x => { x with mainGood := false })
    let low := s.modPw (fun x => { x with resetLow := true })
    let meas := (((s.modPw (fun x => { x with resetLow := false })).modPw (fun x => { x with pinHold := false })).setReg (aPW 4)
      (wd (min ms 16777215))).occurV 0x02 (wd (min ms 16777215))
    let slept := min (s.rtc.sec - s.pw.sleptFrom) (2 ^ 24 - 1)
    let leaves := fun (b : BitVec 6) =>
      let f := ((((s.setReg (aPW 8) (wd (b.toNat * 2 ^ 18))).setReg (aPW 9) (wd slept)).occurV 0x04 (wd slept)).enterReset 9).take
      (f.2.occurV 0x05 (wd f.1)).release48 9
    let wk := s.reg (aBH p 0x3000)
    let bit_ : BitVec 6 := if p = .a then 8 else 4
    (let t := s.enterReset c;
      t.pw.inReset = some c ∧ t.pw.don = s.pw.don &&& 7 ∧ t.pw.resetAt = s.now ∧ t.pw.modeReq = none ∧ t.pw.domReq = none ∧
        t.pw.sleep = false ∧ t.pw.recov = false ∧ t.rtc.sec = s.rtc.sec ∧ t.dp.inflight = [] ∧ t.dp.records = [] ∧ t.dp.gwd = {} ∧
        t.kv.fEpoch = s.kv.fEpoch ∧ t.kv.fDecom = s.kv.fDecom ∧
        (c ≠ 9 → (∀ sh : Sh, t.shunter sh = {}) ∧ t.kv.slots = [] ∧ t.main = [] ∧ t.pw.dret = 0) ∧ (s.hm.snap = none → t.mram = s.mram) ∧
        (c ≠ 0 → c ≠ 10 → s.hm.snap = none → t.reg (aPW 4) = s.reg (aPW 4) ∧ t.reg (aPW 8) = s.reg (aPW 8) ∧
          (t.reg (aPW 6)).getLsbD 23 = false ∧ (∀ i < 23, (t.reg (aPW 6)).getLsbD i = (s.reg (aPW 6)).getLsbD i) ∧
          t.hm.records = s.hm.records)) ∧
    (Allowed s src false (aPW 5) →
      (s.on dAON = true → Completes (.pwSwrst src 0x5AA55A) s ((s.enterReset 5).answered src (aPW 5) .ok)) ∧
      (v ≠ 0x5AA55A → Completes (.pwSwrst src v) s (s.answered src (aPW 5) .ok))) ∧
    (s.on dAON = true → s.pw.resetLow = false →
      (¬ held → Completes .resetPinFall s ((low.modPw (fun x => { x with pinHold := true })).enterReset 2)) ∧
      (held → Completes .resetPinFall s (low.modPw (fun x => { x with pinHold := true })))) ∧
    (s.pw.resetLow = true → Completes .resetPinFall s low) ∧
    (s.pw.pinHold = true →
      (held → Completes (.resetPinRise ms) s meas) ∧
      (¬ held → Completes (.resetPinRise ms) s (meas.modPw (fun x =>
        { x with inReset := some (if ms < 8000 then 2 else if ms ≤ 15000 then 3 else 4) })))) ∧
    (s.pw.pinHold = false → Completes (.resetPinRise ms) s (s.modPw (fun x => { x with resetLow := false }))) ∧
    (s.pw.inReset = none → Completes .resetRelease s s) ∧
    (s.pw.inReset = some c →
      (s.pw.ioAonGood = true → s.pw.mainGood = true → s.pw.resetLow = false → c ≠ 11 ∨ s.cooled = true →
        Completes .resetRelease s (s.release48 c)) ∧
      (s.pw.ioAonGood = false ∨ s.pw.mainGood = false ∨ s.pw.resetLow = true ∨ (c = 11 ∧ s.cooled = false) →
        Completes .resetRelease s s)) ∧
    (s.on dVAULT = true → s.kv.life = 5 → ((s.release48 c).shunter 48).run = .running ∧ ((s.release48 c).shunter 48).pc = 0x1F000 ∧
      (s.release48 c).pw.mode = .start ∧ (s.release48 c).pw.inReset = none ∧ (s.release48 c).pw.cause = c ∧
      (s.release48 c).pw.supplyEn = true) ∧
    (s.on dAON = true → s.pw.inReset = none → Completes .brownout s ((lost.occurV 0x01 0).enterReset 1)) ∧
    (s.on dAON = true → s.pw.inReset.isSome = true → Completes .brownout s (lost.occurV 0x01 0)) ∧
    (s.on dAON = false → Completes .brownout s lost) ∧
    (∀ t0, s.dp.gwd.since = some t0 →
      (s.on dAON = true → t0 + 2 * s.gwdPeriod ≤ s.now → s.dp.gwd.warned = true → Completes .globalWatchdogExpiry s (s.enterReset 6)) ∧
      (s.now < t0 + 2 * s.gwdPeriod ∨ s.dp.gwd.warned = false → Completes .globalWatchdogExpiry s s)) ∧
    (s.dp.gwd.since = none → Completes .globalWatchdogExpiry s s) ∧
    (s.wakeEn &&& wakeBit w = 0 ∨ s.pw.inReset ≠ none → Completes (.wake w) s s) ∧
    (s.wakeEn &&& wakeBit w ≠ 0 → s.pw.inReset = none →
      (s.pw.sleep = true → Completes (.wake w) s (s.modPw (fun x => { x with wakeHeld := x.wakeHeld ||| wakeBit w }))) ∧
      (s.pw.sleep = false → s.pw.mode = .dormant → Completes (.wake w) s (leaves (wakeBit w))) ∧
      (s.pw.sleep = false → s.pw.mode ≠ .dormant → Completes (.wake w) s s)) ∧
    (s.pw.sleep = true → s.pw.inReset = none → s.pw.wakeHeld = 0 → ∃ t, Completes .dormantEntryComplete s t ∧ t.pw.mode = .dormant ∧
      t.pw.sleep = false ∧ t.pw.modeReq = none ∧ t.pw.modeStat = .ok ∧ t.pw.don = 0x80054007 ∧ t.pw.dret = 0x80054000 ∧
      t.pw.sleptFrom = s.rtc.sec) ∧
    (s.pw.sleep = false → Completes .dormantEntryComplete s s) ∧
    (s.pw.mode = .dormant → s.pw.inReset = none → wk.getLsbD 23 = true → fcsGood frame = true → s.pw.sleep = false →
      frame.take 6 = s.wakeMac p ∨ frame.take 6 = List.replicate 6 0xFF → s.wakeEn &&& bit_ = 0 →
      (∀ i, s.wakeHit p frame = some (.inl i) →
        Completes (.wakeMatch p frame) s ((s.setReg (aBH p 0x3001) (wd (2 ^ 23 + i))).occurV 0x8E 0)) ∧
      (s.wakeHit p frame = none → Completes (.wakeMatch p frame) s s)) ∧
    (wk.getLsbD 23 = false ∨ s.pw.mode ≠ .dormant ∨ fcsGood frame = false → Completes (.wakeMatch p frame) s s) ∧
    (s.pw.mode = .keepalive → s.pw.inReset = none → s.pw.ioAonGood = false → (s.reg (aRTC 0xE)).getLsbD 22 = true →
      Completes (.keepaliveWake true) s (s.modPw (fun x => { x with supplyEn := true, kaWake := true }))) ∧
    ((s.reg (aRTC 0xE)).getLsbD 22 = false → Completes (.keepaliveWake true) s s) ∧
    ((s.reg (aRTC 0xE)).getLsbD 23 = false ∨ s.rtc.almDue = false → Completes (.keepaliveWake false) s s) ∧
    (s.pw.mode = .keepalive → s.pw.inReset = none → s.pw.ioAonGood = true → (s.reg (aRTC 0xE)).getLsbD 22 = true →
      ∃ t, Completes (.keepaliveWake true) s t ∧ t.pw.inReset = some 10 ∧ t.pw.don = 7 ∧ t.pw.supplyEn = true)

/-- R647–R649, R651–R659, Tables 15-2, 15-6 and 15-7: the supplies, VBAT and PFAIL_N, and the real-time clock with its
commands, alarm and crystal.
Where the spec is silent it follows log 41, the model's choice. -/
def Obligations.SuppliesAndRtc : Prop :=
  ∀ (s : State) (src : Src),
    let pw := fun (f : Power → Power) => s.modPw f
    let stat := s.reg (aRTC 7)
    let cmd := aRTC 0xB
    let x := s.rtc
    let pulse := x.sub + pulseCounts s.trim x.win
    let set := fun (u : State) (sec sub : Nat) => u.rtc.sec = sec ∧ u.rtc.sub = sub ∧ u.rtc.staged = none ∧
      (u.reg (aRTC 7)).getLsbD 23 = true ∧ (∀ i < 23, (u.reg (aRTC 7)).getLsbD i = stat.getLsbD i)
    (s.pw.ioAonGood = true → Completes .supplyGood s s ∧ Completes .vbatSwitchOver s s) ∧
    (s.pw.ioAonGood = false → s.pw.mode = .keepalive → ∃ t, Completes .supplyGood s t ∧ t.pw.ioAonGood = true ∧
      t.pw.inReset = some (if s.pw.kaWake then 10 else 0) ∧ t.pw.don = 7 ∧ t.pw.rtcLocked = false ∧ t.rtc.sec = x.sec) ∧
    (s.pw.ioAonGood = false → s.pw.mode = .off → ∃ t, Completes .supplyGood s t ∧ t.pw.ioAonGood = true ∧ t.pw.don = 7 ∧ t.rtc = {}) ∧
    (s.pw.mainGood = true → Completes .mainSuppliesGood s s) ∧
    (s.pw.mainGood = false → s.pw.inReset = none ∨ s.pw.ioAonGood = false →
      Completes .mainSuppliesGood s (pw (fun p => { p with mainGood := true }))) ∧
    (s.pw.mainGood = false → s.pw.inReset.isSome = true → s.pw.ioAonGood = true → ∃ t,
      Completes .mainSuppliesGood s t ∧ t.pw.mainGood = true ∧ ∀ d, d ∈ startDomains → t.on d = true) ∧
    (s.pw.ioAonGood = false → Completes .supplyFailure s s) ∧
    (s.pw.ioAonGood = true → ∃ t, Completes .supplyFailure s t ∧ t.pw.ioAonGood = false ∧ t.pw.mainGood = false ∧
      t.pw.mode = (if s.pw.vbatGood then .keepalive else .off) ∧ t.pw.don = (if s.pw.vbatGood then 1 else 0) ∧
      t.pw.rtcLocked = true ∧ t.pw.inReset = none ∧
      (s.pw.vbatGood = true → t.rtc.sec = x.sec ∧ t.rtc.staged = none ∧ ((t.reg (aRTC 7)).getLsbD 21 = (stat.getLsbD 21 || x.staged.isSome)))) ∧
    (s.pw.ioAonGood = false → s.pw.vbatGood = true → s.pw.onVbat = false → ∃ t, Completes .vbatSwitchOver s t ∧
      t.pw.onVbat = true ∧ t.pw.noteVbat = true ∧ fld (t.reg (aRTC 7)) 15 0 = min (fld stat 15 0 + 1) 65535 ∧ t.rtc = s.rtc) ∧
    (s.pw.ioAonGood = true → s.pw.onVbat = true → Completes .vddIoReturn s (pw (fun p => { p with onVbat := false }))) ∧
    (s.pw.ioAonGood = false → Completes .vddIoReturn s s) ∧
    (s.pw.mode = .off → s.pw.ioAonGood = false → ∃ t, Completes .vbatRise s t ∧ t.pw.vbatGood = true ∧ t.pw.mode = .keepalive ∧
      t.pw.don = 1 ∧ t.rtc = {} ∧ (t.reg (aRTC 7)).getLsbD 23 = false) ∧
    (s.pw.mode ≠ .off → Completes .vbatRise s ((pw (fun p => { p with vbatGood := true })).setRegFld (aRTC 7) 20 20 0)) ∧
    (s.pw.mode = .keepalive → s.pw.ioAonGood = false → ∃ t, Completes .vbatFall s t ∧ t.pw.mode = .off ∧ t.pw.don = 0 ∧
      t.pw.vbatGood = false ∧ t.pw.onVbat = false) ∧
    (s.pw.mode ≠ .keepalive → Completes .vbatFall s (pw (fun p => { p with vbatGood := false }))) ∧
    (s.pw.ioAonGood = true → s.on dAON = true → ∃ t, Completes .vbatLow s t ∧ (t.reg (aRTC 7)).getLsbD 20 = true ∧
      t.dp.inflight = s.dp.inflight ++ [774]) ∧
    (s.pw.ioAonGood = false → Completes .vbatLow s s) ∧
    (s.on dAON = true → s.pw.pfailLow = false → (s.reg (aHM 5)).getLsbD 23 = false →
      Completes .pfailNFall s ((pw (fun p => { p with pfailLow := true })).raise 771)) ∧
    (s.on dAON = true → s.pw.pfailLow = false → (s.reg (aHM 5)).getLsbD 23 = true → s.hm.snap = none → s.on dMRAM = true →
      Completes .pfailNFall s (((pw (fun p => { p with pfailLow := true })).raise 771).modHm (fun h => { h with snap := some false }))) ∧
    (s.on dAON = true → s.pw.pfailLow = true → s.wakeEn = 0 →
      Completes .pfailNRise s ((pw (fun p => { p with pfailLow := false })).raise 772)) ∧
    (Allowed s src false cmd → s.pw.rtcLocked = false →
      Completes (.rtcLoad src) s ((s.modRtc (fun r => { r with staged := some false })).answered src cmd .ok) ∧
      (s.on dSC = true → Completes (.rtcSync src) s ((s.modRtc (fun r => { r with staged := some true })).answered src cmd .ok)) ∧
      (s.on dSC = false → Completes (.rtcSync src) s (s.answered src cmd .state))) ∧
    (Allowed s src false cmd → s.pw.rtcLocked = true → Completes (.rtcLoad src) s (s.answered src cmd .ok)) ∧
    (s.on dBKP = true → x.stopped = false →
      (x.staged = none → Completes .rtcCommandApply s s) ∧
      (x.staged = some false → ∃ t, Completes .rtcCommandApply s t ∧
        set t (long (s.reg (aRTC 8)) (s.reg (aRTC 9))).toNat (fld (s.reg (aRTC 0xA)) 14 0)) ∧
      (x.staged = some true → s.on dSC = true → ∃ t, Completes .rtcCommandApply s t ∧
        set t (s.sc.time / 2 ^ 72 % 2 ^ 48) (s.sc.time / 2 ^ 57 % 2 ^ 15)) ∧
      (x.staged = some true → s.on dSC = false → Completes .rtcCommandApply s (s.modRtc (fun r => { r with staged := none })))) ∧
    (x.stopped = true → Completes .rtcCommandApply s s ∧ s.rtcPulse = s) ∧
    (x.stopped = false → x.sub < 32768 → s.rtcPulse.rtc.sec * 32768 + s.rtcPulse.rtc.sub = if pulse < 32768 then x.sec * 32768 + pulse
      else (x.sec + 1) % 2 ^ 48 * 32768 + (pulse - 32768)) ∧
    (s.on dBKP = true → x.almDue = true →
      (s.pw.mode = .service → s.pw.inReset = none → s.wakeEn = 0 → ∃ t, Completes .rtcAlarm s t ∧ (t.reg (aRTC 7)).getLsbD 19 = true ∧
        t.rtc.almDue = false ∧ t.dp.inflight = s.dp.inflight ++ [773]) ∧
      (s.pw.mode = .keepalive → s.pw.inReset = none → s.pw.ioAonGood = false → ∃ t, Completes .rtcAlarm s t ∧ t.pw.supplyEn = true ∧
        (t.reg (aRTC 7)).getLsbD 19 = true)) ∧
    (x.almDue = false → Completes .rtcAlarm s s) ∧
    (s.on dAON = true → x.stopped = false → ∃ t, Completes .oscillatorStop s t ∧ t.rtc.stopped = true ∧
      (t.reg (aRTC 7)).getLsbD 22 = true ∧ t.dp.inflight = s.dp.inflight ++ [775] ∧ t.hm.pending = s.hm.pending ++ [(0x07, 0)]) ∧
    (x.stopped = true → Completes .oscillatorStop s s) ∧
    Completes .oscillatorRestart s (s.modRtc (fun r => { r with stopped := false })) ∧
    (s.reg (aRTC 5) = 0 → x.sec = 0 → s.calendar = (0x1EC841, 0xB00000)) ∧
    civil 20240 = (2025, 6, 1)

/-- R663–R673, Tables 16-1, 16-5: temperature samples with their warning and trip, ageing measurements, and predictions.
Where the spec is silent it follows log 44, the model's choice. -/
def Obligations.Health : Prop :=
  ∀ (s : State) (src : Src) (i : Fin 12) (m : Fin 24) (t0 : BitVec 10) (counts : List (Nat × Nat)) (d : Nat),
    let x := s.hm
    let u := s.modHm (fun h => { h with
      temps := mapSet h.temps i.val t0
      tripRuns := mapUpd (fun _ => 0) h.tripRuns i.val (fun n => if 4 * s.ttrip ≤ t0.toInt then n + 1 else 0)
      coolRun := if i.val = 0 then (if t0.toInt ≤ 4 * (s.ttrip - 20) then h.coolRun + 1 else 0) else h.coolRun })
    let pre := mapGet (fun _ => 0) x.tripRuns i.val
    let hot := decide (4 * s.ttrip ≤ t0.toInt)
    let a := s.monitor m.val
    let go := aHM 0x26
    (s.on (sensorDomain i.val) = false → Completes (.temperatureSample i t0) s s) ∧
    (s.on (sensorDomain i.val) = true → hot = false ∨ pre < 999 →
      (∀ t k, u.hottest = some (t, k) → 4 * s.twarn ≤ t → x.twarned = false → Completes (.temperatureSample i t0) s
        (((u.modHm (fun h => { h with twarned := true })).raise 833).occurV 0xC0 (wd k))) ∧
      (∀ t k, u.hottest = some (t, k) → t < 4 * s.twarn → 4 * (s.twarn - 5) ≤ t → Completes (.temperatureSample i t0) s u) ∧
      (∀ t k, u.hottest = some (t, k) → t < 4 * (s.twarn - 5) → Completes (.temperatureSample i t0) s
        (u.modHm (fun h => { h with twarned := false })))) ∧
    (s.on (sensorDomain i.val) = true → s.on dAON = true → hot = true → 999 ≤ pre → s.pw.inReset = none →
      ∃ t, Completes (.temperatureSample i t0) s t ∧ t.pw.inReset = some 11 ∧ t.pw.resetAt = s.now) ∧
    (100 ≤ s.ttrip ∧ s.ttrip ≤ 125) ∧
    (∀ t k, s.hottest = some (t, k) → k < 12 ∧ s.tempOf k = some t ∧ ∀ j < 12, ∀ v, s.tempOf j = some v → v ≤ t) ∧
    (s.on dAON = true → x.hotAt + 3000000000 ≤ s.now → ∀ t k, s.hottest = some (t, k) →
      let w := BitVec.ofInt 24 (t.fdiv 4)
      Completes .highestTemperatureRecord s
        (((s.modHm (fun h => { h with hotAt := s.now })).occurV 0xC2 w).occurV 0xC3 w)) ∧
    (s.now < x.hotAt + 3000000000 → Completes .highestTemperatureRecord s s) ∧
    (s.on dAON = true → (s.reg (aHM 0)).getLsbD 23 = true → s.rtc.sec % 3600 = 0 → x.ageSec ≠ some s.rtc.sec →
      Completes (.ageingMeasurement counts) s ((s.measureAll counts).modHm (fun h => { h with ageSec := some s.rtc.sec }))) ∧
    ((s.reg (aHM 0)).getLsbD 23 = false ∨ s.rtc.sec % 3600 ≠ 0 ∨ x.ageSec = some s.rtc.sec →
      Completes (.ageingMeasurement counts) s s) ∧
    (∀ nref nstr, (nref = 0 ∨ nstr = 0 → s.measure m.val nref nstr = s.occurV 0xC9 (wd m.val)) ∧
      (0 < nref → nstr ≠ 0 → fld (s.reg (aHM 0x23)) 16 0 > min (degradation nref nstr (fld (s.reg (aHM (0x62 + 4 * m.val))) 15 0)) 131071 →
        s.measure m.val nref nstr = s.setMonitor m.val { a with
          valid := true, d := min (degradation nref nstr (fld (s.reg (aHM (0x62 + 4 * m.val))) 15 0)) 131071
          hours := min (a.hours + b2n (s.onForHour (monitorDomain m.val))) 16777215, warned := false })) ∧
    (degradation 1000000 990000 d = 10000 - d) ∧
    (a.d = 0 ∨ a.hours < 168 → a.predict = 0xFFFFFF) ∧
    (30000 ≤ a.d → 168 ≤ a.hours → a.predict = 0) ∧
    (s.on dAON = true → s.rtc.sec % 86400 = 3600 → x.predSec ≠ some s.rtc.sec → x.predRun = false →
      (s.on dMRAM = true → Completes .prediction s
        (s.modHm (fun h => { h with predRun := true, predDue := false, predSec := some s.rtc.sec }))) ∧
      (s.on dMRAM = false → Completes .prediction s
        (s.modHm (fun h => { h with predDue := true, predSec := some s.rtc.sec })))) ∧
    (s.rtc.sec % 86400 ≠ 3600 → s.on dMRAM = true → x.predDue = true → x.predRun = false →
      Completes .prediction s (s.modHm (fun h => { h with predRun := true, predDue := false }))) ∧
    (s.rtc.sec % 86400 ≠ 3600 → x.predDue = false → Completes .prediction s s) ∧
    (Allowed s src false go →
      (x.predRun = true → Completes (.hmPredcmd src) s (s.answered src go .busy)) ∧
      (x.predRun = false → s.on dMRAM = true → Completes (.hmPredcmd src) s
        ((s.modHm (fun h => { h with predRun := true, predDue := false })).answered src go .ok))) ∧
    (s.on dMRAM = true → x.predRun = true → ∃ t, Completes .predictionDone s t ∧ t.hm.predRun = false ∧
      (t.monitor m.val).eol = a.predict ∧ (t.reg (aHM 0x27)).toNat ≤ a.predict.toNat ∧ t.mram = s.mram) ∧
    (x.predRun = false → Completes .predictionDone s s)

/-- R674–R689, Tables 16-2 to 16-5: occurrences reach their records, firmware's own codes, the windows, the configuration and
edges of a code, and snapshots.
Where the spec is silent it follows log 31, the model's choice. -/
def Obligations.Recorder : Prop :=
  ∀ (s : State) (src : Src) (code : Byte) (v w : Word) (n : Fin 2) (clr : Bool),
    let x := s.hm
    let k := code.toNat
    let c := s.occConfig k
    let r := s.occRecord k
    let now := stampAfter x.lastStamp s.stampTime
    let waiting := s.hm.pending.filter (fun p => p.1 == code)
    let rest := s.modHm (fun h => { h with pending := h.pending.filter (fun p => p.1 != code) })
    let sel := s.cfgCode
    let cs := s.occConfig sel
    let cur := aHM (0x140 + 0x100 * n.val)
    let per := fld (s.reg (aHM 5)) 15 0 * 180000000000
    (s.on dAON = true → waiting = [] → Completes (.occurrenceUpdate code) s rest) ∧
    (s.on dAON = true → waiting = [(code, w)] → c.nen = false → c.histogram = false → r.sat = false → r.count < 2 ^ 48 - 1 →
      -(2 ^ 71) ≤ r.sum + c.num w → r.sum + c.num w < 2 ^ 71 → ∃ t, Completes (.occurrenceUpdate code) s t ∧
        (t.occRecord k).count = r.count + 1 ∧ (t.occRecord k).sum = r.sum + c.num w ∧ (t.occRecord k).last = now ∧
        (t.occRecord k).sat = false ∧
        (t.occRecord k).min = (if r.count = 0 ∨ c.num w < c.num r.min then w else r.min) ∧
        (t.occRecord k).max = (if r.count = 0 ∨ c.num r.max ≤ c.num w then w else r.max) ∧
        t.hm.pending = x.pending.filter (fun p => p.1 != code) ∧ t.dp = s.dp ∧ ∀ j, j ≠ k → t.occRecord j = s.occRecord j) ∧
    (s.on dAON = true → waiting = [(code, w)] → c.nen = false → c.histogram = true → r.sat = false → r.count < 2 ^ 48 - 1 →
      mapGet (fun _ => 0) r.bins (c.bin w) < 2 ^ 48 - 1 → ∃ t, Completes (.occurrenceUpdate code) s t ∧
        (t.occRecord k).count = r.count + 1 ∧
        mapGet (fun _ => 0) (t.occRecord k).bins (c.bin w) = mapGet (fun _ => 0) r.bins (c.bin w) + 1 ∧
        ∀ b, b ≠ c.bin w → mapGet (fun _ => 0) (t.occRecord k).bins b = mapGet (fun _ => 0) r.bins b) ∧
    (s.on dAON = true → waiting = [(code, w)] → r.count = 2 ^ 48 - 1 → r.sat = false → c.nen = false → code ≠ 0xCD → ∃ t,
      Completes (.occurrenceUpdate code) s t ∧ (t.occRecord k).count = 2 ^ 48 - 1 ∧ (t.occRecord k).sat = true ∧
        t.hm.pending = x.pending.filter (fun p => p.1 != code) ++ [(0xCD, wd k)]) ∧
    (s.on dAON = false → Completes (.occurrenceUpdate code) s s) ∧
    (Allowed s src false (aHM 3) →
      (fld v 23 16 < 0xD0 → Completes (.hmRec src v) s (s.answered src (aHM 3) .badarg)) ∧
      (0xD0 ≤ fld v 23 16 → ∃ y : Word, y.setWidth 16 = v.setWidth 16 ∧
        Completes (.hmRec src v) s ((s.occurV (fld v 23 16) y).answered src (aHM 3) .ok) ∧
        y = if (s.occConfig (fld v 23 16)).signed then (v.setWidth 16).signExtend 24 else (v.setWidth 16).setWidth 24)) ∧
    (Allowed s src false cur → v.getLsbD 23 = false →
      (255 < fld v 12 0 → Completes (.hmCurWrite src n v) s (s.answered src cur .badarg)) ∧
      (fld v 12 0 ≤ 255 → v.getLsbD 22 = false → (s.occConfig (fld v 12 0)).edges.length = 15 → ∃ t,
        Completes (.hmCurWrite src n v) s t ∧ t.lastStatus = .ok ∧
        (∀ j < 62, t.reg (aHM (0x100 + 0x100 * n.val + j)) =
          (recordWords (fld v 12 0) (s.occConfig (fld v 12 0)) (s.occRecord (fld v 12 0))).getD j 0) ∧
        t.hm.records = x.records) ∧
      (fld v 12 0 ≤ 255 → v.getLsbD 22 = true → ∃ t, Completes (.hmCurWrite src n v) s t ∧ t.occRecord (fld v 12 0) = {})) ∧
    (Allowed s src true (aHM (0x13F + 0x100 * n.val)) → (s.reg cur).getLsbD 23 = false → ∃ t,
      Completes (.hmWindowAdvance src n) s t ∧ t.readback = s.reg (aHM (0x13F + 0x100 * n.val)) ∧ t.lastStatus = .ok ∧
        fld (t.reg cur) 12 0 = (fld (s.reg cur) 12 0 + 1) % 256) ∧
    (Allowed s src false (aHM 0x13) →
      let e := { cs with edges := cs.edges.set s.edgeIdx v }
      (e.rising = false → Completes (.hmEdgedataWrite src v) s (s.answered src (aHM 0x13) .badarg)) ∧
      (e.rising = true → ∃ t, Completes (.hmEdgedataWrite src v) s t ∧ t.lastStatus = .ok ∧ t.occConfig sel = e ∧
        (cs.histogram = true → t.occRecord sel = {}) ∧ (cs.histogram = false → t.occRecord sel = s.occRecord sel) ∧
        fld (t.reg (aHM 0x12)) 3 0 = (max (fld (s.reg (aHM 0x12)) 3 0) 1 + 1) % 16)) ∧
    (Allowed s src false (aHM 0x11) →
      (0xE0 ≤ sel → 2 ≤ fld v 23 22 → Completes (.hmCfgWrite src v) s (s.answered src (aHM 0x11) .badarg)) ∧
      (sel < 0xE0 → ∃ t, Completes (.hmCfgWrite src v) s t ∧ t.lastStatus = .ok ∧ (t.occConfig sel).histogram = cs.histogram ∧
        (t.occConfig sel).signed = cs.signed ∧ (t.occConfig sel).nen = v.getLsbD 20 ∧
        (t.occConfig sel).nbin.toNat = fld v 4 1 ∧ t.occRecord sel = s.occRecord sel) ∧
      (0xE0 ≤ sel → fld v 23 22 < 2 → ∃ t, Completes (.hmCfgWrite src v) s t ∧ t.lastStatus = .ok ∧
        (t.occConfig sel).histogram = decide (fld v 23 22 = 0) ∧ (t.occConfig sel).signed = v.getLsbD 21 ∧
        t.occRecord sel = {})) ∧
    (Allowed s src false (aHM 4) → v.getLsbD 23 = true →
      (x.snap.isSome = true → Completes (.hmSnap src v) s (s.answered src (aHM 4) .busy)) ∧
      (x.snap = none → s.on dMRAM = false → Completes (.hmSnap src v) s (s.answered src (aHM 4) .state)) ∧
      (x.snap = none → s.on dMRAM = true → Completes (.hmSnap src v) s
        ((s.modHm (fun h => { h with snap := some (v.getLsbD 22) })).answered src (aHM 4) .ok))) ∧
    (s.on dAON = true → per ≠ 0 → x.snapAt + per ≤ s.now → x.snap = none →
      (s.on dMRAM = true → Completes .periodicSnapshot s (s.modHm (fun h => { h with snapAt := s.now, snap := some false }))) ∧
      (s.on dMRAM = false → Completes .periodicSnapshot s (s.modHm (fun h => { h with snapAt := s.now, snapDue := true })))) ∧
    (per = 0 ∨ s.now < x.snapAt + per → x.snapDue = false → Completes .periodicSnapshot s s) ∧
    (x.snap = some clr → s.on dMRAM = true → s.fullCodes = [] → ∃ t, Completes .snapshotDone s t ∧ t.hm.snap = none ∧
      fld (t.reg (aHM 6)) 23 0 = (fld (s.reg (aHM 6)) 23 0 + 1) % 2 ^ 24 ∧
      fld (t.reg (aHM 7)) 12 0 = (s.ringHead + 1) % 8192 ∧ t.slotValid s.ringHead = true ∧
      ∃ l, t.dp.inflight = s.dp.inflight ++ l ++ [838]) ∧
    (x.snap = none ∨ s.on dMRAM = false → Completes .snapshotDone s s)

/-- R134, R551, R640, R660, R661, Tables 15-3, 15-8, 15-10: the state after reset as the spec gives it: START with its event on
the way, the START domains on, shunter 48 at the boot ROM and every other halted, register words at their reset values, and
no command waiting. The values that the spec leaves open are logs 4 to 8 and no part of this. -/
def Obligations.ResetState : Prop :=
  let s := State.reset
  s.pending = [] ∧ Memory.wf s = true ∧ s.pw.mode = .start ∧ s.pw.inReset = none ∧ s.dp.inflight = [768] ∧
  (∀ d : Fin 32, s.on d.val = (decide (d.val < 19) || decide (30 ≤ d.val))) ∧
  (s.shunter 48).run = .running ∧ (s.shunter 48).pc = 0x1F000 ∧ (∀ sh : Sh, sh ≠ 48 → (s.shunter sh).run = .halted) ∧
  (s.reg (aDP 6 0)) = 0x800000 ∧ (s.pwRead (aPW 0)).1 = 0x600000 ∧ s.reg (aPW 6) = 0x555000 ∧ s.reg (aPW 0x10) = 0x07FFFF ∧
  (s.pwRead (aPW 0x14)).1 = 0x07FFFF ∧ (s.pwRead (aPW 0x15)).1 = 0xC0 ∧ s.calendar = (0x1EC841, 0xB00000) ∧
  s.rtc.sec = 0 ∧ s.sb.state = .idle ∧ s.up.boot = .steady ∧ s.up.session = .none ∧ s.kv.ent = .init ∧ s.kv.ready = false

/-- A step runs the command at the front of the queue with the queue's rest; with no command waiting one core cycle passes, in
which the clocks count and each shunter that can issue runs its next instruction (log 2, the model's choice). -/
def Obligations.StepRunsTheFront : Prop :=
  (∀ (c : Instr) (r : List Instr) (s : State), s.pending = c :: r → step s = exec c { s with pending := r }) ∧
  (∀ s : State, s.pending = [] → step s = .next s.tick) ∧
  (∀ (s t : State) (sh : Sh), s.on (6 + sh.val / 8) = true → (s.shunter sh).canIssue = true → sh.val / 8 ≠ 6 → s.dp.codeEcc = [] →
    exec (Nimvor.decode sh (s.codeWord (sh.val / 8) (s.shunter sh).pc.toNat) (s.codeWord (sh.val / 8) ((s.shunter sh).pc + 1).toNat)) s =
      .next t → s.runOne sh = t)

/-- Every step keeps the memories in their canonical form, in which equal memories are equal data: keys strictly rising, and
no entry equal to what an unlisted address reads as. -/
def Obligations.MemoryStaysCanonical : Prop :=
  ∀ s t : State, Memory.wf s = true → step s = .next t → Memory.wf t = true

/-- R691–R695, R710, Tables 17-1 to 17-5: every well-formed instruction decodes from its words as itself, with every operand at
every value the encoding admits. -/
def Obligations.InstructionRoundTrip : Prop :=
  ∀ (c : Instr) (sh : Sh) (w y : Word) (x : Option Word), c.wf = true → Nimvor.shunterOf c = some sh →
    Nimvor.encode c = some (w, x) → Nimvor.decode sh w (x.getD y) = c

/-- R693: a pair of words is ILLEGAL, or spells one well-formed instruction of its shunter whose own words they are: no word
has two meanings, and no bit of one is dropped. -/
def Obligations.InstructionWordsFaithful : Prop :=
  ∀ (sh : Sh) (w x : Word),
    Nimvor.decode sh w x = .illegal sh w x ∨
      ((Nimvor.decode sh w x).wf = true ∧ Nimvor.shunterOf (Nimvor.decode sh w x) = some sh ∧
        ∃ e, Nimvor.encode (Nimvor.decode sh w x) = some (w, e) ∧ (e = none ∨ e = some x))

/-- No command stops the block: in every state every command has a next state. -/
def Obligations.NothingStops : Prop :=
  ∀ (c : Instr) (s : State), ∃ t, exec c s = .next t
end

