-- ==== Sys2Proof/Laws/Bus.lean ====
section
/-! SUPPORT. Laws of the accesses: what an allowed write or read answers, and which block takes it. -/

namespace Sys2Proof.Machine

/-- An allowed write is answered by the main store or by its block. -/
theorem State.regWrite_allowed {s : State} {src : Src} {a : Nat} (h : Allowed s src false a) (v : Word) :
    s.regWrite src a v = .next (if baseMain ≤ a then (s.setMain a v).answered src a .ok
      else (s.blockWrite src a v).2.answered src a (s.blockWrite src a v).1) := by
  unfold State.regWrite
  rw [h.1]
  simp only [if_true]
  unfold State.writeWord
  rw [h.2]
  dsimp only
  split <;> rfl

/-- An allowed write of a register is answered by its block. -/
theorem State.regWrite_reg {s : State} {src : Src} {a : Nat} (h : Allowed s src false a) (ha : a < baseMain) (v : Word)
    {st : Status} {u : State} (hb : s.blockWrite src a v = (st, u)) : s.regWrite src a v = .next (u.answered src a st) := by
  rw [State.regWrite_allowed h, if_neg (Nat.not_le_of_lt ha), hb]

/-- An allowed read of a register is answered by its block. -/
theorem State.regRead_reg {s : State} {src : Src} {a : Nat} (h : Allowed s src true a) (ha : a < baseMain) {v : Word}
    {u : State} (hb : s.blockRead src a = (v, .ok, u)) : s.regRead src a = .next (u.answeredRead src a v) := by
  unfold State.regRead
  rw [h.1]
  simp only [if_true]
  unfold State.readWord
  rw [h.2]
  dsimp only
  rw [if_neg (Nat.not_le_of_lt ha), hb]
  rfl

/-- A write of the queue descriptor window. -/
theorem State.blockWrite_qdw {s : State} {src : Src} {a : Nat} {v : Word} (h : baseQDW ≤ a) :
    s.blockWrite src a v = s.qdwWrite a v := if_pos h

theorem State.blockWrite_0 {s : State} {src : Src} {a : Nat} {v : Word} (h : 0x100000 ≤ a) (h2 : a < 0x110000) :
    s.blockWrite src a v = s.pwWrite src a v := by
  have hq : ¬ baseQDW ≤ a := by unfold baseQDW; omega
  have hb : (a - blk 0) / 0x10000 = 0 := by unfold blk; omega
  simp only [State.blockWrite, if_neg hq, hb]

theorem State.blockWrite_1 {s : State} {src : Src} {a : Nat} {v : Word} (h : 0x110000 ≤ a) (h2 : a < 0x120000) :
    s.blockWrite src a v = s.scWrite a v := by
  have hq : ¬ baseQDW ≤ a := by unfold baseQDW; omega
  have hb : (a - blk 0) / 0x10000 = 1 := by unfold blk; omega
  simp only [State.blockWrite, if_neg hq, hb]

theorem State.blockWrite_2 {s : State} {src : Src} {a : Nat} {v : Word} (h : 0x120000 ≤ a) (h2 : a < 0x130000) :
    s.blockWrite src a v = s.feWrite a v := by
  have hq : ¬ baseQDW ≤ a := by unfold baseQDW; omega
  have hb : (a - blk 0) / 0x10000 = 2 := by unfold blk; omega
  simp only [State.blockWrite, if_neg hq, hb]

theorem State.blockWrite_3 {s : State} {src : Src} {a : Nat} {v : Word} (h : 0x130000 ≤ a) (h2 : a < 0x140000) :
    s.blockWrite src a v = s.lnWrite a v := by
  have hq : ¬ baseQDW ≤ a := by unfold baseQDW; omega
  have hb : (a - blk 0) / 0x10000 = 3 := by unfold blk; omega
  simp only [State.blockWrite, if_neg hq, hb]

theorem State.blockWrite_4 {s : State} {src : Src} {a : Nat} {v : Word} (h : 0x140000 ≤ a) (h2 : a < 0x150000) :
    s.blockWrite src a v = s.txWrite a v := by
  have hq : ¬ baseQDW ≤ a := by unfold baseQDW; omega
  have hb : (a - blk 0) / 0x10000 = 4 := by unfold blk; omega
  simp only [State.blockWrite, if_neg hq, hb]

theorem State.blockWrite_5 {s : State} {src : Src} {a : Nat} {v : Word} (h : 0x150000 ≤ a) (h2 : a < 0x160000) :
    s.blockWrite src a v = s.sbWrite a v := by
  have hq : ¬ baseQDW ≤ a := by unfold baseQDW; omega
  have hb : (a - blk 0) / 0x10000 = 5 := by unfold blk; omega
  simp only [State.blockWrite, if_neg hq, hb]

theorem State.blockWrite_6 {s : State} {src : Src} {a : Nat} {v : Word} (h : 0x160000 ≤ a) (h2 : a < 0x170000) :
    s.blockWrite src a v = s.ptWrite src a v := by
  have hq : ¬ baseQDW ≤ a := by unfold baseQDW; omega
  have hb : (a - blk 0) / 0x10000 = 6 := by unfold blk; omega
  simp only [State.blockWrite, if_neg hq, hb]

theorem State.blockWrite_7 {s : State} {src : Src} {a : Nat} {v : Word} (h : 0x170000 ≤ a) (h2 : a < 0x180000) :
    s.blockWrite src a v = s.ydWrite a v := by
  have hq : ¬ baseQDW ≤ a := by unfold baseQDW; omega
  have hb : (a - blk 0) / 0x10000 = 7 := by unfold blk; omega
  simp only [State.blockWrite, if_neg hq, hb]

theorem State.blockWrite_8 {s : State} {src : Src} {a : Nat} {v : Word} (h : 0x180000 ≤ a) (h2 : a < 0x190000) :
    s.blockWrite src a v = s.bhWrite a v := by
  have hq : ¬ baseQDW ≤ a := by unfold baseQDW; omega
  have hb : (a - blk 0) / 0x10000 = 8 := by unfold blk; omega
  simp only [State.blockWrite, if_neg hq, hb]

theorem State.blockWrite_9 {s : State} {src : Src} {a : Nat} {v : Word} (h : 0x190000 ≤ a) (h2 : a < 0x1A0000) :
    s.blockWrite src a v = s.kvWrite src a v := by
  have hq : ¬ baseQDW ≤ a := by unfold baseQDW; omega
  have hb : (a - blk 0) / 0x10000 = 9 := by unfold blk; omega
  simp only [State.blockWrite, if_neg hq, hb]

theorem State.blockWrite_10 {s : State} {src : Src} {a : Nat} {v : Word} (h : 0x1A0000 ≤ a) (h2 : a < 0x1B0000) :
    s.blockWrite src a v = s.upWrite src a v := by
  have hq : ¬ baseQDW ≤ a := by unfold baseQDW; omega
  have hb : (a - blk 0) / 0x10000 = 10 := by unfold blk; omega
  simp only [State.blockWrite, if_neg hq, hb]

theorem State.blockWrite_11 {s : State} {src : Src} {a : Nat} {v : Word} (h : 0x1B0000 ≤ a) (h2 : a < 0x1C0000) :
    s.blockWrite src a v = s.hcWrite a v := by
  have hq : ¬ baseQDW ≤ a := by unfold baseQDW; omega
  have hb : (a - blk 0) / 0x10000 = 11 := by unfold blk; omega
  simp only [State.blockWrite, if_neg hq, hb]

theorem State.blockWrite_12 {s : State} {src : Src} {a : Nat} {v : Word} (h : 0x1C0000 ≤ a) (h2 : a < 0x1D0000) :
    s.blockWrite src a v = s.hmWrite a v := by
  have hq : ¬ baseQDW ≤ a := by unfold baseQDW; omega
  have hb : (a - blk 0) / 0x10000 = 12 := by unfold blk; omega
  simp only [State.blockWrite, if_neg hq, hb]

theorem State.blockWrite_13 {s : State} {src : Src} {a : Nat} {v : Word} (h : 0x1D0000 ≤ a) (h2 : a < 0x1E0000) :
    s.blockWrite src a v = s.rtcWrite a v := by
  have hq : ¬ baseQDW ≤ a := by unfold baseQDW; omega
  have hb : (a - blk 0) / 0x10000 = 13 := by unfold blk; omega
  simp only [State.blockWrite, if_neg hq, hb]

theorem State.blockWrite_14 {s : State} {src : Src} {a : Nat} {v : Word} (h : 0x1E0000 ≤ a) (h2 : a < 0x1F0000) :
    s.blockWrite src a v = (.ok, s.plainWrite a v) := by
  have hq : ¬ baseQDW ≤ a := by unfold baseQDW; omega
  have hb : (a - blk 0) / 0x10000 = 14 := by unfold blk; omega
  simp only [State.blockWrite, if_neg hq, hb]

theorem State.blockWrite_15 {s : State} {src : Src} {a : Nat} {v : Word} (h : 0x1F0000 ≤ a) (h2 : a < 0x200000) :
    s.blockWrite src a v = s.dpWrite src a v := by
  have hq : ¬ baseQDW ≤ a := by unfold baseQDW; omega
  have hb : (a - blk 0) / 0x10000 = 15 := by unfold blk; omega
  simp only [State.blockWrite, if_neg hq, hb]

theorem State.blockRead_0 {s : State} {src : Src} {a : Nat} (h : 0x100000 ≤ a) (h2 : a < 0x110000) :
    s.blockRead src a = ((s.pwRead a).1, .ok, (s.pwRead a).2) := by
  have hq : ¬ baseQDW ≤ a := by unfold baseQDW; omega
  have hb : (a - blk 0) / 0x10000 = 0 := by unfold blk; omega
  simp only [State.blockRead, if_neg hq, hb]

theorem State.blockRead_1 {s : State} {src : Src} {a : Nat} (h : 0x110000 ≤ a) (h2 : a < 0x120000) :
    s.blockRead src a = ((s.scRead src a).1, .ok, (s.scRead src a).2) := by
  have hq : ¬ baseQDW ≤ a := by unfold baseQDW; omega
  have hb : (a - blk 0) / 0x10000 = 1 := by unfold blk; omega
  simp only [State.blockRead, if_neg hq, hb]

theorem State.blockRead_2 {s : State} {src : Src} {a : Nat} (h : 0x120000 ≤ a) (h2 : a < 0x130000) :
    s.blockRead src a = ((s.feRead a).1, .ok, (s.feRead a).2) := by
  have hq : ¬ baseQDW ≤ a := by unfold baseQDW; omega
  have hb : (a - blk 0) / 0x10000 = 2 := by unfold blk; omega
  simp only [State.blockRead, if_neg hq, hb]

theorem State.blockRead_3 {s : State} {src : Src} {a : Nat} (h : 0x130000 ≤ a) (h2 : a < 0x140000) :
    s.blockRead src a = ((s.lnRead a).1, .ok, (s.lnRead a).2) := by
  have hq : ¬ baseQDW ≤ a := by unfold baseQDW; omega
  have hb : (a - blk 0) / 0x10000 = 3 := by unfold blk; omega
  simp only [State.blockRead, if_neg hq, hb]

theorem State.blockRead_4 {s : State} {src : Src} {a : Nat} (h : 0x140000 ≤ a) (h2 : a < 0x150000) :
    s.blockRead src a = ((s.txRead a).1, .ok, (s.txRead a).2) := by
  have hq : ¬ baseQDW ≤ a := by unfold baseQDW; omega
  have hb : (a - blk 0) / 0x10000 = 4 := by unfold blk; omega
  simp only [State.blockRead, if_neg hq, hb]

theorem State.blockRead_5 {s : State} {src : Src} {a : Nat} (h : 0x150000 ≤ a) (h2 : a < 0x160000) :
    s.blockRead src a = ((s.sbRead a).1, .ok, (s.sbRead a).2) := by
  have hq : ¬ baseQDW ≤ a := by unfold baseQDW; omega
  have hb : (a - blk 0) / 0x10000 = 5 := by unfold blk; omega
  simp only [State.blockRead, if_neg hq, hb]

theorem State.blockRead_6 {s : State} {src : Src} {a : Nat} (h : 0x160000 ≤ a) (h2 : a < 0x170000) :
    s.blockRead src a = ((s.ptRead a).1, .ok, (s.ptRead a).2) := by
  have hq : ¬ baseQDW ≤ a := by unfold baseQDW; omega
  have hb : (a - blk 0) / 0x10000 = 6 := by unfold blk; omega
  simp only [State.blockRead, if_neg hq, hb]

theorem State.blockRead_7 {s : State} {src : Src} {a : Nat} (h : 0x170000 ≤ a) (h2 : a < 0x180000) :
    s.blockRead src a = ((s.ydRead a).1, .ok, (s.ydRead a).2) := by
  have hq : ¬ baseQDW ≤ a := by unfold baseQDW; omega
  have hb : (a - blk 0) / 0x10000 = 7 := by unfold blk; omega
  simp only [State.blockRead, if_neg hq, hb]

theorem State.blockRead_8 {s : State} {src : Src} {a : Nat} (h : 0x180000 ≤ a) (h2 : a < 0x190000) :
    s.blockRead src a = ((s.bhRead src a).1, .ok, (s.bhRead src a).2) := by
  have hq : ¬ baseQDW ≤ a := by unfold baseQDW; omega
  have hb : (a - blk 0) / 0x10000 = 8 := by unfold blk; omega
  simp only [State.blockRead, if_neg hq, hb]

theorem State.blockRead_9 {s : State} {src : Src} {a : Nat} (h : 0x190000 ≤ a) (h2 : a < 0x1A0000) :
    s.blockRead src a = ((s.kvRead a).1, .ok, (s.kvRead a).2) := by
  have hq : ¬ baseQDW ≤ a := by unfold baseQDW; omega
  have hb : (a - blk 0) / 0x10000 = 9 := by unfold blk; omega
  simp only [State.blockRead, if_neg hq, hb]

theorem State.blockRead_10 {s : State} {src : Src} {a : Nat} (h : 0x1A0000 ≤ a) (h2 : a < 0x1B0000) :
    s.blockRead src a = ((s.upRead a).1, .ok, (s.upRead a).2) := by
  have hq : ¬ baseQDW ≤ a := by unfold baseQDW; omega
  have hb : (a - blk 0) / 0x10000 = 10 := by unfold blk; omega
  simp only [State.blockRead, if_neg hq, hb]

theorem State.blockRead_12 {s : State} {src : Src} {a : Nat} (h : 0x1C0000 ≤ a) (h2 : a < 0x1D0000) :
    s.blockRead src a = ((s.hmRead a).1, .ok, (s.hmRead a).2) := by
  have hq : ¬ baseQDW ≤ a := by unfold baseQDW; omega
  have hb : (a - blk 0) / 0x10000 = 12 := by unfold blk; omega
  simp only [State.blockRead, if_neg hq, hb]

theorem State.blockRead_13 {s : State} {src : Src} {a : Nat} (h : 0x1D0000 ≤ a) (h2 : a < 0x1E0000) :
    s.blockRead src a = ((s.rtcRead a).1, .ok, (s.rtcRead a).2) := by
  have hq : ¬ baseQDW ≤ a := by unfold baseQDW; omega
  have hb : (a - blk 0) / 0x10000 = 13 := by unfold blk; omega
  simp only [State.blockRead, if_neg hq, hb]

theorem State.blockRead_14 {s : State} {src : Src} {a : Nat} (h : 0x1E0000 ≤ a) (h2 : a < 0x1F0000) :
    s.blockRead src a = ((s.frRead a).1, .ok, (s.frRead a).2) := by
  have hq : ¬ baseQDW ≤ a := by unfold baseQDW; omega
  have hb : (a - blk 0) / 0x10000 = 14 := by unfold blk; omega
  simp only [State.blockRead, if_neg hq, hb]

theorem State.blockRead_15 {s : State} {src : Src} {a : Nat} (h : 0x1F0000 ≤ a) (h2 : a < 0x200000) :
    s.blockRead src a = ((s.dpRead a).1, .ok, (s.dpRead a).2) := by
  have hq : ¬ baseQDW ≤ a := by unfold baseQDW; omega
  have hb : (a - blk 0) / 0x10000 = 15 := by unfold blk; omega
  simp only [State.blockRead, if_neg hq, hb]

end Sys2Proof.Machine
end

