-- ==== Sys2Proof/Laws/State.lean ====
section
/-! SUPPORT. Laws of the basic updates of the state: each changes one field, and the others read as before. -/

namespace Sys2Proof.Machine

@[simp] theorem State.modDp_pending (s : State) (f : Depots → Depots) : (s.modDp f).pending = s.pending := rfl
@[simp] theorem State.modDp_now (s : State) (f : Depots → Depots) : (s.modDp f).now = s.now := rfl
@[simp] theorem State.modDp_free (s : State) (f : Depots → Depots) : (s.modDp f).free = s.free := rfl
@[simp] theorem State.modDp_readback (s : State) (f : Depots → Depots) : (s.modDp f).readback = s.readback := rfl
@[simp] theorem State.modDp_lastStatus (s : State) (f : Depots → Depots) : (s.modDp f).lastStatus = s.lastStatus := rfl
@[simp] theorem State.modDp_out (s : State) (f : Depots → Depots) : (s.modDp f).out = s.out := rfl
@[simp] theorem State.modDp_regs (s : State) (f : Depots → Depots) : (s.modDp f).regs = s.regs := rfl
@[simp] theorem State.modDp_locked (s : State) (f : Depots → Depots) : (s.modDp f).locked = s.locked := rfl
@[simp] theorem State.modDp_main (s : State) (f : Depots → Depots) : (s.modDp f).main = s.main := rfl
@[simp] theorem State.modDp_locals (s : State) (f : Depots → Depots) : (s.modDp f).locals = s.locals := rfl
@[simp] theorem State.modDp_scratch (s : State) (f : Depots → Depots) : (s.modDp f).scratch = s.scratch := rfl
@[simp] theorem State.modDp_code (s : State) (f : Depots → Depots) : (s.modDp f).code = s.code := rfl
@[simp] theorem State.modDp_dram (s : State) (f : Depots → Depots) : (s.modDp f).dram = s.dram := rfl
@[simp] theorem State.modDp_mram (s : State) (f : Depots → Depots) : (s.modDp f).mram = s.mram := rfl
@[simp] theorem State.modDp_shunters (s : State) (f : Depots → Depots) : (s.modDp f).shunters = s.shunters := rfl
@[simp] theorem State.modDp_dp (s : State) (f : Depots → Depots) : (s.modDp f).dp = f s.dp := rfl
@[simp] theorem State.modDp_hm (s : State) (f : Depots → Depots) : (s.modDp f).hm = s.hm := rfl
@[simp] theorem State.modDp_sc (s : State) (f : Depots → Depots) : (s.modDp f).sc = s.sc := rfl
@[simp] theorem State.modDp_pw (s : State) (f : Depots → Depots) : (s.modDp f).pw = s.pw := rfl
@[simp] theorem State.modDp_rtc (s : State) (f : Depots → Depots) : (s.modDp f).rtc = s.rtc := rfl
@[simp] theorem State.modDp_yd (s : State) (f : Depots → Depots) : (s.modDp f).yd = s.yd := rfl
@[simp] theorem State.modDp_sb (s : State) (f : Depots → Depots) : (s.modDp f).sb = s.sb := rfl
@[simp] theorem State.modDp_fe (s : State) (f : Depots → Depots) : (s.modDp f).fe = s.fe := rfl
@[simp] theorem State.modDp_lanes (s : State) (f : Depots → Depots) : (s.modDp f).lanes = s.lanes := rfl
@[simp] theorem State.modDp_pt (s : State) (f : Depots → Depots) : (s.modDp f).pt = s.pt := rfl
@[simp] theorem State.modDp_bh (s : State) (f : Depots → Depots) : (s.modDp f).bh = s.bh := rfl
@[simp] theorem State.modDp_up (s : State) (f : Depots → Depots) : (s.modDp f).up = s.up := rfl
@[simp] theorem State.modDp_hc (s : State) (f : Depots → Depots) : (s.modDp f).hc = s.hc := rfl
@[simp] theorem State.modDp_kv (s : State) (f : Depots → Depots) : (s.modDp f).kv = s.kv := rfl

@[simp] theorem State.modHm_pending (s : State) (f : Health → Health) : (s.modHm f).pending = s.pending := rfl
@[simp] theorem State.modHm_now (s : State) (f : Health → Health) : (s.modHm f).now = s.now := rfl
@[simp] theorem State.modHm_free (s : State) (f : Health → Health) : (s.modHm f).free = s.free := rfl
@[simp] theorem State.modHm_readback (s : State) (f : Health → Health) : (s.modHm f).readback = s.readback := rfl
@[simp] theorem State.modHm_lastStatus (s : State) (f : Health → Health) : (s.modHm f).lastStatus = s.lastStatus := rfl
@[simp] theorem State.modHm_out (s : State) (f : Health → Health) : (s.modHm f).out = s.out := rfl
@[simp] theorem State.modHm_regs (s : State) (f : Health → Health) : (s.modHm f).regs = s.regs := rfl
@[simp] theorem State.modHm_locked (s : State) (f : Health → Health) : (s.modHm f).locked = s.locked := rfl
@[simp] theorem State.modHm_main (s : State) (f : Health → Health) : (s.modHm f).main = s.main := rfl
@[simp] theorem State.modHm_locals (s : State) (f : Health → Health) : (s.modHm f).locals = s.locals := rfl
@[simp] theorem State.modHm_scratch (s : State) (f : Health → Health) : (s.modHm f).scratch = s.scratch := rfl
@[simp] theorem State.modHm_code (s : State) (f : Health → Health) : (s.modHm f).code = s.code := rfl
@[simp] theorem State.modHm_dram (s : State) (f : Health → Health) : (s.modHm f).dram = s.dram := rfl
@[simp] theorem State.modHm_mram (s : State) (f : Health → Health) : (s.modHm f).mram = s.mram := rfl
@[simp] theorem State.modHm_shunters (s : State) (f : Health → Health) : (s.modHm f).shunters = s.shunters := rfl
@[simp] theorem State.modHm_dp (s : State) (f : Health → Health) : (s.modHm f).dp = s.dp := rfl
@[simp] theorem State.modHm_hm (s : State) (f : Health → Health) : (s.modHm f).hm = f s.hm := rfl
@[simp] theorem State.modHm_sc (s : State) (f : Health → Health) : (s.modHm f).sc = s.sc := rfl
@[simp] theorem State.modHm_pw (s : State) (f : Health → Health) : (s.modHm f).pw = s.pw := rfl
@[simp] theorem State.modHm_rtc (s : State) (f : Health → Health) : (s.modHm f).rtc = s.rtc := rfl
@[simp] theorem State.modHm_yd (s : State) (f : Health → Health) : (s.modHm f).yd = s.yd := rfl
@[simp] theorem State.modHm_sb (s : State) (f : Health → Health) : (s.modHm f).sb = s.sb := rfl
@[simp] theorem State.modHm_fe (s : State) (f : Health → Health) : (s.modHm f).fe = s.fe := rfl
@[simp] theorem State.modHm_lanes (s : State) (f : Health → Health) : (s.modHm f).lanes = s.lanes := rfl
@[simp] theorem State.modHm_pt (s : State) (f : Health → Health) : (s.modHm f).pt = s.pt := rfl
@[simp] theorem State.modHm_bh (s : State) (f : Health → Health) : (s.modHm f).bh = s.bh := rfl
@[simp] theorem State.modHm_up (s : State) (f : Health → Health) : (s.modHm f).up = s.up := rfl
@[simp] theorem State.modHm_hc (s : State) (f : Health → Health) : (s.modHm f).hc = s.hc := rfl
@[simp] theorem State.modHm_kv (s : State) (f : Health → Health) : (s.modHm f).kv = s.kv := rfl

@[simp] theorem State.modSc_pending (s : State) (f : Clock → Clock) : (s.modSc f).pending = s.pending := rfl
@[simp] theorem State.modSc_now (s : State) (f : Clock → Clock) : (s.modSc f).now = s.now := rfl
@[simp] theorem State.modSc_free (s : State) (f : Clock → Clock) : (s.modSc f).free = s.free := rfl
@[simp] theorem State.modSc_readback (s : State) (f : Clock → Clock) : (s.modSc f).readback = s.readback := rfl
@[simp] theorem State.modSc_lastStatus (s : State) (f : Clock → Clock) : (s.modSc f).lastStatus = s.lastStatus := rfl
@[simp] theorem State.modSc_out (s : State) (f : Clock → Clock) : (s.modSc f).out = s.out := rfl
@[simp] theorem State.modSc_regs (s : State) (f : Clock → Clock) : (s.modSc f).regs = s.regs := rfl
@[simp] theorem State.modSc_locked (s : State) (f : Clock → Clock) : (s.modSc f).locked = s.locked := rfl
@[simp] theorem State.modSc_main (s : State) (f : Clock → Clock) : (s.modSc f).main = s.main := rfl
@[simp] theorem State.modSc_locals (s : State) (f : Clock → Clock) : (s.modSc f).locals = s.locals := rfl
@[simp] theorem State.modSc_scratch (s : State) (f : Clock → Clock) : (s.modSc f).scratch = s.scratch := rfl
@[simp] theorem State.modSc_code (s : State) (f : Clock → Clock) : (s.modSc f).code = s.code := rfl
@[simp] theorem State.modSc_dram (s : State) (f : Clock → Clock) : (s.modSc f).dram = s.dram := rfl
@[simp] theorem State.modSc_mram (s : State) (f : Clock → Clock) : (s.modSc f).mram = s.mram := rfl
@[simp] theorem State.modSc_shunters (s : State) (f : Clock → Clock) : (s.modSc f).shunters = s.shunters := rfl
@[simp] theorem State.modSc_dp (s : State) (f : Clock → Clock) : (s.modSc f).dp = s.dp := rfl
@[simp] theorem State.modSc_hm (s : State) (f : Clock → Clock) : (s.modSc f).hm = s.hm := rfl
@[simp] theorem State.modSc_sc (s : State) (f : Clock → Clock) : (s.modSc f).sc = f s.sc := rfl
@[simp] theorem State.modSc_pw (s : State) (f : Clock → Clock) : (s.modSc f).pw = s.pw := rfl
@[simp] theorem State.modSc_rtc (s : State) (f : Clock → Clock) : (s.modSc f).rtc = s.rtc := rfl
@[simp] theorem State.modSc_yd (s : State) (f : Clock → Clock) : (s.modSc f).yd = s.yd := rfl
@[simp] theorem State.modSc_sb (s : State) (f : Clock → Clock) : (s.modSc f).sb = s.sb := rfl
@[simp] theorem State.modSc_fe (s : State) (f : Clock → Clock) : (s.modSc f).fe = s.fe := rfl
@[simp] theorem State.modSc_lanes (s : State) (f : Clock → Clock) : (s.modSc f).lanes = s.lanes := rfl
@[simp] theorem State.modSc_pt (s : State) (f : Clock → Clock) : (s.modSc f).pt = s.pt := rfl
@[simp] theorem State.modSc_bh (s : State) (f : Clock → Clock) : (s.modSc f).bh = s.bh := rfl
@[simp] theorem State.modSc_up (s : State) (f : Clock → Clock) : (s.modSc f).up = s.up := rfl
@[simp] theorem State.modSc_hc (s : State) (f : Clock → Clock) : (s.modSc f).hc = s.hc := rfl
@[simp] theorem State.modSc_kv (s : State) (f : Clock → Clock) : (s.modSc f).kv = s.kv := rfl

@[simp] theorem State.modPw_pending (s : State) (f : Power → Power) : (s.modPw f).pending = s.pending := rfl
@[simp] theorem State.modPw_now (s : State) (f : Power → Power) : (s.modPw f).now = s.now := rfl
@[simp] theorem State.modPw_free (s : State) (f : Power → Power) : (s.modPw f).free = s.free := rfl
@[simp] theorem State.modPw_readback (s : State) (f : Power → Power) : (s.modPw f).readback = s.readback := rfl
@[simp] theorem State.modPw_lastStatus (s : State) (f : Power → Power) : (s.modPw f).lastStatus = s.lastStatus := rfl
@[simp] theorem State.modPw_out (s : State) (f : Power → Power) : (s.modPw f).out = s.out := rfl
@[simp] theorem State.modPw_regs (s : State) (f : Power → Power) : (s.modPw f).regs = s.regs := rfl
@[simp] theorem State.modPw_locked (s : State) (f : Power → Power) : (s.modPw f).locked = s.locked := rfl
@[simp] theorem State.modPw_main (s : State) (f : Power → Power) : (s.modPw f).main = s.main := rfl
@[simp] theorem State.modPw_locals (s : State) (f : Power → Power) : (s.modPw f).locals = s.locals := rfl
@[simp] theorem State.modPw_scratch (s : State) (f : Power → Power) : (s.modPw f).scratch = s.scratch := rfl
@[simp] theorem State.modPw_code (s : State) (f : Power → Power) : (s.modPw f).code = s.code := rfl
@[simp] theorem State.modPw_dram (s : State) (f : Power → Power) : (s.modPw f).dram = s.dram := rfl
@[simp] theorem State.modPw_mram (s : State) (f : Power → Power) : (s.modPw f).mram = s.mram := rfl
@[simp] theorem State.modPw_shunters (s : State) (f : Power → Power) : (s.modPw f).shunters = s.shunters := rfl
@[simp] theorem State.modPw_dp (s : State) (f : Power → Power) : (s.modPw f).dp = s.dp := rfl
@[simp] theorem State.modPw_hm (s : State) (f : Power → Power) : (s.modPw f).hm = s.hm := rfl
@[simp] theorem State.modPw_sc (s : State) (f : Power → Power) : (s.modPw f).sc = s.sc := rfl
@[simp] theorem State.modPw_pw (s : State) (f : Power → Power) : (s.modPw f).pw = f s.pw := rfl
@[simp] theorem State.modPw_rtc (s : State) (f : Power → Power) : (s.modPw f).rtc = s.rtc := rfl
@[simp] theorem State.modPw_yd (s : State) (f : Power → Power) : (s.modPw f).yd = s.yd := rfl
@[simp] theorem State.modPw_sb (s : State) (f : Power → Power) : (s.modPw f).sb = s.sb := rfl
@[simp] theorem State.modPw_fe (s : State) (f : Power → Power) : (s.modPw f).fe = s.fe := rfl
@[simp] theorem State.modPw_lanes (s : State) (f : Power → Power) : (s.modPw f).lanes = s.lanes := rfl
@[simp] theorem State.modPw_pt (s : State) (f : Power → Power) : (s.modPw f).pt = s.pt := rfl
@[simp] theorem State.modPw_bh (s : State) (f : Power → Power) : (s.modPw f).bh = s.bh := rfl
@[simp] theorem State.modPw_up (s : State) (f : Power → Power) : (s.modPw f).up = s.up := rfl
@[simp] theorem State.modPw_hc (s : State) (f : Power → Power) : (s.modPw f).hc = s.hc := rfl
@[simp] theorem State.modPw_kv (s : State) (f : Power → Power) : (s.modPw f).kv = s.kv := rfl

@[simp] theorem State.modRtc_pending (s : State) (f : Rtc → Rtc) : (s.modRtc f).pending = s.pending := rfl
@[simp] theorem State.modRtc_now (s : State) (f : Rtc → Rtc) : (s.modRtc f).now = s.now := rfl
@[simp] theorem State.modRtc_free (s : State) (f : Rtc → Rtc) : (s.modRtc f).free = s.free := rfl
@[simp] theorem State.modRtc_readback (s : State) (f : Rtc → Rtc) : (s.modRtc f).readback = s.readback := rfl
@[simp] theorem State.modRtc_lastStatus (s : State) (f : Rtc → Rtc) : (s.modRtc f).lastStatus = s.lastStatus := rfl
@[simp] theorem State.modRtc_out (s : State) (f : Rtc → Rtc) : (s.modRtc f).out = s.out := rfl
@[simp] theorem State.modRtc_regs (s : State) (f : Rtc → Rtc) : (s.modRtc f).regs = s.regs := rfl
@[simp] theorem State.modRtc_locked (s : State) (f : Rtc → Rtc) : (s.modRtc f).locked = s.locked := rfl
@[simp] theorem State.modRtc_main (s : State) (f : Rtc → Rtc) : (s.modRtc f).main = s.main := rfl
@[simp] theorem State.modRtc_locals (s : State) (f : Rtc → Rtc) : (s.modRtc f).locals = s.locals := rfl
@[simp] theorem State.modRtc_scratch (s : State) (f : Rtc → Rtc) : (s.modRtc f).scratch = s.scratch := rfl
@[simp] theorem State.modRtc_code (s : State) (f : Rtc → Rtc) : (s.modRtc f).code = s.code := rfl
@[simp] theorem State.modRtc_dram (s : State) (f : Rtc → Rtc) : (s.modRtc f).dram = s.dram := rfl
@[simp] theorem State.modRtc_mram (s : State) (f : Rtc → Rtc) : (s.modRtc f).mram = s.mram := rfl
@[simp] theorem State.modRtc_shunters (s : State) (f : Rtc → Rtc) : (s.modRtc f).shunters = s.shunters := rfl
@[simp] theorem State.modRtc_dp (s : State) (f : Rtc → Rtc) : (s.modRtc f).dp = s.dp := rfl
@[simp] theorem State.modRtc_hm (s : State) (f : Rtc → Rtc) : (s.modRtc f).hm = s.hm := rfl
@[simp] theorem State.modRtc_sc (s : State) (f : Rtc → Rtc) : (s.modRtc f).sc = s.sc := rfl
@[simp] theorem State.modRtc_pw (s : State) (f : Rtc → Rtc) : (s.modRtc f).pw = s.pw := rfl
@[simp] theorem State.modRtc_rtc (s : State) (f : Rtc → Rtc) : (s.modRtc f).rtc = f s.rtc := rfl
@[simp] theorem State.modRtc_yd (s : State) (f : Rtc → Rtc) : (s.modRtc f).yd = s.yd := rfl
@[simp] theorem State.modRtc_sb (s : State) (f : Rtc → Rtc) : (s.modRtc f).sb = s.sb := rfl
@[simp] theorem State.modRtc_fe (s : State) (f : Rtc → Rtc) : (s.modRtc f).fe = s.fe := rfl
@[simp] theorem State.modRtc_lanes (s : State) (f : Rtc → Rtc) : (s.modRtc f).lanes = s.lanes := rfl
@[simp] theorem State.modRtc_pt (s : State) (f : Rtc → Rtc) : (s.modRtc f).pt = s.pt := rfl
@[simp] theorem State.modRtc_bh (s : State) (f : Rtc → Rtc) : (s.modRtc f).bh = s.bh := rfl
@[simp] theorem State.modRtc_up (s : State) (f : Rtc → Rtc) : (s.modRtc f).up = s.up := rfl
@[simp] theorem State.modRtc_hc (s : State) (f : Rtc → Rtc) : (s.modRtc f).hc = s.hc := rfl
@[simp] theorem State.modRtc_kv (s : State) (f : Rtc → Rtc) : (s.modRtc f).kv = s.kv := rfl

@[simp] theorem State.modYd_pending (s : State) (f : Yard → Yard) : (s.modYd f).pending = s.pending := rfl
@[simp] theorem State.modYd_now (s : State) (f : Yard → Yard) : (s.modYd f).now = s.now := rfl
@[simp] theorem State.modYd_free (s : State) (f : Yard → Yard) : (s.modYd f).free = s.free := rfl
@[simp] theorem State.modYd_readback (s : State) (f : Yard → Yard) : (s.modYd f).readback = s.readback := rfl
@[simp] theorem State.modYd_lastStatus (s : State) (f : Yard → Yard) : (s.modYd f).lastStatus = s.lastStatus := rfl
@[simp] theorem State.modYd_out (s : State) (f : Yard → Yard) : (s.modYd f).out = s.out := rfl
@[simp] theorem State.modYd_regs (s : State) (f : Yard → Yard) : (s.modYd f).regs = s.regs := rfl
@[simp] theorem State.modYd_locked (s : State) (f : Yard → Yard) : (s.modYd f).locked = s.locked := rfl
@[simp] theorem State.modYd_main (s : State) (f : Yard → Yard) : (s.modYd f).main = s.main := rfl
@[simp] theorem State.modYd_locals (s : State) (f : Yard → Yard) : (s.modYd f).locals = s.locals := rfl
@[simp] theorem State.modYd_scratch (s : State) (f : Yard → Yard) : (s.modYd f).scratch = s.scratch := rfl
@[simp] theorem State.modYd_code (s : State) (f : Yard → Yard) : (s.modYd f).code = s.code := rfl
@[simp] theorem State.modYd_dram (s : State) (f : Yard → Yard) : (s.modYd f).dram = s.dram := rfl
@[simp] theorem State.modYd_mram (s : State) (f : Yard → Yard) : (s.modYd f).mram = s.mram := rfl
@[simp] theorem State.modYd_shunters (s : State) (f : Yard → Yard) : (s.modYd f).shunters = s.shunters := rfl
@[simp] theorem State.modYd_dp (s : State) (f : Yard → Yard) : (s.modYd f).dp = s.dp := rfl
@[simp] theorem State.modYd_hm (s : State) (f : Yard → Yard) : (s.modYd f).hm = s.hm := rfl
@[simp] theorem State.modYd_sc (s : State) (f : Yard → Yard) : (s.modYd f).sc = s.sc := rfl
@[simp] theorem State.modYd_pw (s : State) (f : Yard → Yard) : (s.modYd f).pw = s.pw := rfl
@[simp] theorem State.modYd_rtc (s : State) (f : Yard → Yard) : (s.modYd f).rtc = s.rtc := rfl
@[simp] theorem State.modYd_yd (s : State) (f : Yard → Yard) : (s.modYd f).yd = f s.yd := rfl
@[simp] theorem State.modYd_sb (s : State) (f : Yard → Yard) : (s.modYd f).sb = s.sb := rfl
@[simp] theorem State.modYd_fe (s : State) (f : Yard → Yard) : (s.modYd f).fe = s.fe := rfl
@[simp] theorem State.modYd_lanes (s : State) (f : Yard → Yard) : (s.modYd f).lanes = s.lanes := rfl
@[simp] theorem State.modYd_pt (s : State) (f : Yard → Yard) : (s.modYd f).pt = s.pt := rfl
@[simp] theorem State.modYd_bh (s : State) (f : Yard → Yard) : (s.modYd f).bh = s.bh := rfl
@[simp] theorem State.modYd_up (s : State) (f : Yard → Yard) : (s.modYd f).up = s.up := rfl
@[simp] theorem State.modYd_hc (s : State) (f : Yard → Yard) : (s.modYd f).hc = s.hc := rfl
@[simp] theorem State.modYd_kv (s : State) (f : Yard → Yard) : (s.modYd f).kv = s.kv := rfl

@[simp] theorem State.modSb_pending (s : State) (f : SignalBox → SignalBox) : (s.modSb f).pending = s.pending := rfl
@[simp] theorem State.modSb_now (s : State) (f : SignalBox → SignalBox) : (s.modSb f).now = s.now := rfl
@[simp] theorem State.modSb_free (s : State) (f : SignalBox → SignalBox) : (s.modSb f).free = s.free := rfl
@[simp] theorem State.modSb_readback (s : State) (f : SignalBox → SignalBox) : (s.modSb f).readback = s.readback := rfl
@[simp] theorem State.modSb_lastStatus (s : State) (f : SignalBox → SignalBox) : (s.modSb f).lastStatus = s.lastStatus := rfl
@[simp] theorem State.modSb_out (s : State) (f : SignalBox → SignalBox) : (s.modSb f).out = s.out := rfl
@[simp] theorem State.modSb_regs (s : State) (f : SignalBox → SignalBox) : (s.modSb f).regs = s.regs := rfl
@[simp] theorem State.modSb_locked (s : State) (f : SignalBox → SignalBox) : (s.modSb f).locked = s.locked := rfl
@[simp] theorem State.modSb_main (s : State) (f : SignalBox → SignalBox) : (s.modSb f).main = s.main := rfl
@[simp] theorem State.modSb_locals (s : State) (f : SignalBox → SignalBox) : (s.modSb f).locals = s.locals := rfl
@[simp] theorem State.modSb_scratch (s : State) (f : SignalBox → SignalBox) : (s.modSb f).scratch = s.scratch := rfl
@[simp] theorem State.modSb_code (s : State) (f : SignalBox → SignalBox) : (s.modSb f).code = s.code := rfl
@[simp] theorem State.modSb_dram (s : State) (f : SignalBox → SignalBox) : (s.modSb f).dram = s.dram := rfl
@[simp] theorem State.modSb_mram (s : State) (f : SignalBox → SignalBox) : (s.modSb f).mram = s.mram := rfl
@[simp] theorem State.modSb_shunters (s : State) (f : SignalBox → SignalBox) : (s.modSb f).shunters = s.shunters := rfl
@[simp] theorem State.modSb_dp (s : State) (f : SignalBox → SignalBox) : (s.modSb f).dp = s.dp := rfl
@[simp] theorem State.modSb_hm (s : State) (f : SignalBox → SignalBox) : (s.modSb f).hm = s.hm := rfl
@[simp] theorem State.modSb_sc (s : State) (f : SignalBox → SignalBox) : (s.modSb f).sc = s.sc := rfl
@[simp] theorem State.modSb_pw (s : State) (f : SignalBox → SignalBox) : (s.modSb f).pw = s.pw := rfl
@[simp] theorem State.modSb_rtc (s : State) (f : SignalBox → SignalBox) : (s.modSb f).rtc = s.rtc := rfl
@[simp] theorem State.modSb_yd (s : State) (f : SignalBox → SignalBox) : (s.modSb f).yd = s.yd := rfl
@[simp] theorem State.modSb_sb (s : State) (f : SignalBox → SignalBox) : (s.modSb f).sb = f s.sb := rfl
@[simp] theorem State.modSb_fe (s : State) (f : SignalBox → SignalBox) : (s.modSb f).fe = s.fe := rfl
@[simp] theorem State.modSb_lanes (s : State) (f : SignalBox → SignalBox) : (s.modSb f).lanes = s.lanes := rfl
@[simp] theorem State.modSb_pt (s : State) (f : SignalBox → SignalBox) : (s.modSb f).pt = s.pt := rfl
@[simp] theorem State.modSb_bh (s : State) (f : SignalBox → SignalBox) : (s.modSb f).bh = s.bh := rfl
@[simp] theorem State.modSb_up (s : State) (f : SignalBox → SignalBox) : (s.modSb f).up = s.up := rfl
@[simp] theorem State.modSb_hc (s : State) (f : SignalBox → SignalBox) : (s.modSb f).hc = s.hc := rfl
@[simp] theorem State.modSb_kv (s : State) (f : SignalBox → SignalBox) : (s.modSb f).kv = s.kv := rfl

@[simp] theorem State.modFe_pending (s : State) (f : FrontEnd → FrontEnd) : (s.modFe f).pending = s.pending := rfl
@[simp] theorem State.modFe_now (s : State) (f : FrontEnd → FrontEnd) : (s.modFe f).now = s.now := rfl
@[simp] theorem State.modFe_free (s : State) (f : FrontEnd → FrontEnd) : (s.modFe f).free = s.free := rfl
@[simp] theorem State.modFe_readback (s : State) (f : FrontEnd → FrontEnd) : (s.modFe f).readback = s.readback := rfl
@[simp] theorem State.modFe_lastStatus (s : State) (f : FrontEnd → FrontEnd) : (s.modFe f).lastStatus = s.lastStatus := rfl
@[simp] theorem State.modFe_out (s : State) (f : FrontEnd → FrontEnd) : (s.modFe f).out = s.out := rfl
@[simp] theorem State.modFe_regs (s : State) (f : FrontEnd → FrontEnd) : (s.modFe f).regs = s.regs := rfl
@[simp] theorem State.modFe_locked (s : State) (f : FrontEnd → FrontEnd) : (s.modFe f).locked = s.locked := rfl
@[simp] theorem State.modFe_main (s : State) (f : FrontEnd → FrontEnd) : (s.modFe f).main = s.main := rfl
@[simp] theorem State.modFe_locals (s : State) (f : FrontEnd → FrontEnd) : (s.modFe f).locals = s.locals := rfl
@[simp] theorem State.modFe_scratch (s : State) (f : FrontEnd → FrontEnd) : (s.modFe f).scratch = s.scratch := rfl
@[simp] theorem State.modFe_code (s : State) (f : FrontEnd → FrontEnd) : (s.modFe f).code = s.code := rfl
@[simp] theorem State.modFe_dram (s : State) (f : FrontEnd → FrontEnd) : (s.modFe f).dram = s.dram := rfl
@[simp] theorem State.modFe_mram (s : State) (f : FrontEnd → FrontEnd) : (s.modFe f).mram = s.mram := rfl
@[simp] theorem State.modFe_shunters (s : State) (f : FrontEnd → FrontEnd) : (s.modFe f).shunters = s.shunters := rfl
@[simp] theorem State.modFe_dp (s : State) (f : FrontEnd → FrontEnd) : (s.modFe f).dp = s.dp := rfl
@[simp] theorem State.modFe_hm (s : State) (f : FrontEnd → FrontEnd) : (s.modFe f).hm = s.hm := rfl
@[simp] theorem State.modFe_sc (s : State) (f : FrontEnd → FrontEnd) : (s.modFe f).sc = s.sc := rfl
@[simp] theorem State.modFe_pw (s : State) (f : FrontEnd → FrontEnd) : (s.modFe f).pw = s.pw := rfl
@[simp] theorem State.modFe_rtc (s : State) (f : FrontEnd → FrontEnd) : (s.modFe f).rtc = s.rtc := rfl
@[simp] theorem State.modFe_yd (s : State) (f : FrontEnd → FrontEnd) : (s.modFe f).yd = s.yd := rfl
@[simp] theorem State.modFe_sb (s : State) (f : FrontEnd → FrontEnd) : (s.modFe f).sb = s.sb := rfl
@[simp] theorem State.modFe_fe (s : State) (f : FrontEnd → FrontEnd) : (s.modFe f).fe = f s.fe := rfl
@[simp] theorem State.modFe_lanes (s : State) (f : FrontEnd → FrontEnd) : (s.modFe f).lanes = s.lanes := rfl
@[simp] theorem State.modFe_pt (s : State) (f : FrontEnd → FrontEnd) : (s.modFe f).pt = s.pt := rfl
@[simp] theorem State.modFe_bh (s : State) (f : FrontEnd → FrontEnd) : (s.modFe f).bh = s.bh := rfl
@[simp] theorem State.modFe_up (s : State) (f : FrontEnd → FrontEnd) : (s.modFe f).up = s.up := rfl
@[simp] theorem State.modFe_hc (s : State) (f : FrontEnd → FrontEnd) : (s.modFe f).hc = s.hc := rfl
@[simp] theorem State.modFe_kv (s : State) (f : FrontEnd → FrontEnd) : (s.modFe f).kv = s.kv := rfl

@[simp] theorem State.modLanes_pending (s : State) (f : Lanes → Lanes) : (s.modLanes f).pending = s.pending := rfl
@[simp] theorem State.modLanes_now (s : State) (f : Lanes → Lanes) : (s.modLanes f).now = s.now := rfl
@[simp] theorem State.modLanes_free (s : State) (f : Lanes → Lanes) : (s.modLanes f).free = s.free := rfl
@[simp] theorem State.modLanes_readback (s : State) (f : Lanes → Lanes) : (s.modLanes f).readback = s.readback := rfl
@[simp] theorem State.modLanes_lastStatus (s : State) (f : Lanes → Lanes) : (s.modLanes f).lastStatus = s.lastStatus := rfl
@[simp] theorem State.modLanes_out (s : State) (f : Lanes → Lanes) : (s.modLanes f).out = s.out := rfl
@[simp] theorem State.modLanes_regs (s : State) (f : Lanes → Lanes) : (s.modLanes f).regs = s.regs := rfl
@[simp] theorem State.modLanes_locked (s : State) (f : Lanes → Lanes) : (s.modLanes f).locked = s.locked := rfl
@[simp] theorem State.modLanes_main (s : State) (f : Lanes → Lanes) : (s.modLanes f).main = s.main := rfl
@[simp] theorem State.modLanes_locals (s : State) (f : Lanes → Lanes) : (s.modLanes f).locals = s.locals := rfl
@[simp] theorem State.modLanes_scratch (s : State) (f : Lanes → Lanes) : (s.modLanes f).scratch = s.scratch := rfl
@[simp] theorem State.modLanes_code (s : State) (f : Lanes → Lanes) : (s.modLanes f).code = s.code := rfl
@[simp] theorem State.modLanes_dram (s : State) (f : Lanes → Lanes) : (s.modLanes f).dram = s.dram := rfl
@[simp] theorem State.modLanes_mram (s : State) (f : Lanes → Lanes) : (s.modLanes f).mram = s.mram := rfl
@[simp] theorem State.modLanes_shunters (s : State) (f : Lanes → Lanes) : (s.modLanes f).shunters = s.shunters := rfl
@[simp] theorem State.modLanes_dp (s : State) (f : Lanes → Lanes) : (s.modLanes f).dp = s.dp := rfl
@[simp] theorem State.modLanes_hm (s : State) (f : Lanes → Lanes) : (s.modLanes f).hm = s.hm := rfl
@[simp] theorem State.modLanes_sc (s : State) (f : Lanes → Lanes) : (s.modLanes f).sc = s.sc := rfl
@[simp] theorem State.modLanes_pw (s : State) (f : Lanes → Lanes) : (s.modLanes f).pw = s.pw := rfl
@[simp] theorem State.modLanes_rtc (s : State) (f : Lanes → Lanes) : (s.modLanes f).rtc = s.rtc := rfl
@[simp] theorem State.modLanes_yd (s : State) (f : Lanes → Lanes) : (s.modLanes f).yd = s.yd := rfl
@[simp] theorem State.modLanes_sb (s : State) (f : Lanes → Lanes) : (s.modLanes f).sb = s.sb := rfl
@[simp] theorem State.modLanes_fe (s : State) (f : Lanes → Lanes) : (s.modLanes f).fe = s.fe := rfl
@[simp] theorem State.modLanes_lanes (s : State) (f : Lanes → Lanes) : (s.modLanes f).lanes = f s.lanes := rfl
@[simp] theorem State.modLanes_pt (s : State) (f : Lanes → Lanes) : (s.modLanes f).pt = s.pt := rfl
@[simp] theorem State.modLanes_bh (s : State) (f : Lanes → Lanes) : (s.modLanes f).bh = s.bh := rfl
@[simp] theorem State.modLanes_up (s : State) (f : Lanes → Lanes) : (s.modLanes f).up = s.up := rfl
@[simp] theorem State.modLanes_hc (s : State) (f : Lanes → Lanes) : (s.modLanes f).hc = s.hc := rfl
@[simp] theorem State.modLanes_kv (s : State) (f : Lanes → Lanes) : (s.modLanes f).kv = s.kv := rfl

@[simp] theorem State.modPt_pending (s : State) (f : Points → Points) : (s.modPt f).pending = s.pending := rfl
@[simp] theorem State.modPt_now (s : State) (f : Points → Points) : (s.modPt f).now = s.now := rfl
@[simp] theorem State.modPt_free (s : State) (f : Points → Points) : (s.modPt f).free = s.free := rfl
@[simp] theorem State.modPt_readback (s : State) (f : Points → Points) : (s.modPt f).readback = s.readback := rfl
@[simp] theorem State.modPt_lastStatus (s : State) (f : Points → Points) : (s.modPt f).lastStatus = s.lastStatus := rfl
@[simp] theorem State.modPt_out (s : State) (f : Points → Points) : (s.modPt f).out = s.out := rfl
@[simp] theorem State.modPt_regs (s : State) (f : Points → Points) : (s.modPt f).regs = s.regs := rfl
@[simp] theorem State.modPt_locked (s : State) (f : Points → Points) : (s.modPt f).locked = s.locked := rfl
@[simp] theorem State.modPt_main (s : State) (f : Points → Points) : (s.modPt f).main = s.main := rfl
@[simp] theorem State.modPt_locals (s : State) (f : Points → Points) : (s.modPt f).locals = s.locals := rfl
@[simp] theorem State.modPt_scratch (s : State) (f : Points → Points) : (s.modPt f).scratch = s.scratch := rfl
@[simp] theorem State.modPt_code (s : State) (f : Points → Points) : (s.modPt f).code = s.code := rfl
@[simp] theorem State.modPt_dram (s : State) (f : Points → Points) : (s.modPt f).dram = s.dram := rfl
@[simp] theorem State.modPt_mram (s : State) (f : Points → Points) : (s.modPt f).mram = s.mram := rfl
@[simp] theorem State.modPt_shunters (s : State) (f : Points → Points) : (s.modPt f).shunters = s.shunters := rfl
@[simp] theorem State.modPt_dp (s : State) (f : Points → Points) : (s.modPt f).dp = s.dp := rfl
@[simp] theorem State.modPt_hm (s : State) (f : Points → Points) : (s.modPt f).hm = s.hm := rfl
@[simp] theorem State.modPt_sc (s : State) (f : Points → Points) : (s.modPt f).sc = s.sc := rfl
@[simp] theorem State.modPt_pw (s : State) (f : Points → Points) : (s.modPt f).pw = s.pw := rfl
@[simp] theorem State.modPt_rtc (s : State) (f : Points → Points) : (s.modPt f).rtc = s.rtc := rfl
@[simp] theorem State.modPt_yd (s : State) (f : Points → Points) : (s.modPt f).yd = s.yd := rfl
@[simp] theorem State.modPt_sb (s : State) (f : Points → Points) : (s.modPt f).sb = s.sb := rfl
@[simp] theorem State.modPt_fe (s : State) (f : Points → Points) : (s.modPt f).fe = s.fe := rfl
@[simp] theorem State.modPt_lanes (s : State) (f : Points → Points) : (s.modPt f).lanes = s.lanes := rfl
@[simp] theorem State.modPt_pt (s : State) (f : Points → Points) : (s.modPt f).pt = f s.pt := rfl
@[simp] theorem State.modPt_bh (s : State) (f : Points → Points) : (s.modPt f).bh = s.bh := rfl
@[simp] theorem State.modPt_up (s : State) (f : Points → Points) : (s.modPt f).up = s.up := rfl
@[simp] theorem State.modPt_hc (s : State) (f : Points → Points) : (s.modPt f).hc = s.hc := rfl
@[simp] theorem State.modPt_kv (s : State) (f : Points → Points) : (s.modPt f).kv = s.kv := rfl

@[simp] theorem State.modBh_pending (s : State) (f : Backhaul → Backhaul) : (s.modBh f).pending = s.pending := rfl
@[simp] theorem State.modBh_now (s : State) (f : Backhaul → Backhaul) : (s.modBh f).now = s.now := rfl
@[simp] theorem State.modBh_free (s : State) (f : Backhaul → Backhaul) : (s.modBh f).free = s.free := rfl
@[simp] theorem State.modBh_readback (s : State) (f : Backhaul → Backhaul) : (s.modBh f).readback = s.readback := rfl
@[simp] theorem State.modBh_lastStatus (s : State) (f : Backhaul → Backhaul) : (s.modBh f).lastStatus = s.lastStatus := rfl
@[simp] theorem State.modBh_out (s : State) (f : Backhaul → Backhaul) : (s.modBh f).out = s.out := rfl
@[simp] theorem State.modBh_regs (s : State) (f : Backhaul → Backhaul) : (s.modBh f).regs = s.regs := rfl
@[simp] theorem State.modBh_locked (s : State) (f : Backhaul → Backhaul) : (s.modBh f).locked = s.locked := rfl
@[simp] theorem State.modBh_main (s : State) (f : Backhaul → Backhaul) : (s.modBh f).main = s.main := rfl
@[simp] theorem State.modBh_locals (s : State) (f : Backhaul → Backhaul) : (s.modBh f).locals = s.locals := rfl
@[simp] theorem State.modBh_scratch (s : State) (f : Backhaul → Backhaul) : (s.modBh f).scratch = s.scratch := rfl
@[simp] theorem State.modBh_code (s : State) (f : Backhaul → Backhaul) : (s.modBh f).code = s.code := rfl
@[simp] theorem State.modBh_dram (s : State) (f : Backhaul → Backhaul) : (s.modBh f).dram = s.dram := rfl
@[simp] theorem State.modBh_mram (s : State) (f : Backhaul → Backhaul) : (s.modBh f).mram = s.mram := rfl
@[simp] theorem State.modBh_shunters (s : State) (f : Backhaul → Backhaul) : (s.modBh f).shunters = s.shunters := rfl
@[simp] theorem State.modBh_dp (s : State) (f : Backhaul → Backhaul) : (s.modBh f).dp = s.dp := rfl
@[simp] theorem State.modBh_hm (s : State) (f : Backhaul → Backhaul) : (s.modBh f).hm = s.hm := rfl
@[simp] theorem State.modBh_sc (s : State) (f : Backhaul → Backhaul) : (s.modBh f).sc = s.sc := rfl
@[simp] theorem State.modBh_pw (s : State) (f : Backhaul → Backhaul) : (s.modBh f).pw = s.pw := rfl
@[simp] theorem State.modBh_rtc (s : State) (f : Backhaul → Backhaul) : (s.modBh f).rtc = s.rtc := rfl
@[simp] theorem State.modBh_yd (s : State) (f : Backhaul → Backhaul) : (s.modBh f).yd = s.yd := rfl
@[simp] theorem State.modBh_sb (s : State) (f : Backhaul → Backhaul) : (s.modBh f).sb = s.sb := rfl
@[simp] theorem State.modBh_fe (s : State) (f : Backhaul → Backhaul) : (s.modBh f).fe = s.fe := rfl
@[simp] theorem State.modBh_lanes (s : State) (f : Backhaul → Backhaul) : (s.modBh f).lanes = s.lanes := rfl
@[simp] theorem State.modBh_pt (s : State) (f : Backhaul → Backhaul) : (s.modBh f).pt = s.pt := rfl
@[simp] theorem State.modBh_bh (s : State) (f : Backhaul → Backhaul) : (s.modBh f).bh = f s.bh := rfl
@[simp] theorem State.modBh_up (s : State) (f : Backhaul → Backhaul) : (s.modBh f).up = s.up := rfl
@[simp] theorem State.modBh_hc (s : State) (f : Backhaul → Backhaul) : (s.modBh f).hc = s.hc := rfl
@[simp] theorem State.modBh_kv (s : State) (f : Backhaul → Backhaul) : (s.modBh f).kv = s.kv := rfl

@[simp] theorem State.modUp_pending (s : State) (f : Update → Update) : (s.modUp f).pending = s.pending := rfl
@[simp] theorem State.modUp_now (s : State) (f : Update → Update) : (s.modUp f).now = s.now := rfl
@[simp] theorem State.modUp_free (s : State) (f : Update → Update) : (s.modUp f).free = s.free := rfl
@[simp] theorem State.modUp_readback (s : State) (f : Update → Update) : (s.modUp f).readback = s.readback := rfl
@[simp] theorem State.modUp_lastStatus (s : State) (f : Update → Update) : (s.modUp f).lastStatus = s.lastStatus := rfl
@[simp] theorem State.modUp_out (s : State) (f : Update → Update) : (s.modUp f).out = s.out := rfl
@[simp] theorem State.modUp_regs (s : State) (f : Update → Update) : (s.modUp f).regs = s.regs := rfl
@[simp] theorem State.modUp_locked (s : State) (f : Update → Update) : (s.modUp f).locked = s.locked := rfl
@[simp] theorem State.modUp_main (s : State) (f : Update → Update) : (s.modUp f).main = s.main := rfl
@[simp] theorem State.modUp_locals (s : State) (f : Update → Update) : (s.modUp f).locals = s.locals := rfl
@[simp] theorem State.modUp_scratch (s : State) (f : Update → Update) : (s.modUp f).scratch = s.scratch := rfl
@[simp] theorem State.modUp_code (s : State) (f : Update → Update) : (s.modUp f).code = s.code := rfl
@[simp] theorem State.modUp_dram (s : State) (f : Update → Update) : (s.modUp f).dram = s.dram := rfl
@[simp] theorem State.modUp_mram (s : State) (f : Update → Update) : (s.modUp f).mram = s.mram := rfl
@[simp] theorem State.modUp_shunters (s : State) (f : Update → Update) : (s.modUp f).shunters = s.shunters := rfl
@[simp] theorem State.modUp_dp (s : State) (f : Update → Update) : (s.modUp f).dp = s.dp := rfl
@[simp] theorem State.modUp_hm (s : State) (f : Update → Update) : (s.modUp f).hm = s.hm := rfl
@[simp] theorem State.modUp_sc (s : State) (f : Update → Update) : (s.modUp f).sc = s.sc := rfl
@[simp] theorem State.modUp_pw (s : State) (f : Update → Update) : (s.modUp f).pw = s.pw := rfl
@[simp] theorem State.modUp_rtc (s : State) (f : Update → Update) : (s.modUp f).rtc = s.rtc := rfl
@[simp] theorem State.modUp_yd (s : State) (f : Update → Update) : (s.modUp f).yd = s.yd := rfl
@[simp] theorem State.modUp_sb (s : State) (f : Update → Update) : (s.modUp f).sb = s.sb := rfl
@[simp] theorem State.modUp_fe (s : State) (f : Update → Update) : (s.modUp f).fe = s.fe := rfl
@[simp] theorem State.modUp_lanes (s : State) (f : Update → Update) : (s.modUp f).lanes = s.lanes := rfl
@[simp] theorem State.modUp_pt (s : State) (f : Update → Update) : (s.modUp f).pt = s.pt := rfl
@[simp] theorem State.modUp_bh (s : State) (f : Update → Update) : (s.modUp f).bh = s.bh := rfl
@[simp] theorem State.modUp_up (s : State) (f : Update → Update) : (s.modUp f).up = f s.up := rfl
@[simp] theorem State.modUp_hc (s : State) (f : Update → Update) : (s.modUp f).hc = s.hc := rfl
@[simp] theorem State.modUp_kv (s : State) (f : Update → Update) : (s.modUp f).kv = s.kv := rfl

@[simp] theorem State.modHc_pending (s : State) (f : HostPort → HostPort) : (s.modHc f).pending = s.pending := rfl
@[simp] theorem State.modHc_now (s : State) (f : HostPort → HostPort) : (s.modHc f).now = s.now := rfl
@[simp] theorem State.modHc_free (s : State) (f : HostPort → HostPort) : (s.modHc f).free = s.free := rfl
@[simp] theorem State.modHc_readback (s : State) (f : HostPort → HostPort) : (s.modHc f).readback = s.readback := rfl
@[simp] theorem State.modHc_lastStatus (s : State) (f : HostPort → HostPort) : (s.modHc f).lastStatus = s.lastStatus := rfl
@[simp] theorem State.modHc_out (s : State) (f : HostPort → HostPort) : (s.modHc f).out = s.out := rfl
@[simp] theorem State.modHc_regs (s : State) (f : HostPort → HostPort) : (s.modHc f).regs = s.regs := rfl
@[simp] theorem State.modHc_locked (s : State) (f : HostPort → HostPort) : (s.modHc f).locked = s.locked := rfl
@[simp] theorem State.modHc_main (s : State) (f : HostPort → HostPort) : (s.modHc f).main = s.main := rfl
@[simp] theorem State.modHc_locals (s : State) (f : HostPort → HostPort) : (s.modHc f).locals = s.locals := rfl
@[simp] theorem State.modHc_scratch (s : State) (f : HostPort → HostPort) : (s.modHc f).scratch = s.scratch := rfl
@[simp] theorem State.modHc_code (s : State) (f : HostPort → HostPort) : (s.modHc f).code = s.code := rfl
@[simp] theorem State.modHc_dram (s : State) (f : HostPort → HostPort) : (s.modHc f).dram = s.dram := rfl
@[simp] theorem State.modHc_mram (s : State) (f : HostPort → HostPort) : (s.modHc f).mram = s.mram := rfl
@[simp] theorem State.modHc_shunters (s : State) (f : HostPort → HostPort) : (s.modHc f).shunters = s.shunters := rfl
@[simp] theorem State.modHc_dp (s : State) (f : HostPort → HostPort) : (s.modHc f).dp = s.dp := rfl
@[simp] theorem State.modHc_hm (s : State) (f : HostPort → HostPort) : (s.modHc f).hm = s.hm := rfl
@[simp] theorem State.modHc_sc (s : State) (f : HostPort → HostPort) : (s.modHc f).sc = s.sc := rfl
@[simp] theorem State.modHc_pw (s : State) (f : HostPort → HostPort) : (s.modHc f).pw = s.pw := rfl
@[simp] theorem State.modHc_rtc (s : State) (f : HostPort → HostPort) : (s.modHc f).rtc = s.rtc := rfl
@[simp] theorem State.modHc_yd (s : State) (f : HostPort → HostPort) : (s.modHc f).yd = s.yd := rfl
@[simp] theorem State.modHc_sb (s : State) (f : HostPort → HostPort) : (s.modHc f).sb = s.sb := rfl
@[simp] theorem State.modHc_fe (s : State) (f : HostPort → HostPort) : (s.modHc f).fe = s.fe := rfl
@[simp] theorem State.modHc_lanes (s : State) (f : HostPort → HostPort) : (s.modHc f).lanes = s.lanes := rfl
@[simp] theorem State.modHc_pt (s : State) (f : HostPort → HostPort) : (s.modHc f).pt = s.pt := rfl
@[simp] theorem State.modHc_bh (s : State) (f : HostPort → HostPort) : (s.modHc f).bh = s.bh := rfl
@[simp] theorem State.modHc_up (s : State) (f : HostPort → HostPort) : (s.modHc f).up = s.up := rfl
@[simp] theorem State.modHc_hc (s : State) (f : HostPort → HostPort) : (s.modHc f).hc = f s.hc := rfl
@[simp] theorem State.modHc_kv (s : State) (f : HostPort → HostPort) : (s.modHc f).kv = s.kv := rfl

@[simp] theorem State.modKv_pending (s : State) (f : Vault → Vault) : (s.modKv f).pending = s.pending := rfl
@[simp] theorem State.modKv_now (s : State) (f : Vault → Vault) : (s.modKv f).now = s.now := rfl
@[simp] theorem State.modKv_free (s : State) (f : Vault → Vault) : (s.modKv f).free = s.free := rfl
@[simp] theorem State.modKv_readback (s : State) (f : Vault → Vault) : (s.modKv f).readback = s.readback := rfl
@[simp] theorem State.modKv_lastStatus (s : State) (f : Vault → Vault) : (s.modKv f).lastStatus = s.lastStatus := rfl
@[simp] theorem State.modKv_out (s : State) (f : Vault → Vault) : (s.modKv f).out = s.out := rfl
@[simp] theorem State.modKv_regs (s : State) (f : Vault → Vault) : (s.modKv f).regs = s.regs := rfl
@[simp] theorem State.modKv_locked (s : State) (f : Vault → Vault) : (s.modKv f).locked = s.locked := rfl
@[simp] theorem State.modKv_main (s : State) (f : Vault → Vault) : (s.modKv f).main = s.main := rfl
@[simp] theorem State.modKv_locals (s : State) (f : Vault → Vault) : (s.modKv f).locals = s.locals := rfl
@[simp] theorem State.modKv_scratch (s : State) (f : Vault → Vault) : (s.modKv f).scratch = s.scratch := rfl
@[simp] theorem State.modKv_code (s : State) (f : Vault → Vault) : (s.modKv f).code = s.code := rfl
@[simp] theorem State.modKv_dram (s : State) (f : Vault → Vault) : (s.modKv f).dram = s.dram := rfl
@[simp] theorem State.modKv_mram (s : State) (f : Vault → Vault) : (s.modKv f).mram = s.mram := rfl
@[simp] theorem State.modKv_shunters (s : State) (f : Vault → Vault) : (s.modKv f).shunters = s.shunters := rfl
@[simp] theorem State.modKv_dp (s : State) (f : Vault → Vault) : (s.modKv f).dp = s.dp := rfl
@[simp] theorem State.modKv_hm (s : State) (f : Vault → Vault) : (s.modKv f).hm = s.hm := rfl
@[simp] theorem State.modKv_sc (s : State) (f : Vault → Vault) : (s.modKv f).sc = s.sc := rfl
@[simp] theorem State.modKv_pw (s : State) (f : Vault → Vault) : (s.modKv f).pw = s.pw := rfl
@[simp] theorem State.modKv_rtc (s : State) (f : Vault → Vault) : (s.modKv f).rtc = s.rtc := rfl
@[simp] theorem State.modKv_yd (s : State) (f : Vault → Vault) : (s.modKv f).yd = s.yd := rfl
@[simp] theorem State.modKv_sb (s : State) (f : Vault → Vault) : (s.modKv f).sb = s.sb := rfl
@[simp] theorem State.modKv_fe (s : State) (f : Vault → Vault) : (s.modKv f).fe = s.fe := rfl
@[simp] theorem State.modKv_lanes (s : State) (f : Vault → Vault) : (s.modKv f).lanes = s.lanes := rfl
@[simp] theorem State.modKv_pt (s : State) (f : Vault → Vault) : (s.modKv f).pt = s.pt := rfl
@[simp] theorem State.modKv_bh (s : State) (f : Vault → Vault) : (s.modKv f).bh = s.bh := rfl
@[simp] theorem State.modKv_up (s : State) (f : Vault → Vault) : (s.modKv f).up = s.up := rfl
@[simp] theorem State.modKv_hc (s : State) (f : Vault → Vault) : (s.modKv f).hc = s.hc := rfl
@[simp] theorem State.modKv_kv (s : State) (f : Vault → Vault) : (s.modKv f).kv = f s.kv := rfl

@[simp] theorem State.setReg_pending (s : State) (a : Nat) (v : Word) : (s.setReg a v).pending = s.pending := rfl
@[simp] theorem State.setReg_now (s : State) (a : Nat) (v : Word) : (s.setReg a v).now = s.now := rfl
@[simp] theorem State.setReg_free (s : State) (a : Nat) (v : Word) : (s.setReg a v).free = s.free := rfl
@[simp] theorem State.setReg_readback (s : State) (a : Nat) (v : Word) : (s.setReg a v).readback = s.readback := rfl
@[simp] theorem State.setReg_lastStatus (s : State) (a : Nat) (v : Word) : (s.setReg a v).lastStatus = s.lastStatus := rfl
@[simp] theorem State.setReg_out (s : State) (a : Nat) (v : Word) : (s.setReg a v).out = s.out := rfl
@[simp] theorem State.setReg_locked (s : State) (a : Nat) (v : Word) : (s.setReg a v).locked = s.locked := rfl
@[simp] theorem State.setReg_main (s : State) (a : Nat) (v : Word) : (s.setReg a v).main = s.main := rfl
@[simp] theorem State.setReg_locals (s : State) (a : Nat) (v : Word) : (s.setReg a v).locals = s.locals := rfl
@[simp] theorem State.setReg_scratch (s : State) (a : Nat) (v : Word) : (s.setReg a v).scratch = s.scratch := rfl
@[simp] theorem State.setReg_code (s : State) (a : Nat) (v : Word) : (s.setReg a v).code = s.code := rfl
@[simp] theorem State.setReg_dram (s : State) (a : Nat) (v : Word) : (s.setReg a v).dram = s.dram := rfl
@[simp] theorem State.setReg_mram (s : State) (a : Nat) (v : Word) : (s.setReg a v).mram = s.mram := rfl
@[simp] theorem State.setReg_shunters (s : State) (a : Nat) (v : Word) : (s.setReg a v).shunters = s.shunters := rfl
@[simp] theorem State.setReg_dp (s : State) (a : Nat) (v : Word) : (s.setReg a v).dp = s.dp := rfl
@[simp] theorem State.setReg_hm (s : State) (a : Nat) (v : Word) : (s.setReg a v).hm = s.hm := rfl
@[simp] theorem State.setReg_sc (s : State) (a : Nat) (v : Word) : (s.setReg a v).sc = s.sc := rfl
@[simp] theorem State.setReg_pw (s : State) (a : Nat) (v : Word) : (s.setReg a v).pw = s.pw := rfl
@[simp] theorem State.setReg_rtc (s : State) (a : Nat) (v : Word) : (s.setReg a v).rtc = s.rtc := rfl
@[simp] theorem State.setReg_yd (s : State) (a : Nat) (v : Word) : (s.setReg a v).yd = s.yd := rfl
@[simp] theorem State.setReg_sb (s : State) (a : Nat) (v : Word) : (s.setReg a v).sb = s.sb := rfl
@[simp] theorem State.setReg_fe (s : State) (a : Nat) (v : Word) : (s.setReg a v).fe = s.fe := rfl
@[simp] theorem State.setReg_lanes (s : State) (a : Nat) (v : Word) : (s.setReg a v).lanes = s.lanes := rfl
@[simp] theorem State.setReg_pt (s : State) (a : Nat) (v : Word) : (s.setReg a v).pt = s.pt := rfl
@[simp] theorem State.setReg_bh (s : State) (a : Nat) (v : Word) : (s.setReg a v).bh = s.bh := rfl
@[simp] theorem State.setReg_up (s : State) (a : Nat) (v : Word) : (s.setReg a v).up = s.up := rfl
@[simp] theorem State.setReg_hc (s : State) (a : Nat) (v : Word) : (s.setReg a v).hc = s.hc := rfl
@[simp] theorem State.setReg_kv (s : State) (a : Nat) (v : Word) : (s.setReg a v).kv = s.kv := rfl

@[simp] theorem State.setRegFld_pending (s : State) (a hi lo v : Nat) : (s.setRegFld a hi lo v).pending = s.pending := rfl
@[simp] theorem State.setRegFld_now (s : State) (a hi lo v : Nat) : (s.setRegFld a hi lo v).now = s.now := rfl
@[simp] theorem State.setRegFld_free (s : State) (a hi lo v : Nat) : (s.setRegFld a hi lo v).free = s.free := rfl
@[simp] theorem State.setRegFld_readback (s : State) (a hi lo v : Nat) : (s.setRegFld a hi lo v).readback = s.readback := rfl
@[simp] theorem State.setRegFld_lastStatus (s : State) (a hi lo v : Nat) : (s.setRegFld a hi lo v).lastStatus = s.lastStatus := rfl
@[simp] theorem State.setRegFld_out (s : State) (a hi lo v : Nat) : (s.setRegFld a hi lo v).out = s.out := rfl
@[simp] theorem State.setRegFld_locked (s : State) (a hi lo v : Nat) : (s.setRegFld a hi lo v).locked = s.locked := rfl
@[simp] theorem State.setRegFld_main (s : State) (a hi lo v : Nat) : (s.setRegFld a hi lo v).main = s.main := rfl
@[simp] theorem State.setRegFld_locals (s : State) (a hi lo v : Nat) : (s.setRegFld a hi lo v).locals = s.locals := rfl
@[simp] theorem State.setRegFld_scratch (s : State) (a hi lo v : Nat) : (s.setRegFld a hi lo v).scratch = s.scratch := rfl
@[simp] theorem State.setRegFld_code (s : State) (a hi lo v : Nat) : (s.setRegFld a hi lo v).code = s.code := rfl
@[simp] theorem State.setRegFld_dram (s : State) (a hi lo v : Nat) : (s.setRegFld a hi lo v).dram = s.dram := rfl
@[simp] theorem State.setRegFld_mram (s : State) (a hi lo v : Nat) : (s.setRegFld a hi lo v).mram = s.mram := rfl
@[simp] theorem State.setRegFld_shunters (s : State) (a hi lo v : Nat) : (s.setRegFld a hi lo v).shunters = s.shunters := rfl
@[simp] theorem State.setRegFld_dp (s : State) (a hi lo v : Nat) : (s.setRegFld a hi lo v).dp = s.dp := rfl
@[simp] theorem State.setRegFld_hm (s : State) (a hi lo v : Nat) : (s.setRegFld a hi lo v).hm = s.hm := rfl
@[simp] theorem State.setRegFld_sc (s : State) (a hi lo v : Nat) : (s.setRegFld a hi lo v).sc = s.sc := rfl
@[simp] theorem State.setRegFld_pw (s : State) (a hi lo v : Nat) : (s.setRegFld a hi lo v).pw = s.pw := rfl
@[simp] theorem State.setRegFld_rtc (s : State) (a hi lo v : Nat) : (s.setRegFld a hi lo v).rtc = s.rtc := rfl
@[simp] theorem State.setRegFld_yd (s : State) (a hi lo v : Nat) : (s.setRegFld a hi lo v).yd = s.yd := rfl
@[simp] theorem State.setRegFld_sb (s : State) (a hi lo v : Nat) : (s.setRegFld a hi lo v).sb = s.sb := rfl
@[simp] theorem State.setRegFld_fe (s : State) (a hi lo v : Nat) : (s.setRegFld a hi lo v).fe = s.fe := rfl
@[simp] theorem State.setRegFld_lanes (s : State) (a hi lo v : Nat) : (s.setRegFld a hi lo v).lanes = s.lanes := rfl
@[simp] theorem State.setRegFld_pt (s : State) (a hi lo v : Nat) : (s.setRegFld a hi lo v).pt = s.pt := rfl
@[simp] theorem State.setRegFld_bh (s : State) (a hi lo v : Nat) : (s.setRegFld a hi lo v).bh = s.bh := rfl
@[simp] theorem State.setRegFld_up (s : State) (a hi lo v : Nat) : (s.setRegFld a hi lo v).up = s.up := rfl
@[simp] theorem State.setRegFld_hc (s : State) (a hi lo v : Nat) : (s.setRegFld a hi lo v).hc = s.hc := rfl
@[simp] theorem State.setRegFld_kv (s : State) (a hi lo v : Nat) : (s.setRegFld a hi lo v).kv = s.kv := rfl

@[simp] theorem State.count_pending (s : State) (a : Nat) : (s.count a).pending = s.pending := rfl
@[simp] theorem State.count_now (s : State) (a : Nat) : (s.count a).now = s.now := rfl
@[simp] theorem State.count_free (s : State) (a : Nat) : (s.count a).free = s.free := rfl
@[simp] theorem State.count_readback (s : State) (a : Nat) : (s.count a).readback = s.readback := rfl
@[simp] theorem State.count_lastStatus (s : State) (a : Nat) : (s.count a).lastStatus = s.lastStatus := rfl
@[simp] theorem State.count_out (s : State) (a : Nat) : (s.count a).out = s.out := rfl
@[simp] theorem State.count_locked (s : State) (a : Nat) : (s.count a).locked = s.locked := rfl
@[simp] theorem State.count_main (s : State) (a : Nat) : (s.count a).main = s.main := rfl
@[simp] theorem State.count_locals (s : State) (a : Nat) : (s.count a).locals = s.locals := rfl
@[simp] theorem State.count_scratch (s : State) (a : Nat) : (s.count a).scratch = s.scratch := rfl
@[simp] theorem State.count_code (s : State) (a : Nat) : (s.count a).code = s.code := rfl
@[simp] theorem State.count_dram (s : State) (a : Nat) : (s.count a).dram = s.dram := rfl
@[simp] theorem State.count_mram (s : State) (a : Nat) : (s.count a).mram = s.mram := rfl
@[simp] theorem State.count_shunters (s : State) (a : Nat) : (s.count a).shunters = s.shunters := rfl
@[simp] theorem State.count_dp (s : State) (a : Nat) : (s.count a).dp = s.dp := rfl
@[simp] theorem State.count_hm (s : State) (a : Nat) : (s.count a).hm = s.hm := rfl
@[simp] theorem State.count_sc (s : State) (a : Nat) : (s.count a).sc = s.sc := rfl
@[simp] theorem State.count_pw (s : State) (a : Nat) : (s.count a).pw = s.pw := rfl
@[simp] theorem State.count_rtc (s : State) (a : Nat) : (s.count a).rtc = s.rtc := rfl
@[simp] theorem State.count_yd (s : State) (a : Nat) : (s.count a).yd = s.yd := rfl
@[simp] theorem State.count_sb (s : State) (a : Nat) : (s.count a).sb = s.sb := rfl
@[simp] theorem State.count_fe (s : State) (a : Nat) : (s.count a).fe = s.fe := rfl
@[simp] theorem State.count_lanes (s : State) (a : Nat) : (s.count a).lanes = s.lanes := rfl
@[simp] theorem State.count_pt (s : State) (a : Nat) : (s.count a).pt = s.pt := rfl
@[simp] theorem State.count_bh (s : State) (a : Nat) : (s.count a).bh = s.bh := rfl
@[simp] theorem State.count_up (s : State) (a : Nat) : (s.count a).up = s.up := rfl
@[simp] theorem State.count_hc (s : State) (a : Nat) : (s.count a).hc = s.hc := rfl
@[simp] theorem State.count_kv (s : State) (a : Nat) : (s.count a).kv = s.kv := rfl

@[simp] theorem State.setMain_pending (s : State) (a : Nat) (v : Word) : (s.setMain a v).pending = s.pending := rfl
@[simp] theorem State.setMain_now (s : State) (a : Nat) (v : Word) : (s.setMain a v).now = s.now := rfl
@[simp] theorem State.setMain_free (s : State) (a : Nat) (v : Word) : (s.setMain a v).free = s.free := rfl
@[simp] theorem State.setMain_readback (s : State) (a : Nat) (v : Word) : (s.setMain a v).readback = s.readback := rfl
@[simp] theorem State.setMain_lastStatus (s : State) (a : Nat) (v : Word) : (s.setMain a v).lastStatus = s.lastStatus := rfl
@[simp] theorem State.setMain_out (s : State) (a : Nat) (v : Word) : (s.setMain a v).out = s.out := rfl
@[simp] theorem State.setMain_regs (s : State) (a : Nat) (v : Word) : (s.setMain a v).regs = s.regs := rfl
@[simp] theorem State.setMain_locked (s : State) (a : Nat) (v : Word) : (s.setMain a v).locked = s.locked := rfl
@[simp] theorem State.setMain_locals (s : State) (a : Nat) (v : Word) : (s.setMain a v).locals = s.locals := rfl
@[simp] theorem State.setMain_scratch (s : State) (a : Nat) (v : Word) : (s.setMain a v).scratch = s.scratch := rfl
@[simp] theorem State.setMain_code (s : State) (a : Nat) (v : Word) : (s.setMain a v).code = s.code := rfl
@[simp] theorem State.setMain_dram (s : State) (a : Nat) (v : Word) : (s.setMain a v).dram = s.dram := rfl
@[simp] theorem State.setMain_mram (s : State) (a : Nat) (v : Word) : (s.setMain a v).mram = s.mram := rfl
@[simp] theorem State.setMain_shunters (s : State) (a : Nat) (v : Word) : (s.setMain a v).shunters = s.shunters := rfl
@[simp] theorem State.setMain_dp (s : State) (a : Nat) (v : Word) : (s.setMain a v).dp = s.dp := rfl
@[simp] theorem State.setMain_hm (s : State) (a : Nat) (v : Word) : (s.setMain a v).hm = s.hm := rfl
@[simp] theorem State.setMain_sc (s : State) (a : Nat) (v : Word) : (s.setMain a v).sc = s.sc := rfl
@[simp] theorem State.setMain_pw (s : State) (a : Nat) (v : Word) : (s.setMain a v).pw = s.pw := rfl
@[simp] theorem State.setMain_rtc (s : State) (a : Nat) (v : Word) : (s.setMain a v).rtc = s.rtc := rfl
@[simp] theorem State.setMain_yd (s : State) (a : Nat) (v : Word) : (s.setMain a v).yd = s.yd := rfl
@[simp] theorem State.setMain_sb (s : State) (a : Nat) (v : Word) : (s.setMain a v).sb = s.sb := rfl
@[simp] theorem State.setMain_fe (s : State) (a : Nat) (v : Word) : (s.setMain a v).fe = s.fe := rfl
@[simp] theorem State.setMain_lanes (s : State) (a : Nat) (v : Word) : (s.setMain a v).lanes = s.lanes := rfl
@[simp] theorem State.setMain_pt (s : State) (a : Nat) (v : Word) : (s.setMain a v).pt = s.pt := rfl
@[simp] theorem State.setMain_bh (s : State) (a : Nat) (v : Word) : (s.setMain a v).bh = s.bh := rfl
@[simp] theorem State.setMain_up (s : State) (a : Nat) (v : Word) : (s.setMain a v).up = s.up := rfl
@[simp] theorem State.setMain_hc (s : State) (a : Nat) (v : Word) : (s.setMain a v).hc = s.hc := rfl
@[simp] theorem State.setMain_kv (s : State) (a : Nat) (v : Word) : (s.setMain a v).kv = s.kv := rfl

@[simp] theorem State.setLocal_pending (s : State) (i : Sh) (a : Nat) (v : Word) : (s.setLocal i a v).pending = s.pending := rfl
@[simp] theorem State.setLocal_now (s : State) (i : Sh) (a : Nat) (v : Word) : (s.setLocal i a v).now = s.now := rfl
@[simp] theorem State.setLocal_free (s : State) (i : Sh) (a : Nat) (v : Word) : (s.setLocal i a v).free = s.free := rfl
@[simp] theorem State.setLocal_readback (s : State) (i : Sh) (a : Nat) (v : Word) : (s.setLocal i a v).readback = s.readback := rfl
@[simp] theorem State.setLocal_lastStatus (s : State) (i : Sh) (a : Nat) (v : Word) : (s.setLocal i a v).lastStatus = s.lastStatus := rfl
@[simp] theorem State.setLocal_out (s : State) (i : Sh) (a : Nat) (v : Word) : (s.setLocal i a v).out = s.out := rfl
@[simp] theorem State.setLocal_regs (s : State) (i : Sh) (a : Nat) (v : Word) : (s.setLocal i a v).regs = s.regs := rfl
@[simp] theorem State.setLocal_locked (s : State) (i : Sh) (a : Nat) (v : Word) : (s.setLocal i a v).locked = s.locked := rfl
@[simp] theorem State.setLocal_main (s : State) (i : Sh) (a : Nat) (v : Word) : (s.setLocal i a v).main = s.main := rfl
@[simp] theorem State.setLocal_scratch (s : State) (i : Sh) (a : Nat) (v : Word) : (s.setLocal i a v).scratch = s.scratch := rfl
@[simp] theorem State.setLocal_code (s : State) (i : Sh) (a : Nat) (v : Word) : (s.setLocal i a v).code = s.code := rfl
@[simp] theorem State.setLocal_dram (s : State) (i : Sh) (a : Nat) (v : Word) : (s.setLocal i a v).dram = s.dram := rfl
@[simp] theorem State.setLocal_mram (s : State) (i : Sh) (a : Nat) (v : Word) : (s.setLocal i a v).mram = s.mram := rfl
@[simp] theorem State.setLocal_shunters (s : State) (i : Sh) (a : Nat) (v : Word) : (s.setLocal i a v).shunters = s.shunters := rfl
@[simp] theorem State.setLocal_dp (s : State) (i : Sh) (a : Nat) (v : Word) : (s.setLocal i a v).dp = s.dp := rfl
@[simp] theorem State.setLocal_hm (s : State) (i : Sh) (a : Nat) (v : Word) : (s.setLocal i a v).hm = s.hm := rfl
@[simp] theorem State.setLocal_sc (s : State) (i : Sh) (a : Nat) (v : Word) : (s.setLocal i a v).sc = s.sc := rfl
@[simp] theorem State.setLocal_pw (s : State) (i : Sh) (a : Nat) (v : Word) : (s.setLocal i a v).pw = s.pw := rfl
@[simp] theorem State.setLocal_rtc (s : State) (i : Sh) (a : Nat) (v : Word) : (s.setLocal i a v).rtc = s.rtc := rfl
@[simp] theorem State.setLocal_yd (s : State) (i : Sh) (a : Nat) (v : Word) : (s.setLocal i a v).yd = s.yd := rfl
@[simp] theorem State.setLocal_sb (s : State) (i : Sh) (a : Nat) (v : Word) : (s.setLocal i a v).sb = s.sb := rfl
@[simp] theorem State.setLocal_fe (s : State) (i : Sh) (a : Nat) (v : Word) : (s.setLocal i a v).fe = s.fe := rfl
@[simp] theorem State.setLocal_lanes (s : State) (i : Sh) (a : Nat) (v : Word) : (s.setLocal i a v).lanes = s.lanes := rfl
@[simp] theorem State.setLocal_pt (s : State) (i : Sh) (a : Nat) (v : Word) : (s.setLocal i a v).pt = s.pt := rfl
@[simp] theorem State.setLocal_bh (s : State) (i : Sh) (a : Nat) (v : Word) : (s.setLocal i a v).bh = s.bh := rfl
@[simp] theorem State.setLocal_up (s : State) (i : Sh) (a : Nat) (v : Word) : (s.setLocal i a v).up = s.up := rfl
@[simp] theorem State.setLocal_hc (s : State) (i : Sh) (a : Nat) (v : Word) : (s.setLocal i a v).hc = s.hc := rfl
@[simp] theorem State.setLocal_kv (s : State) (i : Sh) (a : Nat) (v : Word) : (s.setLocal i a v).kv = s.kv := rfl

@[simp] theorem State.setScr_pending (s : State) (d a : Nat) (v : Word) : (s.setScr d a v).pending = s.pending := rfl
@[simp] theorem State.setScr_now (s : State) (d a : Nat) (v : Word) : (s.setScr d a v).now = s.now := rfl
@[simp] theorem State.setScr_free (s : State) (d a : Nat) (v : Word) : (s.setScr d a v).free = s.free := rfl
@[simp] theorem State.setScr_readback (s : State) (d a : Nat) (v : Word) : (s.setScr d a v).readback = s.readback := rfl
@[simp] theorem State.setScr_lastStatus (s : State) (d a : Nat) (v : Word) : (s.setScr d a v).lastStatus = s.lastStatus := rfl
@[simp] theorem State.setScr_out (s : State) (d a : Nat) (v : Word) : (s.setScr d a v).out = s.out := rfl
@[simp] theorem State.setScr_regs (s : State) (d a : Nat) (v : Word) : (s.setScr d a v).regs = s.regs := rfl
@[simp] theorem State.setScr_locked (s : State) (d a : Nat) (v : Word) : (s.setScr d a v).locked = s.locked := rfl
@[simp] theorem State.setScr_main (s : State) (d a : Nat) (v : Word) : (s.setScr d a v).main = s.main := rfl
@[simp] theorem State.setScr_locals (s : State) (d a : Nat) (v : Word) : (s.setScr d a v).locals = s.locals := rfl
@[simp] theorem State.setScr_code (s : State) (d a : Nat) (v : Word) : (s.setScr d a v).code = s.code := rfl
@[simp] theorem State.setScr_dram (s : State) (d a : Nat) (v : Word) : (s.setScr d a v).dram = s.dram := rfl
@[simp] theorem State.setScr_mram (s : State) (d a : Nat) (v : Word) : (s.setScr d a v).mram = s.mram := rfl
@[simp] theorem State.setScr_shunters (s : State) (d a : Nat) (v : Word) : (s.setScr d a v).shunters = s.shunters := rfl
@[simp] theorem State.setScr_dp (s : State) (d a : Nat) (v : Word) : (s.setScr d a v).dp = s.dp := rfl
@[simp] theorem State.setScr_hm (s : State) (d a : Nat) (v : Word) : (s.setScr d a v).hm = s.hm := rfl
@[simp] theorem State.setScr_sc (s : State) (d a : Nat) (v : Word) : (s.setScr d a v).sc = s.sc := rfl
@[simp] theorem State.setScr_pw (s : State) (d a : Nat) (v : Word) : (s.setScr d a v).pw = s.pw := rfl
@[simp] theorem State.setScr_rtc (s : State) (d a : Nat) (v : Word) : (s.setScr d a v).rtc = s.rtc := rfl
@[simp] theorem State.setScr_yd (s : State) (d a : Nat) (v : Word) : (s.setScr d a v).yd = s.yd := rfl
@[simp] theorem State.setScr_sb (s : State) (d a : Nat) (v : Word) : (s.setScr d a v).sb = s.sb := rfl
@[simp] theorem State.setScr_fe (s : State) (d a : Nat) (v : Word) : (s.setScr d a v).fe = s.fe := rfl
@[simp] theorem State.setScr_lanes (s : State) (d a : Nat) (v : Word) : (s.setScr d a v).lanes = s.lanes := rfl
@[simp] theorem State.setScr_pt (s : State) (d a : Nat) (v : Word) : (s.setScr d a v).pt = s.pt := rfl
@[simp] theorem State.setScr_bh (s : State) (d a : Nat) (v : Word) : (s.setScr d a v).bh = s.bh := rfl
@[simp] theorem State.setScr_up (s : State) (d a : Nat) (v : Word) : (s.setScr d a v).up = s.up := rfl
@[simp] theorem State.setScr_hc (s : State) (d a : Nat) (v : Word) : (s.setScr d a v).hc = s.hc := rfl
@[simp] theorem State.setScr_kv (s : State) (d a : Nat) (v : Word) : (s.setScr d a v).kv = s.kv := rfl

@[simp] theorem State.setCode_pending (s : State) (d a : Nat) (v : Word) : (s.setCode d a v).pending = s.pending := rfl
@[simp] theorem State.setCode_now (s : State) (d a : Nat) (v : Word) : (s.setCode d a v).now = s.now := rfl
@[simp] theorem State.setCode_free (s : State) (d a : Nat) (v : Word) : (s.setCode d a v).free = s.free := rfl
@[simp] theorem State.setCode_readback (s : State) (d a : Nat) (v : Word) : (s.setCode d a v).readback = s.readback := rfl
@[simp] theorem State.setCode_lastStatus (s : State) (d a : Nat) (v : Word) : (s.setCode d a v).lastStatus = s.lastStatus := rfl
@[simp] theorem State.setCode_out (s : State) (d a : Nat) (v : Word) : (s.setCode d a v).out = s.out := rfl
@[simp] theorem State.setCode_regs (s : State) (d a : Nat) (v : Word) : (s.setCode d a v).regs = s.regs := rfl
@[simp] theorem State.setCode_locked (s : State) (d a : Nat) (v : Word) : (s.setCode d a v).locked = s.locked := rfl
@[simp] theorem State.setCode_main (s : State) (d a : Nat) (v : Word) : (s.setCode d a v).main = s.main := rfl
@[simp] theorem State.setCode_locals (s : State) (d a : Nat) (v : Word) : (s.setCode d a v).locals = s.locals := rfl
@[simp] theorem State.setCode_scratch (s : State) (d a : Nat) (v : Word) : (s.setCode d a v).scratch = s.scratch := rfl
@[simp] theorem State.setCode_dram (s : State) (d a : Nat) (v : Word) : (s.setCode d a v).dram = s.dram := rfl
@[simp] theorem State.setCode_mram (s : State) (d a : Nat) (v : Word) : (s.setCode d a v).mram = s.mram := rfl
@[simp] theorem State.setCode_shunters (s : State) (d a : Nat) (v : Word) : (s.setCode d a v).shunters = s.shunters := rfl
@[simp] theorem State.setCode_hm (s : State) (d a : Nat) (v : Word) : (s.setCode d a v).hm = s.hm := rfl
@[simp] theorem State.setCode_sc (s : State) (d a : Nat) (v : Word) : (s.setCode d a v).sc = s.sc := rfl
@[simp] theorem State.setCode_pw (s : State) (d a : Nat) (v : Word) : (s.setCode d a v).pw = s.pw := rfl
@[simp] theorem State.setCode_rtc (s : State) (d a : Nat) (v : Word) : (s.setCode d a v).rtc = s.rtc := rfl
@[simp] theorem State.setCode_yd (s : State) (d a : Nat) (v : Word) : (s.setCode d a v).yd = s.yd := rfl
@[simp] theorem State.setCode_sb (s : State) (d a : Nat) (v : Word) : (s.setCode d a v).sb = s.sb := rfl
@[simp] theorem State.setCode_fe (s : State) (d a : Nat) (v : Word) : (s.setCode d a v).fe = s.fe := rfl
@[simp] theorem State.setCode_lanes (s : State) (d a : Nat) (v : Word) : (s.setCode d a v).lanes = s.lanes := rfl
@[simp] theorem State.setCode_pt (s : State) (d a : Nat) (v : Word) : (s.setCode d a v).pt = s.pt := rfl
@[simp] theorem State.setCode_bh (s : State) (d a : Nat) (v : Word) : (s.setCode d a v).bh = s.bh := rfl
@[simp] theorem State.setCode_up (s : State) (d a : Nat) (v : Word) : (s.setCode d a v).up = s.up := rfl
@[simp] theorem State.setCode_hc (s : State) (d a : Nat) (v : Word) : (s.setCode d a v).hc = s.hc := rfl
@[simp] theorem State.setCode_kv (s : State) (d a : Nat) (v : Word) : (s.setCode d a v).kv = s.kv := rfl

@[simp] theorem State.setDram_pending (s : State) (a : Nat) (v : Byte) : (s.setDram a v).pending = s.pending := rfl
@[simp] theorem State.setDram_now (s : State) (a : Nat) (v : Byte) : (s.setDram a v).now = s.now := rfl
@[simp] theorem State.setDram_free (s : State) (a : Nat) (v : Byte) : (s.setDram a v).free = s.free := rfl
@[simp] theorem State.setDram_readback (s : State) (a : Nat) (v : Byte) : (s.setDram a v).readback = s.readback := rfl
@[simp] theorem State.setDram_lastStatus (s : State) (a : Nat) (v : Byte) : (s.setDram a v).lastStatus = s.lastStatus := rfl
@[simp] theorem State.setDram_out (s : State) (a : Nat) (v : Byte) : (s.setDram a v).out = s.out := rfl
@[simp] theorem State.setDram_regs (s : State) (a : Nat) (v : Byte) : (s.setDram a v).regs = s.regs := rfl
@[simp] theorem State.setDram_locked (s : State) (a : Nat) (v : Byte) : (s.setDram a v).locked = s.locked := rfl
@[simp] theorem State.setDram_main (s : State) (a : Nat) (v : Byte) : (s.setDram a v).main = s.main := rfl
@[simp] theorem State.setDram_locals (s : State) (a : Nat) (v : Byte) : (s.setDram a v).locals = s.locals := rfl
@[simp] theorem State.setDram_scratch (s : State) (a : Nat) (v : Byte) : (s.setDram a v).scratch = s.scratch := rfl
@[simp] theorem State.setDram_code (s : State) (a : Nat) (v : Byte) : (s.setDram a v).code = s.code := rfl
@[simp] theorem State.setDram_mram (s : State) (a : Nat) (v : Byte) : (s.setDram a v).mram = s.mram := rfl
@[simp] theorem State.setDram_shunters (s : State) (a : Nat) (v : Byte) : (s.setDram a v).shunters = s.shunters := rfl
@[simp] theorem State.setDram_dp (s : State) (a : Nat) (v : Byte) : (s.setDram a v).dp = s.dp := rfl
@[simp] theorem State.setDram_hm (s : State) (a : Nat) (v : Byte) : (s.setDram a v).hm = s.hm := rfl
@[simp] theorem State.setDram_sc (s : State) (a : Nat) (v : Byte) : (s.setDram a v).sc = s.sc := rfl
@[simp] theorem State.setDram_pw (s : State) (a : Nat) (v : Byte) : (s.setDram a v).pw = s.pw := rfl
@[simp] theorem State.setDram_rtc (s : State) (a : Nat) (v : Byte) : (s.setDram a v).rtc = s.rtc := rfl
@[simp] theorem State.setDram_yd (s : State) (a : Nat) (v : Byte) : (s.setDram a v).yd = s.yd := rfl
@[simp] theorem State.setDram_sb (s : State) (a : Nat) (v : Byte) : (s.setDram a v).sb = s.sb := rfl
@[simp] theorem State.setDram_fe (s : State) (a : Nat) (v : Byte) : (s.setDram a v).fe = s.fe := rfl
@[simp] theorem State.setDram_lanes (s : State) (a : Nat) (v : Byte) : (s.setDram a v).lanes = s.lanes := rfl
@[simp] theorem State.setDram_pt (s : State) (a : Nat) (v : Byte) : (s.setDram a v).pt = s.pt := rfl
@[simp] theorem State.setDram_bh (s : State) (a : Nat) (v : Byte) : (s.setDram a v).bh = s.bh := rfl
@[simp] theorem State.setDram_up (s : State) (a : Nat) (v : Byte) : (s.setDram a v).up = s.up := rfl
@[simp] theorem State.setDram_hc (s : State) (a : Nat) (v : Byte) : (s.setDram a v).hc = s.hc := rfl
@[simp] theorem State.setDram_kv (s : State) (a : Nat) (v : Byte) : (s.setDram a v).kv = s.kv := rfl

@[simp] theorem State.setMram_pending (s : State) (a : Nat) (v : Byte) : (s.setMram a v).pending = s.pending := rfl
@[simp] theorem State.setMram_now (s : State) (a : Nat) (v : Byte) : (s.setMram a v).now = s.now := rfl
@[simp] theorem State.setMram_free (s : State) (a : Nat) (v : Byte) : (s.setMram a v).free = s.free := rfl
@[simp] theorem State.setMram_readback (s : State) (a : Nat) (v : Byte) : (s.setMram a v).readback = s.readback := rfl
@[simp] theorem State.setMram_lastStatus (s : State) (a : Nat) (v : Byte) : (s.setMram a v).lastStatus = s.lastStatus := rfl
@[simp] theorem State.setMram_out (s : State) (a : Nat) (v : Byte) : (s.setMram a v).out = s.out := rfl
@[simp] theorem State.setMram_regs (s : State) (a : Nat) (v : Byte) : (s.setMram a v).regs = s.regs := rfl
@[simp] theorem State.setMram_locked (s : State) (a : Nat) (v : Byte) : (s.setMram a v).locked = s.locked := rfl
@[simp] theorem State.setMram_main (s : State) (a : Nat) (v : Byte) : (s.setMram a v).main = s.main := rfl
@[simp] theorem State.setMram_locals (s : State) (a : Nat) (v : Byte) : (s.setMram a v).locals = s.locals := rfl
@[simp] theorem State.setMram_scratch (s : State) (a : Nat) (v : Byte) : (s.setMram a v).scratch = s.scratch := rfl
@[simp] theorem State.setMram_code (s : State) (a : Nat) (v : Byte) : (s.setMram a v).code = s.code := rfl
@[simp] theorem State.setMram_dram (s : State) (a : Nat) (v : Byte) : (s.setMram a v).dram = s.dram := rfl
@[simp] theorem State.setMram_shunters (s : State) (a : Nat) (v : Byte) : (s.setMram a v).shunters = s.shunters := rfl
@[simp] theorem State.setMram_dp (s : State) (a : Nat) (v : Byte) : (s.setMram a v).dp = s.dp := rfl
@[simp] theorem State.setMram_hm (s : State) (a : Nat) (v : Byte) : (s.setMram a v).hm = s.hm := rfl
@[simp] theorem State.setMram_sc (s : State) (a : Nat) (v : Byte) : (s.setMram a v).sc = s.sc := rfl
@[simp] theorem State.setMram_pw (s : State) (a : Nat) (v : Byte) : (s.setMram a v).pw = s.pw := rfl
@[simp] theorem State.setMram_rtc (s : State) (a : Nat) (v : Byte) : (s.setMram a v).rtc = s.rtc := rfl
@[simp] theorem State.setMram_yd (s : State) (a : Nat) (v : Byte) : (s.setMram a v).yd = s.yd := rfl
@[simp] theorem State.setMram_sb (s : State) (a : Nat) (v : Byte) : (s.setMram a v).sb = s.sb := rfl
@[simp] theorem State.setMram_fe (s : State) (a : Nat) (v : Byte) : (s.setMram a v).fe = s.fe := rfl
@[simp] theorem State.setMram_lanes (s : State) (a : Nat) (v : Byte) : (s.setMram a v).lanes = s.lanes := rfl
@[simp] theorem State.setMram_pt (s : State) (a : Nat) (v : Byte) : (s.setMram a v).pt = s.pt := rfl
@[simp] theorem State.setMram_bh (s : State) (a : Nat) (v : Byte) : (s.setMram a v).bh = s.bh := rfl
@[simp] theorem State.setMram_up (s : State) (a : Nat) (v : Byte) : (s.setMram a v).up = s.up := rfl
@[simp] theorem State.setMram_hc (s : State) (a : Nat) (v : Byte) : (s.setMram a v).hc = s.hc := rfl
@[simp] theorem State.setMram_kv (s : State) (a : Nat) (v : Byte) : (s.setMram a v).kv = s.kv := rfl

@[simp] theorem State.setShunter_pending (s : State) (i : Sh) (x : Shunter) : (s.setShunter i x).pending = s.pending := rfl
@[simp] theorem State.setShunter_now (s : State) (i : Sh) (x : Shunter) : (s.setShunter i x).now = s.now := rfl
@[simp] theorem State.setShunter_free (s : State) (i : Sh) (x : Shunter) : (s.setShunter i x).free = s.free := rfl
@[simp] theorem State.setShunter_readback (s : State) (i : Sh) (x : Shunter) : (s.setShunter i x).readback = s.readback := rfl
@[simp] theorem State.setShunter_lastStatus (s : State) (i : Sh) (x : Shunter) : (s.setShunter i x).lastStatus = s.lastStatus := rfl
@[simp] theorem State.setShunter_out (s : State) (i : Sh) (x : Shunter) : (s.setShunter i x).out = s.out := rfl
@[simp] theorem State.setShunter_regs (s : State) (i : Sh) (x : Shunter) : (s.setShunter i x).regs = s.regs := rfl
@[simp] theorem State.setShunter_locked (s : State) (i : Sh) (x : Shunter) : (s.setShunter i x).locked = s.locked := rfl
@[simp] theorem State.setShunter_main (s : State) (i : Sh) (x : Shunter) : (s.setShunter i x).main = s.main := rfl
@[simp] theorem State.setShunter_locals (s : State) (i : Sh) (x : Shunter) : (s.setShunter i x).locals = s.locals := rfl
@[simp] theorem State.setShunter_scratch (s : State) (i : Sh) (x : Shunter) : (s.setShunter i x).scratch = s.scratch := rfl
@[simp] theorem State.setShunter_code (s : State) (i : Sh) (x : Shunter) : (s.setShunter i x).code = s.code := rfl
@[simp] theorem State.setShunter_dram (s : State) (i : Sh) (x : Shunter) : (s.setShunter i x).dram = s.dram := rfl
@[simp] theorem State.setShunter_mram (s : State) (i : Sh) (x : Shunter) : (s.setShunter i x).mram = s.mram := rfl
@[simp] theorem State.setShunter_dp (s : State) (i : Sh) (x : Shunter) : (s.setShunter i x).dp = s.dp := rfl
@[simp] theorem State.setShunter_hm (s : State) (i : Sh) (x : Shunter) : (s.setShunter i x).hm = s.hm := rfl
@[simp] theorem State.setShunter_sc (s : State) (i : Sh) (x : Shunter) : (s.setShunter i x).sc = s.sc := rfl
@[simp] theorem State.setShunter_pw (s : State) (i : Sh) (x : Shunter) : (s.setShunter i x).pw = s.pw := rfl
@[simp] theorem State.setShunter_rtc (s : State) (i : Sh) (x : Shunter) : (s.setShunter i x).rtc = s.rtc := rfl
@[simp] theorem State.setShunter_yd (s : State) (i : Sh) (x : Shunter) : (s.setShunter i x).yd = s.yd := rfl
@[simp] theorem State.setShunter_sb (s : State) (i : Sh) (x : Shunter) : (s.setShunter i x).sb = s.sb := rfl
@[simp] theorem State.setShunter_fe (s : State) (i : Sh) (x : Shunter) : (s.setShunter i x).fe = s.fe := rfl
@[simp] theorem State.setShunter_lanes (s : State) (i : Sh) (x : Shunter) : (s.setShunter i x).lanes = s.lanes := rfl
@[simp] theorem State.setShunter_pt (s : State) (i : Sh) (x : Shunter) : (s.setShunter i x).pt = s.pt := rfl
@[simp] theorem State.setShunter_bh (s : State) (i : Sh) (x : Shunter) : (s.setShunter i x).bh = s.bh := rfl
@[simp] theorem State.setShunter_up (s : State) (i : Sh) (x : Shunter) : (s.setShunter i x).up = s.up := rfl
@[simp] theorem State.setShunter_hc (s : State) (i : Sh) (x : Shunter) : (s.setShunter i x).hc = s.hc := rfl
@[simp] theorem State.setShunter_kv (s : State) (i : Sh) (x : Shunter) : (s.setShunter i x).kv = s.kv := rfl

@[simp] theorem State.modShunter_pending (s : State) (i : Sh) (f : Shunter → Shunter) : (s.modShunter i f).pending = s.pending := rfl
@[simp] theorem State.modShunter_now (s : State) (i : Sh) (f : Shunter → Shunter) : (s.modShunter i f).now = s.now := rfl
@[simp] theorem State.modShunter_free (s : State) (i : Sh) (f : Shunter → Shunter) : (s.modShunter i f).free = s.free := rfl
@[simp] theorem State.modShunter_readback (s : State) (i : Sh) (f : Shunter → Shunter) : (s.modShunter i f).readback = s.readback := rfl
@[simp] theorem State.modShunter_lastStatus (s : State) (i : Sh) (f : Shunter → Shunter) : (s.modShunter i f).lastStatus = s.lastStatus := rfl
@[simp] theorem State.modShunter_out (s : State) (i : Sh) (f : Shunter → Shunter) : (s.modShunter i f).out = s.out := rfl
@[simp] theorem State.modShunter_regs (s : State) (i : Sh) (f : Shunter → Shunter) : (s.modShunter i f).regs = s.regs := rfl
@[simp] theorem State.modShunter_locked (s : State) (i : Sh) (f : Shunter → Shunter) : (s.modShunter i f).locked = s.locked := rfl
@[simp] theorem State.modShunter_main (s : State) (i : Sh) (f : Shunter → Shunter) : (s.modShunter i f).main = s.main := rfl
@[simp] theorem State.modShunter_locals (s : State) (i : Sh) (f : Shunter → Shunter) : (s.modShunter i f).locals = s.locals := rfl
@[simp] theorem State.modShunter_scratch (s : State) (i : Sh) (f : Shunter → Shunter) : (s.modShunter i f).scratch = s.scratch := rfl
@[simp] theorem State.modShunter_code (s : State) (i : Sh) (f : Shunter → Shunter) : (s.modShunter i f).code = s.code := rfl
@[simp] theorem State.modShunter_dram (s : State) (i : Sh) (f : Shunter → Shunter) : (s.modShunter i f).dram = s.dram := rfl
@[simp] theorem State.modShunter_mram (s : State) (i : Sh) (f : Shunter → Shunter) : (s.modShunter i f).mram = s.mram := rfl
@[simp] theorem State.modShunter_dp (s : State) (i : Sh) (f : Shunter → Shunter) : (s.modShunter i f).dp = s.dp := rfl
@[simp] theorem State.modShunter_hm (s : State) (i : Sh) (f : Shunter → Shunter) : (s.modShunter i f).hm = s.hm := rfl
@[simp] theorem State.modShunter_sc (s : State) (i : Sh) (f : Shunter → Shunter) : (s.modShunter i f).sc = s.sc := rfl
@[simp] theorem State.modShunter_pw (s : State) (i : Sh) (f : Shunter → Shunter) : (s.modShunter i f).pw = s.pw := rfl
@[simp] theorem State.modShunter_rtc (s : State) (i : Sh) (f : Shunter → Shunter) : (s.modShunter i f).rtc = s.rtc := rfl
@[simp] theorem State.modShunter_yd (s : State) (i : Sh) (f : Shunter → Shunter) : (s.modShunter i f).yd = s.yd := rfl
@[simp] theorem State.modShunter_sb (s : State) (i : Sh) (f : Shunter → Shunter) : (s.modShunter i f).sb = s.sb := rfl
@[simp] theorem State.modShunter_fe (s : State) (i : Sh) (f : Shunter → Shunter) : (s.modShunter i f).fe = s.fe := rfl
@[simp] theorem State.modShunter_lanes (s : State) (i : Sh) (f : Shunter → Shunter) : (s.modShunter i f).lanes = s.lanes := rfl
@[simp] theorem State.modShunter_pt (s : State) (i : Sh) (f : Shunter → Shunter) : (s.modShunter i f).pt = s.pt := rfl
@[simp] theorem State.modShunter_bh (s : State) (i : Sh) (f : Shunter → Shunter) : (s.modShunter i f).bh = s.bh := rfl
@[simp] theorem State.modShunter_up (s : State) (i : Sh) (f : Shunter → Shunter) : (s.modShunter i f).up = s.up := rfl
@[simp] theorem State.modShunter_hc (s : State) (i : Sh) (f : Shunter → Shunter) : (s.modShunter i f).hc = s.hc := rfl
@[simp] theorem State.modShunter_kv (s : State) (i : Sh) (f : Shunter → Shunter) : (s.modShunter i f).kv = s.kv := rfl

@[simp] theorem State.raise_pending (s : State) (e : Nat) : (s.raise e).pending = s.pending := rfl
@[simp] theorem State.raise_now (s : State) (e : Nat) : (s.raise e).now = s.now := rfl
@[simp] theorem State.raise_free (s : State) (e : Nat) : (s.raise e).free = s.free := rfl
@[simp] theorem State.raise_readback (s : State) (e : Nat) : (s.raise e).readback = s.readback := rfl
@[simp] theorem State.raise_lastStatus (s : State) (e : Nat) : (s.raise e).lastStatus = s.lastStatus := rfl
@[simp] theorem State.raise_out (s : State) (e : Nat) : (s.raise e).out = s.out := rfl
@[simp] theorem State.raise_regs (s : State) (e : Nat) : (s.raise e).regs = s.regs := rfl
@[simp] theorem State.raise_locked (s : State) (e : Nat) : (s.raise e).locked = s.locked := rfl
@[simp] theorem State.raise_main (s : State) (e : Nat) : (s.raise e).main = s.main := rfl
@[simp] theorem State.raise_locals (s : State) (e : Nat) : (s.raise e).locals = s.locals := rfl
@[simp] theorem State.raise_scratch (s : State) (e : Nat) : (s.raise e).scratch = s.scratch := rfl
@[simp] theorem State.raise_code (s : State) (e : Nat) : (s.raise e).code = s.code := rfl
@[simp] theorem State.raise_dram (s : State) (e : Nat) : (s.raise e).dram = s.dram := rfl
@[simp] theorem State.raise_mram (s : State) (e : Nat) : (s.raise e).mram = s.mram := rfl
@[simp] theorem State.raise_shunters (s : State) (e : Nat) : (s.raise e).shunters = s.shunters := rfl
@[simp] theorem State.raise_hm (s : State) (e : Nat) : (s.raise e).hm = s.hm := rfl
@[simp] theorem State.raise_sc (s : State) (e : Nat) : (s.raise e).sc = s.sc := rfl
@[simp] theorem State.raise_pw (s : State) (e : Nat) : (s.raise e).pw = s.pw := rfl
@[simp] theorem State.raise_rtc (s : State) (e : Nat) : (s.raise e).rtc = s.rtc := rfl
@[simp] theorem State.raise_yd (s : State) (e : Nat) : (s.raise e).yd = s.yd := rfl
@[simp] theorem State.raise_sb (s : State) (e : Nat) : (s.raise e).sb = s.sb := rfl
@[simp] theorem State.raise_fe (s : State) (e : Nat) : (s.raise e).fe = s.fe := rfl
@[simp] theorem State.raise_lanes (s : State) (e : Nat) : (s.raise e).lanes = s.lanes := rfl
@[simp] theorem State.raise_pt (s : State) (e : Nat) : (s.raise e).pt = s.pt := rfl
@[simp] theorem State.raise_bh (s : State) (e : Nat) : (s.raise e).bh = s.bh := rfl
@[simp] theorem State.raise_up (s : State) (e : Nat) : (s.raise e).up = s.up := rfl
@[simp] theorem State.raise_hc (s : State) (e : Nat) : (s.raise e).hc = s.hc := rfl
@[simp] theorem State.raise_kv (s : State) (e : Nat) : (s.raise e).kv = s.kv := rfl

@[simp] theorem State.occurV_pending (s : State) (c : Nat) (v : Word) : (s.occurV c v).pending = s.pending := rfl
@[simp] theorem State.occurV_now (s : State) (c : Nat) (v : Word) : (s.occurV c v).now = s.now := rfl
@[simp] theorem State.occurV_free (s : State) (c : Nat) (v : Word) : (s.occurV c v).free = s.free := rfl
@[simp] theorem State.occurV_readback (s : State) (c : Nat) (v : Word) : (s.occurV c v).readback = s.readback := rfl
@[simp] theorem State.occurV_lastStatus (s : State) (c : Nat) (v : Word) : (s.occurV c v).lastStatus = s.lastStatus := rfl
@[simp] theorem State.occurV_out (s : State) (c : Nat) (v : Word) : (s.occurV c v).out = s.out := rfl
@[simp] theorem State.occurV_regs (s : State) (c : Nat) (v : Word) : (s.occurV c v).regs = s.regs := rfl
@[simp] theorem State.occurV_locked (s : State) (c : Nat) (v : Word) : (s.occurV c v).locked = s.locked := rfl
@[simp] theorem State.occurV_main (s : State) (c : Nat) (v : Word) : (s.occurV c v).main = s.main := rfl
@[simp] theorem State.occurV_locals (s : State) (c : Nat) (v : Word) : (s.occurV c v).locals = s.locals := rfl
@[simp] theorem State.occurV_scratch (s : State) (c : Nat) (v : Word) : (s.occurV c v).scratch = s.scratch := rfl
@[simp] theorem State.occurV_code (s : State) (c : Nat) (v : Word) : (s.occurV c v).code = s.code := rfl
@[simp] theorem State.occurV_dram (s : State) (c : Nat) (v : Word) : (s.occurV c v).dram = s.dram := rfl
@[simp] theorem State.occurV_mram (s : State) (c : Nat) (v : Word) : (s.occurV c v).mram = s.mram := rfl
@[simp] theorem State.occurV_shunters (s : State) (c : Nat) (v : Word) : (s.occurV c v).shunters = s.shunters := rfl
@[simp] theorem State.occurV_dp (s : State) (c : Nat) (v : Word) : (s.occurV c v).dp = s.dp := rfl
@[simp] theorem State.occurV_sc (s : State) (c : Nat) (v : Word) : (s.occurV c v).sc = s.sc := rfl
@[simp] theorem State.occurV_pw (s : State) (c : Nat) (v : Word) : (s.occurV c v).pw = s.pw := rfl
@[simp] theorem State.occurV_rtc (s : State) (c : Nat) (v : Word) : (s.occurV c v).rtc = s.rtc := rfl
@[simp] theorem State.occurV_yd (s : State) (c : Nat) (v : Word) : (s.occurV c v).yd = s.yd := rfl
@[simp] theorem State.occurV_sb (s : State) (c : Nat) (v : Word) : (s.occurV c v).sb = s.sb := rfl
@[simp] theorem State.occurV_fe (s : State) (c : Nat) (v : Word) : (s.occurV c v).fe = s.fe := rfl
@[simp] theorem State.occurV_lanes (s : State) (c : Nat) (v : Word) : (s.occurV c v).lanes = s.lanes := rfl
@[simp] theorem State.occurV_pt (s : State) (c : Nat) (v : Word) : (s.occurV c v).pt = s.pt := rfl
@[simp] theorem State.occurV_bh (s : State) (c : Nat) (v : Word) : (s.occurV c v).bh = s.bh := rfl
@[simp] theorem State.occurV_up (s : State) (c : Nat) (v : Word) : (s.occurV c v).up = s.up := rfl
@[simp] theorem State.occurV_hc (s : State) (c : Nat) (v : Word) : (s.occurV c v).hc = s.hc := rfl
@[simp] theorem State.occurV_kv (s : State) (c : Nat) (v : Word) : (s.occurV c v).kv = s.kv := rfl

@[simp] theorem State.occur_pending (s : State) (c : Nat) : (s.occur c).pending = s.pending := rfl
@[simp] theorem State.occur_now (s : State) (c : Nat) : (s.occur c).now = s.now := rfl
@[simp] theorem State.occur_free (s : State) (c : Nat) : (s.occur c).free = s.free := rfl
@[simp] theorem State.occur_readback (s : State) (c : Nat) : (s.occur c).readback = s.readback := rfl
@[simp] theorem State.occur_lastStatus (s : State) (c : Nat) : (s.occur c).lastStatus = s.lastStatus := rfl
@[simp] theorem State.occur_out (s : State) (c : Nat) : (s.occur c).out = s.out := rfl
@[simp] theorem State.occur_regs (s : State) (c : Nat) : (s.occur c).regs = s.regs := rfl
@[simp] theorem State.occur_locked (s : State) (c : Nat) : (s.occur c).locked = s.locked := rfl
@[simp] theorem State.occur_main (s : State) (c : Nat) : (s.occur c).main = s.main := rfl
@[simp] theorem State.occur_locals (s : State) (c : Nat) : (s.occur c).locals = s.locals := rfl
@[simp] theorem State.occur_scratch (s : State) (c : Nat) : (s.occur c).scratch = s.scratch := rfl
@[simp] theorem State.occur_code (s : State) (c : Nat) : (s.occur c).code = s.code := rfl
@[simp] theorem State.occur_dram (s : State) (c : Nat) : (s.occur c).dram = s.dram := rfl
@[simp] theorem State.occur_mram (s : State) (c : Nat) : (s.occur c).mram = s.mram := rfl
@[simp] theorem State.occur_shunters (s : State) (c : Nat) : (s.occur c).shunters = s.shunters := rfl
@[simp] theorem State.occur_dp (s : State) (c : Nat) : (s.occur c).dp = s.dp := rfl
@[simp] theorem State.occur_sc (s : State) (c : Nat) : (s.occur c).sc = s.sc := rfl
@[simp] theorem State.occur_pw (s : State) (c : Nat) : (s.occur c).pw = s.pw := rfl
@[simp] theorem State.occur_rtc (s : State) (c : Nat) : (s.occur c).rtc = s.rtc := rfl
@[simp] theorem State.occur_yd (s : State) (c : Nat) : (s.occur c).yd = s.yd := rfl
@[simp] theorem State.occur_sb (s : State) (c : Nat) : (s.occur c).sb = s.sb := rfl
@[simp] theorem State.occur_fe (s : State) (c : Nat) : (s.occur c).fe = s.fe := rfl
@[simp] theorem State.occur_lanes (s : State) (c : Nat) : (s.occur c).lanes = s.lanes := rfl
@[simp] theorem State.occur_pt (s : State) (c : Nat) : (s.occur c).pt = s.pt := rfl
@[simp] theorem State.occur_bh (s : State) (c : Nat) : (s.occur c).bh = s.bh := rfl
@[simp] theorem State.occur_up (s : State) (c : Nat) : (s.occur c).up = s.up := rfl
@[simp] theorem State.occur_hc (s : State) (c : Nat) : (s.occur c).hc = s.hc := rfl
@[simp] theorem State.occur_kv (s : State) (c : Nat) : (s.occur c).kv = s.kv := rfl

end Sys2Proof.Machine
end

