-- ==== Sys2Proof/Laws/Store.lean ====
section
/-! SUPPORT. Laws of the sparse maps: reading after writing, and the canonical form that every operation keeps. -/

namespace Sys2Proof.Machine

variable {α : Type}

@[simp] theorem mapGet_nil (d : Nat → α) (k : Nat) : mapGet d [] k = d k := rfl

theorem mapGet_cons (d : Nat → α) (j : Nat) (v : α) (r : SMap α) (k : Nat) :
    mapGet d ((j, v) :: r) k = if j = k then v else mapGet d r k := rfl

@[simp] theorem mapGet_mapSet_same (d : Nat → α) (m : SMap α) (k : Nat) (v : α) : mapGet d (mapSet m k v) k = v := by
  induction m with
  | nil => simp [mapSet, mapGet]
  | cons p r ih =>
    obtain ⟨j, w⟩ := p
    simp only [mapSet]
    split
    · simp [mapGet]
    · split
      · simp [mapGet]
      · rename_i h
        simp [mapGet, h, ih]

theorem mapGet_mapSet_other (d : Nat → α) (m : SMap α) {k j : Nat} (v : α) (h : k ≠ j) :
    mapGet d (mapSet m k v) j = mapGet d m j := by
  induction m with
  | nil => simp [mapSet, mapGet, h]
  | cons p r ih =>
    obtain ⟨i, w⟩ := p
    simp only [mapSet]
    split
    · simp [mapGet, h]
    · split
      · rename_i e
        subst e
        simp [mapGet, h]
      · simp [mapGet, ih]

@[simp] theorem mapGet_mapDel_same (d : Nat → α) (m : SMap α) (k : Nat) : mapGet d (mapDel m k) k = d k := by
  induction m with
  | nil => rfl
  | cons p r ih =>
    obtain ⟨j, w⟩ := p
    by_cases h : j = k
    · simpa [mapDel, h] using ih
    · simpa [mapDel, h, mapGet] using ih

theorem mapGet_mapDel_other (d : Nat → α) (m : SMap α) {k j : Nat} (h : k ≠ j) : mapGet d (mapDel m k) j = mapGet d m j := by
  induction m with
  | nil => rfl
  | cons p r ih =>
    obtain ⟨i, w⟩ := p
    by_cases e : i = k
    · have hj : ¬ i = j := by omega
      simpa [mapDel, e, mapGet, h, hj] using ih
    · simp only [mapDel, List.filter_cons, bne_iff_ne, ne_eq, e, not_false_eq_true, if_true, mapGet]
      split
      · rfl
      · simpa [mapDel] using ih

@[simp] theorem mapGet_mapPut_same [DecidableEq α] (d : Nat → α) (m : SMap α) (k : Nat) (v : α) :
    mapGet d (mapPut d m k v) k = v := by
  unfold mapPut
  split <;> simp_all

theorem mapGet_mapPut_other [DecidableEq α] (d : Nat → α) (m : SMap α) {k j : Nat} (v : α) (h : k ≠ j) :
    mapGet d (mapPut d m k v) j = mapGet d m j := by
  unfold mapPut
  split
  · exact mapGet_mapDel_other d m h
  · exact mapGet_mapSet_other d m v h

/-- Reading after a write: the value written, or what stood there. -/
theorem mapGet_mapPut [DecidableEq α] (d : Nat → α) (m : SMap α) (k j : Nat) (v : α) :
    mapGet d (mapPut d m k v) j = if k = j then v else mapGet d m j := by
  by_cases h : k = j
  · subst h; simp
  · simp [h, mapGet_mapPut_other d m v h]

@[simp] theorem mapWf_nil [DecidableEq α] (d : Nat → α) : mapWf d ([] : SMap α) = true := rfl

theorem mapWf_filter [DecidableEq α] (d : Nat → α) (p : Nat × α → Bool) (m : SMap α) (h : mapWf d m = true) :
    mapWf d (m.filter p) = true := by
  induction m with
  | nil => rfl
  | cons e r ih =>
    obtain ⟨k, v⟩ := e
    simp only [mapWf, Bool.and_eq_true, List.all_eq_true, decide_eq_true_eq] at h
    simp only [List.filter_cons]
    split
    · simp only [mapWf, Bool.and_eq_true, List.all_eq_true, decide_eq_true_eq]
      exact ⟨⟨h.1.1, fun q hq => h.1.2 q (List.mem_filter.mp hq).1⟩, ih h.2⟩
    · exact ih h.2

theorem mapWf_mapDel [DecidableEq α] (d : Nat → α) (m : SMap α) (k : Nat) (h : mapWf d m = true) :
    mapWf d (mapDel m k) = true := mapWf_filter d _ m h

theorem mapWf_mapDrop [DecidableEq α] (d : Nat → α) (p : Nat → Bool) (m : SMap α) (h : mapWf d m = true) :
    mapWf d (mapDrop p m) = true := mapWf_filter d _ m h

theorem mapSet_mem (m : SMap α) (k : Nat) (v : α) (e : Nat × α) (h : e ∈ mapSet m k v) : e = (k, v) ∨ e ∈ m := by
  induction m with
  | nil => simpa [mapSet] using h
  | cons p r ih =>
    obtain ⟨j, w⟩ := p
    simp only [mapSet] at h
    split at h
    · simpa using h
    · split at h
      · rename_i e1
        subst e1
        rcases List.mem_cons.mp h with h | h
        · exact Or.inl h
        · exact Or.inr (List.mem_cons_of_mem _ h)
      · rcases List.mem_cons.mp h with h | h
        · exact Or.inr (h ▸ List.mem_cons_self)
        · rcases ih h with h | h
          · exact Or.inl h
          · exact Or.inr (List.mem_cons_of_mem _ h)

theorem mapWf_mapSet [DecidableEq α] (d : Nat → α) (m : SMap α) (k : Nat) (v : α) (hv : v ≠ d k) (h : mapWf d m = true) :
    mapWf d (mapSet m k v) = true := by
  induction m with
  | nil => simp [mapSet, mapWf, hv]
  | cons p r ih =>
    obtain ⟨j, w⟩ := p
    simp only [mapWf, Bool.and_eq_true, List.all_eq_true, decide_eq_true_eq] at h
    simp only [mapSet]
    split
    · rename_i hk
      simp only [mapWf, Bool.and_eq_true, List.all_eq_true, decide_eq_true_eq]
      refine ⟨⟨hv, fun q hq => ?_⟩, h⟩
      rcases List.mem_cons.mp hq with e | e
      · subst e; exact hk
      · exact Nat.lt_trans hk (h.1.2 q e)
    · split
      · rename_i e
        subst e
        simp only [mapWf, Bool.and_eq_true, List.all_eq_true, decide_eq_true_eq]
        exact ⟨⟨hv, h.1.2⟩, h.2⟩
      · rename_i hk he
        simp only [mapWf, Bool.and_eq_true, List.all_eq_true, decide_eq_true_eq]
        refine ⟨⟨h.1.1, fun q hq => ?_⟩, ih h.2⟩
        rcases mapSet_mem r k v q hq with e | e
        · subst e; simp only; omega
        · exact h.1.2 q e

/-- A write keeps the canonical form. -/
theorem mapWf_mapPut [DecidableEq α] (d : Nat → α) (m : SMap α) (k : Nat) (v : α) (h : mapWf d m = true) :
    mapWf d (mapPut d m k v) = true := by
  unfold mapPut
  split
  · exact mapWf_mapDel d m k h
  · rename_i hv
    exact mapWf_mapSet d m k v hv h

theorem mapWf_mapUpd [DecidableEq α] (d : Nat → α) (m : SMap α) (k : Nat) (f : α → α) (h : mapWf d m = true) :
    mapWf d (mapUpd d m k f) = true := mapWf_mapPut d m k _ h

end Sys2Proof.Machine
end

