-- ==== Sys2Proof/Laws/Ops.lean ====
section
/-! SUPPORT. Laws of the shared operations: registers, memories and shunters read after a write, and the canonical form
of the memories. -/

namespace Sys2Proof.Machine

/-! ### Registers -/

@[simp] theorem State.reg_setReg_same (s : State) (a : Nat) (v : Word) : (s.setReg a v).reg a = v :=
  mapGet_mapPut_same ..

theorem State.reg_setReg (s : State) (a b : Nat) (v : Word) : (s.setReg a v).reg b = if a = b then v else s.reg b :=
  mapGet_mapPut ..

theorem State.reg_setReg_other (s : State) {a b : Nat} (v : Word) (h : a ≠ b) : (s.setReg a v).reg b = s.reg b :=
  mapGet_mapPut_other _ _ _ h

@[simp] theorem State.reg_setRegFld_same (s : State) (a hi lo v : Nat) :
    (s.setRegFld a hi lo v).reg a = setFld (s.reg a) hi lo v := State.reg_setReg_same ..

@[simp] theorem State.reg_count_same (s : State) (a : Nat) : (s.count a).reg a = satInc 24 (s.reg a) :=
  State.reg_setReg_same ..

/-- An update that leaves the register list leaves every register. -/
theorem State.reg_congr {s t : State} (h : t.regs = s.regs) (a : Nat) : t.reg a = s.reg a := by
  simp [State.reg, h]

@[simp] theorem State.reg_raise (s : State) (e a : Nat) : (s.raise e).reg a = s.reg a := rfl
@[simp] theorem State.reg_occurV (s : State) (c : Nat) (v : Word) (a : Nat) : (s.occurV c v).reg a = s.reg a := rfl
@[simp] theorem State.reg_occur (s : State) (c a : Nat) : (s.occur c).reg a = s.reg a := rfl
@[simp] theorem State.reg_modShunter (s : State) (i : Sh) (f : Shunter → Shunter) (a : Nat) :
    (s.modShunter i f).reg a = s.reg a := rfl

/-! ### Power domains -/

@[simp] theorem State.on_setReg (s : State) (a : Nat) (v : Word) (d : Nat) : (s.setReg a v).on d = s.on d := rfl
@[simp] theorem State.on_raise (s : State) (e d : Nat) : (s.raise e).on d = s.on d := rfl
@[simp] theorem State.on_occurV (s : State) (c : Nat) (v : Word) (d : Nat) : (s.occurV c v).on d = s.on d := rfl
@[simp] theorem State.on_occur (s : State) (c d : Nat) : (s.occur c).on d = s.on d := rfl
@[simp] theorem State.on_modShunter (s : State) (i : Sh) (f : Shunter → Shunter) (d : Nat) :
    (s.modShunter i f).on d = s.on d := rfl

/-! ### Shunters -/

@[simp] theorem State.shunter_setShunter_same (s : State) (i : Sh) (x : Shunter) : (s.setShunter i x).shunter i = x :=
  mapGet_mapPut_same ..

theorem State.shunter_setShunter_other (s : State) {i j : Sh} (x : Shunter) (h : i ≠ j) :
    (s.setShunter i x).shunter j = s.shunter j :=
  mapGet_mapPut_other _ _ _ (fun e => h (Fin.ext e))

@[simp] theorem State.shunter_modShunter_same (s : State) (i : Sh) (f : Shunter → Shunter) :
    (s.modShunter i f).shunter i = f (s.shunter i) := State.shunter_setShunter_same ..

theorem State.shunter_modShunter_other (s : State) {i j : Sh} (f : Shunter → Shunter) (h : i ≠ j) :
    (s.modShunter i f).shunter j = s.shunter j := State.shunter_setShunter_other _ _ h

@[simp] theorem State.shunter_setReg (s : State) (a : Nat) (v : Word) (i : Sh) : (s.setReg a v).shunter i = s.shunter i := rfl
@[simp] theorem State.shunter_count (s : State) (a : Nat) (i : Sh) : (s.count a).shunter i = s.shunter i := rfl
@[simp] theorem State.shunter_raise (s : State) (e : Nat) (i : Sh) : (s.raise e).shunter i = s.shunter i := rfl
@[simp] theorem State.shunter_occurV (s : State) (c : Nat) (v : Word) (i : Sh) : (s.occurV c v).shunter i = s.shunter i := rfl
@[simp] theorem State.shunter_occur (s : State) (c : Nat) (i : Sh) : (s.occur c).shunter i = s.shunter i := rfl
@[simp] theorem State.shunter_setToken (s : State) (t : Nat) (k : Token) (i : Sh) : (s.setToken t k).shunter i = s.shunter i := rfl
@[simp] theorem State.shunter_setLocal (s : State) (j : Sh) (a : Nat) (v : Word) (i : Sh) : (s.setLocal j a v).shunter i = s.shunter i := rfl
@[simp] theorem State.shunter_setScr (s : State) (d a : Nat) (v : Word) (i : Sh) : (s.setScr d a v).shunter i = s.shunter i := rfl

/-- g0 reads 0 (R61). -/
@[simp] theorem Shunter.r_zero (x : Shunter) : x.r 0 = 0 := rfl

/-- A register reads what was written, and g0 discards it (R61). -/
theorem Shunter.r_setR (x : Shunter) (d r : Reg) (v : Word) :
    (x.setR d v).r r = if d = r ∧ d ≠ 0 then v else x.r r := by
  by_cases h0 : d = 0
  · simp [Shunter.setR, h0]
  · by_cases h : d = r
    · subst h
      simp [Shunter.setR, Shunter.r, h0]
    · have hv : d.val ≠ r.val := fun e => h (Fin.ext e)
      simp only [Shunter.setR, h0, if_false, h, false_and]
      unfold Shunter.r
      split
      · rfl
      · exact mapGet_mapPut_other _ _ _ hv

/-! ### Memories -/

@[simp] theorem State.mainWord_setMain_same (s : State) (a : Nat) (v : Word) : (s.setMain a v).mainWord a = v :=
  mapGet_mapPut_same ..

theorem State.mainWord_setMain_other (s : State) {a b : Nat} (v : Word) (h : a ≠ b) :
    (s.setMain a v).mainWord b = s.mainWord b := mapGet_mapPut_other _ _ _ h

@[simp] theorem State.dramByte_setDram_same (s : State) (a : Nat) (v : Byte) : (s.setDram a v).dramByte a = v :=
  mapGet_mapPut_same ..

theorem State.dramByte_setDram_other (s : State) {a b : Nat} (v : Byte) (h : a ≠ b) :
    (s.setDram a v).dramByte b = s.dramByte b := mapGet_mapPut_other _ _ _ h

/-- The memories keep their canonical form when every memory of the new state has it. -/
theorem Memory.wf_iff (s : State) :
    Memory.wf s = true ↔ mapWf zeroWord s.main = true ∧ mapWf zeroWord s.locals = true ∧ mapWf zeroWord s.scratch = true ∧
      mapWf zeroWord s.code = true ∧ mapWf zeroByte s.dram = true ∧ mapWf zeroByte s.mram = true := by
  simp [Memory.wf, and_assoc]

theorem Memory.wf_setMain (s : State) (a : Nat) (v : Word) (h : Memory.wf s = true) : Memory.wf (s.setMain a v) = true := by
  rw [Memory.wf_iff] at *
  exact ⟨mapWf_mapPut _ _ _ _ h.1, h.2⟩

theorem Memory.wf_setLocal (s : State) (i : Sh) (a : Nat) (v : Word) (h : Memory.wf s = true) :
    Memory.wf (s.setLocal i a v) = true := by
  rw [Memory.wf_iff] at *
  exact ⟨h.1, mapWf_mapPut _ _ _ _ h.2.1, h.2.2⟩

theorem Memory.wf_setScr (s : State) (d a : Nat) (v : Word) (h : Memory.wf s = true) : Memory.wf (s.setScr d a v) = true := by
  rw [Memory.wf_iff] at *
  exact ⟨h.1, h.2.1, mapWf_mapPut _ _ _ _ h.2.2.1, h.2.2.2⟩

theorem Memory.wf_setCode (s : State) (d a : Nat) (v : Word) (h : Memory.wf s = true) : Memory.wf (s.setCode d a v) = true := by
  rw [Memory.wf_iff] at *
  exact ⟨h.1, h.2.1, h.2.2.1, mapWf_mapPut _ _ _ _ h.2.2.2.1, h.2.2.2.2⟩

theorem Memory.wf_setDram (s : State) (a : Nat) (v : Byte) (h : Memory.wf s = true) : Memory.wf (s.setDram a v) = true := by
  rw [Memory.wf_iff] at *
  exact ⟨h.1, h.2.1, h.2.2.1, h.2.2.2.1, mapWf_mapPut _ _ _ _ h.2.2.2.2.1, h.2.2.2.2.2⟩

theorem Memory.wf_setMram (s : State) (a : Nat) (v : Byte) (h : Memory.wf s = true) : Memory.wf (s.setMram a v) = true := by
  rw [Memory.wf_iff] at *
  exact ⟨h.1, h.2.1, h.2.2.1, h.2.2.2.1, h.2.2.2.2.1, mapWf_mapPut _ _ _ _ h.2.2.2.2.2⟩

theorem Memory.wf_putMain (s : State) (a : Nat) (l : List Word) (h : Memory.wf s = true) : Memory.wf (s.putMain a l) = true := by
  induction l generalizing s a with
  | nil => exact h
  | cons w r ih => exact ih _ _ (Memory.wf_setMain s a w h)

theorem Memory.wf_putDram (s : State) (a : Nat) (l : List Byte) (h : Memory.wf s = true) : Memory.wf (s.putDram a l) = true := by
  induction l generalizing s a with
  | nil => exact h
  | cons w r ih => exact ih _ _ (Memory.wf_setDram s a w h)

theorem Memory.wf_putMram (s : State) (a : Nat) (l : List Byte) (h : Memory.wf s = true) : Memory.wf (s.putMram a l) = true := by
  induction l generalizing s a with
  | nil => exact h
  | cons w r ih => exact ih _ _ (Memory.wf_setMram s a w h)

/-- An update that leaves the memories keeps their canonical form. -/
theorem Memory.wf_congr {s t : State} (hm : t.main = s.main) (hl : t.locals = s.locals) (hs : t.scratch = s.scratch)
    (hc : t.code = s.code) (hd : t.dram = s.dram) (hr : t.mram = s.mram) : Memory.wf t = Memory.wf s := by
  simp [Memory.wf, hm, hl, hs, hc, hd, hr]

end Sys2Proof.Machine
end

