-- ==== Sys2Proof/Laws/PerInstr.lean ====
section
/-! SUPPORT. A fact about every command as syntax: exactly the instructions of a shunter have an encoding. One lemma
per constructor of `Instr`. -/

namespace Sys2Proof.Laws.Encoded

/-- A command has instruction words exactly when a shunter executes it. -/
def Statement (i : Instr) : Prop := (Nimvor.encode i).isSome = (Nimvor.shunterOf i).isSome

theorem registerWrite (src : Src) (addr v : Word) : Statement (.registerWrite src addr v) := rfl
theorem add (sh : Sh) (d a b : Reg) : Statement (.add sh d a b) := rfl
theorem adc (sh : Sh) (d a b : Reg) : Statement (.adc sh d a b) := rfl
theorem sub (sh : Sh) (d a b : Reg) : Statement (.sub sh d a b) := rfl
theorem sbc (sh : Sh) (d a b : Reg) : Statement (.sbc sh d a b) := rfl
theorem and (sh : Sh) (d a b : Reg) : Statement (.and sh d a b) := rfl
theorem or (sh : Sh) (d a b : Reg) : Statement (.or sh d a b) := rfl
theorem xor (sh : Sh) (d a b : Reg) : Statement (.xor sh d a b) := rfl
theorem andn (sh : Sh) (d a b : Reg) : Statement (.andn sh d a b) := rfl
theorem addi (sh : Sh) (d a : Reg) (imm : BitVec 8) : Statement (.addi sh d a imm) := rfl
theorem subi (sh : Sh) (d a : Reg) (imm : BitVec 8) : Statement (.subi sh d a imm) := rfl
theorem andi (sh : Sh) (d a : Reg) (imm : BitVec 8) : Statement (.andi sh d a imm) := rfl
theorem ori (sh : Sh) (d a : Reg) (imm : BitVec 8) : Statement (.ori sh d a imm) := rfl
theorem xori (sh : Sh) (d a : Reg) (imm : BitVec 8) : Statement (.xori sh d a imm) := rfl
theorem movs (sh : Sh) (d : Reg) (imm : BitVec 8) : Statement (.movs sh d imm) := rfl
theorem movi (sh : Sh) (d : Reg) (ext : Word) : Statement (.movi sh d ext) := rfl
theorem shl (sh : Sh) (d a b : Reg) : Statement (.shl sh d a b) := rfl
theorem shr (sh : Sh) (d a b : Reg) : Statement (.shr sh d a b) := rfl
theorem sar (sh : Sh) (d a b : Reg) : Statement (.sar sh d a b) := rfl
theorem rol (sh : Sh) (d a b : Reg) : Statement (.rol sh d a b) := rfl
theorem ror (sh : Sh) (d a b : Reg) : Statement (.ror sh d a b) := rfl
theorem clz (sh : Sh) (d a : Reg) : Statement (.clz sh d a) := rfl
theorem popc (sh : Sh) (d a : Reg) : Statement (.popc sh d a) := rfl
theorem brev (sh : Sh) (d a : Reg) : Statement (.brev sh d a) := rfl
theorem shli (sh : Sh) (d a : Reg) (n : BitVec 5) : Statement (.shli sh d a n) := rfl
theorem shri (sh : Sh) (d a : Reg) (n : BitVec 5) : Statement (.shri sh d a n) := rfl
theorem sari (sh : Sh) (d a : Reg) (n : BitVec 5) : Statement (.sari sh d a n) := rfl
theorem roli (sh : Sh) (d a : Reg) (n : BitVec 5) : Statement (.roli sh d a n) := rfl
theorem rori (sh : Sh) (d a : Reg) (n : BitVec 5) : Statement (.rori sh d a n) := rfl
theorem mulu (sh : Sh) (d a b : Reg) : Statement (.mulu sh d a b) := rfl
theorem muls (sh : Sh) (d a b : Reg) : Statement (.muls sh d a b) := rfl
theorem mull (sh : Sh) (d a b : Reg) : Statement (.mull sh d a b) := rfl
theorem macu (sh : Sh) (d a b : Reg) : Statement (.macu sh d a b) := rfl
theorem macs (sh : Sh) (d a b : Reg) : Statement (.macs sh d a b) := rfl
theorem divu (sh : Sh) (d a b : Reg) : Statement (.divu sh d a b) := rfl
theorem addp (sh : Sh) (d a b : Reg) : Statement (.addp sh d a b) := rfl
theorem subp (sh : Sh) (d a b : Reg) : Statement (.subp sh d a b) := rfl
theorem shlp (sh : Sh) (d a b : Reg) : Statement (.shlp sh d a b) := rfl
theorem shrp (sh : Sh) (d a b : Reg) : Statement (.shrp sh d a b) := rfl
theorem sarp (sh : Sh) (d a b : Reg) : Statement (.sarp sh d a b) := rfl
theorem movp (sh : Sh) (d a : Reg) : Statement (.movp sh d a) := rfl
theorem cmpp (sh : Sh) (a b : Reg) : Statement (.cmpp sh a b) := rfl
theorem sxp (sh : Sh) (d a : Reg) : Statement (.sxp sh d a) := rfl
theorem extu (sh : Sh) (d a : Reg) (pos w1 : BitVec 5) : Statement (.extu sh d a pos w1) := rfl
theorem exts (sh : Sh) (d a : Reg) (pos w1 : BitVec 5) : Statement (.exts sh d a pos w1) := rfl
theorem ins (sh : Sh) (d a : Reg) (pos w1 : BitVec 5) : Statement (.ins sh d a pos w1) := rfl
theorem btst (sh : Sh) (a b : Reg) : Statement (.btst sh a b) := rfl
theorem bset (sh : Sh) (d a b : Reg) : Statement (.bset sh d a b) := rfl
theorem bclr (sh : Sh) (d a b : Reg) : Statement (.bclr sh d a b) := rfl
theorem bflip (sh : Sh) (d a b : Reg) : Statement (.bflip sh d a b) := rfl
theorem ld (sh : Sh) (d a : Reg) (imm : BitVec 8) : Statement (.ld sh d a imm) := rfl
theorem ldx (sh : Sh) (d a : Reg) (ext : Word) : Statement (.ldx sh d a ext) := rfl
theorem st (sh : Sh) (d a : Reg) (imm : BitVec 8) : Statement (.st sh d a imm) := rfl
theorem stx (sh : Sh) (d a : Reg) (ext : Word) : Statement (.stx sh d a ext) := rfl
theorem ldp (sh : Sh) (d a : Reg) (imm : BitVec 8) : Statement (.ldp sh d a imm) := rfl
theorem stp (sh : Sh) (d a : Reg) (imm : BitVec 8) : Statement (.stp sh d a imm) := rfl
theorem loadArrival (sh : Sh) (i : Nat) (uncorrectable : Bool) : Statement (.loadArrival sh i uncorrectable) := rfl
theorem storeDrain (sh : Sh) (buf : Buf) : Statement (.storeDrain sh buf) := rfl
theorem bCond (sh : Sh) (cond : BitVec 4) (disp : BitVec 14) : Statement (.bCond sh cond disp) := rfl
theorem callCond (sh : Sh) (cond : BitVec 4) (disp : BitVec 14) : Statement (.callCond sh cond disp) := rfl
theorem jr (sh : Sh) (d a : Reg) : Statement (.jr sh d a) := rfl
theorem jl (sh : Sh) (d : Reg) (ext : Word) : Statement (.jl sh d ext) := rfl
theorem waitev (sh : Sh) (d a : Reg) : Statement (.waitev sh d a) := rfl
theorem waitevTimeout (sh : Sh) : Statement (.waitevTimeout sh) := rfl
theorem eventArrival (e : Fin 1024) : Statement (.eventArrival e) := rfl
theorem signal (sh : Sh) (a : Reg) (imm : BitVec 8) : Statement (.signal sh a imm) := rfl
theorem signalDelivery (sh : Sh) (dp : Depot) : Statement (.signalDelivery sh dp) := rfl
theorem tcap (sh : Sh) (d : Reg) : Statement (.tcap sh d) := rfl
theorem waitt (sh : Sh) (a : Reg) : Statement (.waitt sh a) := rfl
theorem waittTarget (sh : Sh) : Statement (.waittTarget sh) := rfl
theorem tkacq (sh : Sh) (t : BitVec 8) : Statement (.tkacq sh t) := rfl
theorem tktry (sh : Sh) (t : BitVec 8) : Statement (.tktry sh t) := rfl
theorem tkrel (sh : Sh) (t : BitVec 8) : Statement (.tkrel sh t) := rfl
theorem tokenRelease (t : BitVec 8) : Statement (.tokenRelease t) := rfl
theorem tokenHoldLimit (t : BitVec 8) : Statement (.tokenHoldLimit t) := rfl
theorem pt (sh : Sh) (d a : Reg) : Statement (.pt sh d a) := rfl
theorem ptp (sh : Sh) (d a : Reg) : Statement (.ptp sh d a) := rfl
theorem kv (sh : Sh) (d a : Reg) : Statement (.kv sh d a) := rfl
theorem kvp (sh : Sh) (d a : Reg) : Statement (.kvp sh d a) := rfl
theorem frt (sh : Sh) (a : Reg) : Statement (.frt sh a) := rfl
theorem crc32 (sh : Sh) (d a b : Reg) : Statement (.crc32 sh d a b) := rfl
theorem crc32c (sh : Sh) (d a b : Reg) : Statement (.crc32c sh d a b) := rfl
theorem crc32b (sh : Sh) (d a b : Reg) : Statement (.crc32b sh d a b) := rfl
theorem crc32cb (sh : Sh) (d a b : Reg) : Statement (.crc32cb sh d a b) := rfl
theorem crc16 (sh : Sh) (d a b : Reg) : Statement (.crc16 sh d a b) := rfl
theorem crc16b (sh : Sh) (d a b : Reg) : Statement (.crc16b sh d a b) := rfl
theorem fmix (sh : Sh) (d a b : Reg) : Statement (.fmix sh d a b) := rfl
theorem red (sh : Sh) (d a b : Reg) : Statement (.red sh d a b) := rfl
theorem fence (sh : Sh) : Statement (.fence sh) := rfl
theorem rdast (sh : Sh) (d : Reg) : Statement (.rdast sh d) := rfl
theorem rdfl (sh : Sh) (d : Reg) : Statement (.rdfl sh d) := rfl
theorem wrfl (sh : Sh) (a : Reg) : Statement (.wrfl sh a) := rfl
theorem rdid (sh : Sh) (d : Reg) : Statement (.rdid sh d) := rfl
theorem rdpc (sh : Sh) (d : Reg) : Statement (.rdpc sh d) := rfl
theorem halts (sh : Sh) : Statement (.halts sh) := rfl
theorem illegal (sh : Sh) (w ext : Word) : Statement (.illegal sh w ext) := rfl
theorem depotWatchdogLimit (sh : Sh) : Statement (.depotWatchdogLimit sh) := rfl
theorem watchdogFault (sh : Sh) : Statement (.watchdogFault sh) := rfl
theorem gwdKick (src : Src) (dp : Depot) (v : Word) : Statement (.gwdKick src dp v) := rfl
theorem kickWindowExpiry : Statement (.kickWindowExpiry) := rfl
theorem globalWatchdogWarning : Statement (.globalWatchdogWarning) := rfl
theorem globalWatchdogExpiry : Statement (.globalWatchdogExpiry) := rfl
theorem go (src : Src) (sh : Sh) (entry : BitVec 17) : Statement (.go src sh entry) := rfl
theorem halt (src : Src) (sh : Sh) : Statement (.halt src sh) := rfl
theorem reset (src : Src) (sh : Sh) : Statement (.reset src sh) := rfl
theorem dpImdataWrite (src : Src) (dp : Depot) (v : Word) : Statement (.dpImdataWrite src dp v) := rfl
theorem dpImdataRead (src : Src) (dp : Depot) : Statement (.dpImdataRead src dp) := rfl
theorem romenWrite (src : Src) (dp : Depot) (v : Word) : Statement (.romenWrite src dp v) := rfl
theorem routeWrite (src : Src) (dp : Depot) (e : Fin 1024) (hi : Bool) (v : Word) : Statement (.routeWrite src dp e hi v) := rfl
theorem freightCompletion (dp : Depot) (good : Option Nat) : Statement (.freightCompletion dp good) := rfl
theorem feWinWrite (src : Src) (band : Band) (v : Word) : Statement (.feWinWrite src band v) := rfl
theorem synthesiserLock (band : Band) : Statement (.synthesiserLock band) := rfl
theorem lossOfLock (band : Band) : Statement (.lossOfLock band) := rfl
theorem referenceOffsetDelivery : Statement (.referenceOffsetDelivery) := rfl
theorem agcGainDrop (band : Band) (chain : Fin 4) : Statement (.agcGainDrop band chain) := rfl
theorem agcGainRise (band : Band) (chain : Fin 4) : Statement (.agcGainRise band chain) := rfl
theorem feAgcGainWrite (src : Src) (band : Band) (chain : Fin 4) (v : Word) : Statement (.feAgcGainWrite src band chain v) := rfl
theorem dpdUpdate (band : Band) (converged : Bool) : Statement (.dpdUpdate band converged) := rfl
theorem txDpdDataAccess (src : Src) (band : Band) (v : Option Word) : Statement (.txDpdDataAccess src band v) := rfl
theorem feedbackOverRange (band : Band) : Statement (.feedbackOverRange band) := rfl
theorem antennaRequest (src : Src) (band : Band) (v : Word) : Statement (.antennaRequest src band v) := rfl
theorem goOnAir (band : Band) : Statement (.goOnAir band) := rfl
theorem goOffAir (band : Band) : Statement (.goOffAir band) := rfl
theorem feRgnCommit (src : Src) (v : Word) : Statement (.feRgnCommit src v) := rfl
theorem regionCommitDone : Statement (.regionCommitDone) := rfl
theorem feRgnDataAccess (src : Src) (v : Option Word) : Statement (.feRgnDataAccess src v) := rfl
theorem accumulatorBucketAdvance (band : Band) (acc : AccId) : Statement (.accumulatorBucketAdvance band acc) := rfl
theorem feedbackInRange (band : Band) : Statement (.feedbackInRange band) := rfl
theorem chCfgWrite (src : Src) (band : Band) (c : BitVec 8) (fofs : Bool) (v : Word) : Statement (.chCfgWrite src band c fofs v) := rfl
theorem detection (d : Detect) : Statement (.detection d) := rfl
theorem startOfFrameNotConfirmed (lane : Lane) : Statement (.startOfFrameNotConfirmed lane) := rfl
theorem phrReceived (lane : Lane) (phr : Option Phr) : Statement (.phrReceived lane phr) := rfl
theorem codewordDecoded (lane : Lane) (converged : Bool) : Statement (.codewordDecoded lane converged) := rfl
theorem ldpcTimeout (lane : Lane) : Statement (.ldpcTimeout lane) := rfl
theorem reportPosting (lane : Lane) (m : RxMeasure) : Statement (.reportPosting lane m) := rfl
theorem lnLctlRel (src : Src) (lane : Lane) : Statement (.lnLctlRel src lane) := rfl
theorem boundLaneSample : Statement (.boundLaneSample) := rfl
theorem tsArm (src : Src) (band : Band) (slot : Fin 16) : Statement (.tsArm src band slot) := rfl
theorem tsDisarm (src : Src) (band : Band) (slot : Fin 16) : Statement (.tsDisarm src band slot) := rfl
theorem tsLaunch (band : Band) (slot : Fin 16) (busy : Bool) : Statement (.tsLaunch band slot busy) := rfl
theorem lastDacSample (band : Band) (slot : Fin 16) : Statement (.lastDacSample band slot) := rfl
theorem txCtlWrite (src : Src) (band : Band) (v : Word) : Statement (.txCtlWrite src band v) := rfl
theorem pathPreparation : Statement (.pathPreparation) := rfl
theorem frameArming (i : Nat) : Statement (.frameArming i) := rfl
theorem keyCheck (i : Nat) : Statement (.keyCheck i) := rfl
theorem pathBoundary : Statement (.pathBoundary) := rfl
theorem uplinkAcknowledgement (i : Nat) (busy : Bool) : Statement (.uplinkAcknowledgement i busy) := rfl
theorem pathCompletion : Statement (.pathCompletion) := rfl
theorem commit (src : Src) (store : Fin 2) : Statement (.commit src store) := rfl
theorem editionCheckDone : Statement (.editionCheckDone) := rfl
theorem cancel (src : Src) (store : Fin 2) : Statement (.cancel src store) := rfl
theorem run (src : Src) : Statement (.run src) := rfl
theorem stop (src : Src) : Statement (.stop src) := rfl
theorem sbAbort (src : Src) : Statement (.sbAbort src) := rfl
theorem signalBoxWaitEnd : Statement (.signalBoxWaitEnd) := rfl
theorem sbCcmdWr (src : Src) : Statement (.sbCcmdWr src) := rfl
theorem sbCcmdRd (src : Src) : Statement (.sbCcmdRd src) := rfl
theorem sbJoindoneWrite (src : Src) (v : Word) : Statement (.sbJoindoneWrite src v) := rfl
theorem meshAliveTimeout : Statement (.meshAliveTimeout) := rfl
theorem scFreqWrite (src : Src) (v : Word) : Statement (.scFreqWrite src v) := rfl
theorem addUpdate : Statement (.addUpdate) := rfl
theorem scSlewWrite (src : Src) (v : Word) : Statement (.scSlewWrite src v) := rfl
theorem scSlewlenWrite (src : Src) (v : Word) : Statement (.scSlewlenWrite src v) := rfl
theorem slewEnd : Statement (.slewEnd) := rfl
theorem scLoad (src : Src) : Statement (.scLoad src) := rfl
theorem scStep (src : Src) : Statement (.scStep src) := rfl
theorem scMeasWrite (src : Src) (v : Word) : Statement (.scMeasWrite src v) := rfl
theorem holdoverTimeout : Statement (.holdoverTimeout) := rfl
theorem leaderWrite (src : Src) (v : Word) : Statement (.leaderWrite src v) := rfl
theorem scTime0Read (src : Src) : Statement (.scTime0Read src) := rfl
theorem compareFire (c : Fin 16) : Statement (.compareFire c) := rfl
theorem cmpWrite (src : Src) (c : Fin 16) (r : Fin 4) (v : Word) : Statement (.cmpWrite src c r v) := rfl
theorem nread (p : Fin 11) : Statement (.nread p) := rfl
theorem nwrite (p : Fin 11) : Statement (.nwrite p) := rfl
theorem ninsert (p : Fin 11) : Statement (.ninsert p) := rfl
theorem ndelete (p : Fin 11) : Statement (.ndelete p) := rfl
theorem nfind (p : Fin 11) : Statement (.nfind p) := rfl
theorem nupdl (p : Fin 11) : Statement (.nupdl p) := rfl
theorem nsync (p : Fin 11) : Statement (.nsync p) := rfl
theorem learn (p : Fin 11) : Statement (.learn p) := rfl
theorem radd (p : Fin 11) : Statement (.radd p) := rfl
theorem rdel (p : Fin 11) : Statement (.rdel p) := rfl
theorem rfind (p : Fin 11) : Statement (.rfind p) := rfl
theorem lookup (p : Fin 11) : Statement (.lookup p) := rfl
theorem dset (p : Fin 11) : Statement (.dset p) := rfl
theorem dget (p : Fin 11) : Statement (.dget p) := rfl
theorem fget (p : Fin 11) : Statement (.fget p) := rfl
theorem fclr (p : Fin 11) : Statement (.fclr p) := rfl
theorem ptHseedWrite (src : Src) (v : Word) : Statement (.ptHseedWrite src v) := rfl
theorem ptCfgWrite (src : Src) (v : Word) : Statement (.ptCfgWrite src v) := rfl
theorem ptShadowWrite (src : Src) (rcnt : Bool) (v : Word) : Statement (.ptShadowWrite src rcnt v) := rfl
theorem scrubberNodeVisit : Statement (.scrubberNodeVisit) := rfl
theorem scrubberTableVisit : Statement (.scrubberTableVisit) := rfl
theorem enq (r : YardReq) : Statement (.enq r) := by cases r <;> rfl
theorem enqm (r : YardReq) : Statement (.enqm r) := by cases r <;> rfl
theorem deq (r : YardReq) : Statement (.deq r) := by cases r <;> rfl
theorem put (r : YardReq) : Statement (.put r) := by cases r <;> rfl
theorem get (r : YardReq) : Statement (.get r) := by cases r <;> rfl
theorem qflush (r : YardReq) : Statement (.qflush r) := by cases r <;> rfl
theorem calloc (r : YardReq) : Statement (.calloc r) := by cases r <;> rfl
theorem cfree (r : YardReq) : Statement (.cfree r) := by cases r <;> rfl
theorem clink (r : YardReq) : Statement (.clink r) := by cases r <;> rfl
theorem cnext (r : YardReq) : Statement (.cnext r) := by cases r <;> rfl
theorem qctlWrite (src : Src) (q : Nat) (v : Word) : Statement (.qctlWrite src q v) := rfl
theorem cellinit (src : Src) (v : Word) : Statement (.cellinit src v) := rfl
theorem cellinitDone : Statement (.cellinitDone) := rfl
theorem ydCtlWrite (src : Src) (v : Word) : Statement (.ydCtlWrite src v) := rfl
theorem refillTick : Statement (.refillTick) := rfl
theorem shaperWrite (src : Src) (r : Fin 4) (v : Word) : Statement (.shaperWrite src r v) := rfl
theorem glCommit (src : Src) (e : Fin 18) : Statement (.glCommit src e) := rfl
theorem glCancel (src : Src) (e : Fin 18) : Statement (.glCancel src e) := rfl
theorem glDataAccess (src : Src) (e : Fin 18) (v : Option Word) : Statement (.glDataAccess src e v) := rfl
theorem gateListTakeOver (e : Fin 18) : Statement (.gateListTakeOver e) := rfl
theorem ydMldataAccess (src : Src) (v : Option Word) : Statement (.ydMldataAccess src v) := rfl
theorem wagonOffer (p : Band) : Statement (.wagonOffer p) := rfl
theorem wagonHistogramSample : Statement (.wagonHistogramSample) := rfl
theorem frameSend (p : Band) : Statement (.frameSend p) := rfl
theorem frameSent (p : Band) : Statement (.frameSent p) := rfl
theorem frameReceive (p : Band) (f : RxFrame) : Statement (.frameReceive p f) := rfl
theorem probeSend (p : Band) : Statement (.probeSend p) := rfl
theorem probeInterval (p : Band) : Statement (.probeInterval p) := rfl
theorem linkUp (p : Band) (speed : Fin 3) : Statement (.linkUp p speed) := rfl
theorem linkLoss (p : Band) (why : LinkFault) : Statement (.linkLoss p why) := rfl
theorem holdExpiry : Statement (.holdExpiry) := rfl
theorem swap (src : Src) : Statement (.swap src) := rfl
theorem pauseWatchdog (p : Band) (prio : Option (Fin 8)) : Statement (.pauseWatchdog p prio) := rfl
theorem flowControlRepeat (p : Band) : Statement (.flowControlRepeat p) := rfl
theorem errcntDecay (p : Band) : Statement (.errcntDecay p) := rfl
theorem bhCtlWrite (src : Src) (p : Band) (v : Word) : Statement (.bhCtlWrite src p v) := rfl
theorem bhCntLoRead (src : Src) (blk : Option Band) (i : Nat) : Statement (.bhCntLoRead src blk i) := rfl
theorem prSkewSample : Statement (.prSkewSample) := rfl
theorem wakeMatch (p : Band) (frame : List Byte) : Statement (.wakeMatch p frame) := rfl
theorem pauseExpiry (p : Band) (prio : Option (Fin 8)) : Statement (.pauseExpiry p prio) := rfl
theorem pauseIgnoreEnd (p : Band) (prio : Option (Fin 8)) : Statement (.pauseIgnoreEnd p prio) := rfl
theorem pcsCodeError (p : Band) : Statement (.pcsCodeError p) := rfl
theorem load (w : Fin 9) : Statement (.load w) := rfl
theorem blobLoaded (slot : Nat) : Statement (.blobLoaded slot) := rfl
theorem evict (w : Fin 9) : Statement (.evict w) := rfl
theorem writeBackDone : Statement (.writeBackDone) := rfl
theorem rewrap (w : Fin 9) : Statement (.rewrap w) := rfl
theorem revoke (w : Fin 9) : Statement (.revoke w) := rfl
theorem tombstoneWritten (slot : Nat) : Statement (.tombstoneWritten slot) := rfl
theorem genkey (w : Fin 9) : Statement (.genkey w) := rfl
theorem kdf (w : Fin 9) : Statement (.kdf w) := rfl
theorem exportKey (w : Fin 9) : Statement (.exportKey w) := rfl
theorem importKey (w : Fin 9) : Statement (.importKey w) := rfl
theorem hmac (w : Fin 9) : Statement (.hmac w) := rfl
theorem hash (w : Fin 9) : Statement (.hash w) := rfl
theorem gcmseal (w : Fin 9) : Statement (.gcmseal w) := rfl
theorem gcmopen (w : Fin 9) : Statement (.gcmopen w) := rfl
theorem sign (w : Fin 9) : Statement (.sign w) := rfl
theorem signingTimeout (w : Fin 9) : Statement (.signingTimeout w) := rfl
theorem verify (w : Fin 9) : Statement (.verify w) := rfl
theorem random (w : Fin 9) : Statement (.random w) := rfl
theorem challenge (w : Fin 9) : Statement (.challenge w) := rfl
theorem attest (w : Fin 9) : Statement (.attest w) := rfl
theorem attpub (w : Fin 9) : Statement (.attpub w) := rfl
theorem extend (w : Fin 9) : Statement (.extend w) := rfl
theorem measure (w : Fin 9) : Statement (.measure w) := rfl
theorem lcadv (w : Fin 9) : Statement (.lcadv w) := rfl
theorem selftest (w : Fin 9) (pass : Bool) : Statement (.selftest w pass) := rfl
theorem ccm (w : Fin 9) : Statement (.ccm w) := rfl
theorem receiveSecurityJob : Statement (.receiveSecurityJob) := rfl
theorem remask (slot : Nat) : Statement (.remask slot) := rfl
theorem rootReconstruction (ok : Bool) : Statement (.rootReconstruction ok) := rfl
theorem startupTestDone (pass : Bool) : Statement (.startupTestDone pass) := rfl
theorem healthFailure (osc : Fin 4) : Statement (.healthFailure osc) := rfl
theorem failcntClear : Statement (.failcntClear) := rfl
theorem reseed : Statement (.reseed) := rfl
theorem openSession (p : Fin 2) : Statement (.openSession p) := rfl
theorem wrblk (p : Fin 2) (readBackOk : Bool) : Statement (.wrblk p readBackOk) := rfl
theorem abort (p : Fin 2) : Statement (.abort p) := rfl
theorem arm (p : Fin 2) : Statement (.arm p) := rfl
theorem disarm (p : Fin 2) : Statement (.disarm p) := rfl
theorem confirm (p : Fin 2) : Statement (.confirm p) := rfl
theorem rollback (p : Fin 2) : Statement (.rollback p) := rfl
theorem clrreg (p : Fin 2) : Statement (.clrreg p) := rfl
theorem upRdataRead (src : Src) : Statement (.upRdataRead src) := rfl
theorem confirmWindowWarning : Statement (.confirmWindowWarning) := rfl
theorem confirmTimeout : Statement (.confirmTimeout) := rfl
theorem bar0Write (addr : Word) (dws : List (Word × Bool)) : Statement (.bar0Write addr dws) := rfl
theorem bar0Read (addr : Word) (n : Nat) : Statement (.bar0Read addr n) := rfl
theorem doorbell (d : BitVec 10) (v : Word) : Statement (.doorbell d v) := rfl
theorem msixMessage (vec : Fin 64) : Statement (.msixMessage vec) := rfl
theorem perstN : Statement (.perstN) := rfl
theorem pcieLinkChange (link : Option (Fin 4 × Fin 4)) : Statement (.pcieLinkChange link) := rfl
theorem pcieConfigWrite (c : PcieCfg) : Statement (.pcieConfigWrite c) := rfl
theorem msixTableWrite (vec : Fin 64) (e : MsixEntry) : Statement (.msixTableWrite vec e) := rfl
theorem vbusChange (high : Bool) : Statement (.vbusChange high) := rfl
theorem usbBusReset (hs : Bool) : Statement (.usbBusReset hs) := rfl
theorem info (wLength : Nat) : Statement (.info wLength) := rfl
theorem commissioningGet (item wLength : BitVec 16) : Statement (.commissioningGet item wLength) := rfl
theorem commissioningSet (id item : BitVec 16) (data : List Byte) : Statement (.commissioningSet id item data) := rfl
theorem query (id : BitVec 16) : Statement (.query id) := rfl
theorem hcUsbans (src : Src) (v : Word) : Statement (.hcUsbans src v) := rfl
theorem commissioningAnswerTimeout : Statement (.commissioningAnswerTimeout) := rfl
theorem bulkOutArm (src : Src) (v : Word) : Statement (.bulkOutArm src v) := rfl
theorem bulkOutPacket (data : List Byte) : Statement (.bulkOutPacket data) := rfl
theorem bulkInGo (src : Src) (v : Word) : Statement (.bulkInGo src v) := rfl
theorem bulkInEnd : Statement (.bulkInEnd) := rfl
theorem usbStandardRequest : Statement (.usbStandardRequest) := rfl
theorem unsupportedVendorRequest (bRequest : Byte) (wValue wLength : BitVec 16) : Statement (.unsupportedVendorRequest bRequest wValue wLength) := rfl
theorem nfcFieldChange (present : Bool) : Statement (.nfcFieldChange present) := rfl
theorem select (data : List Byte) : Statement (.select data) := rfl
theorem readBinary (ofs len : Nat) : Statement (.readBinary ofs len) := rfl
theorem updateBinary (ofs : Nat) (data : List Byte) : Statement (.updateBinary ofs data) := rfl
theorem unknownApdu (ins : Byte) : Statement (.unknownApdu ins) := rfl
theorem hcNfcwinRead (src : Src) (k : Nat) : Statement (.hcNfcwinRead src k) := rfl
theorem hcNfccmt (src : Src) (v : Word) : Statement (.hcNfccmt src v) := rfl
theorem stagingCommitApplied : Statement (.stagingCommitApplied) := rfl
theorem gpioChange (pins : BitVec 32) : Statement (.gpioChange pins) := rfl
theorem spiGo (src : Src) (c : Fin 2) (v : Word) : Statement (.spiGo src c v) := rfl
theorem spiTransferEnd (c : Fin 2) (data : List Byte) : Statement (.spiTransferEnd c data) := rfl
theorem i2cGo (src : Src) (c : Fin 2) (v : Word) : Statement (.i2cGo src c v) := rfl
theorem i2cTransactionEnd (c : Fin 2) (res : I2cResult) (data : List Byte) : Statement (.i2cTransactionEnd c res data) := rfl
theorem uartDataWrite (src : Src) (u : Fin 2) (v : Word) : Statement (.uartDataWrite src u v) := rfl
theorem uartDataRead (src : Src) (u : Fin 2) : Statement (.uartDataRead src u) := rfl
theorem uartReceive (u : Fin 2) : Statement (.uartReceive u) := rfl
theorem uartOctetArrival (u : Fin 2) (v : Byte) : Statement (.uartOctetArrival u v) := rfl
theorem uartOctetSent (u : Fin 2) : Statement (.uartOctetSent u) := rfl
theorem chal (src : Src) : Statement (.chal src) := rfl
theorem submit (src : Src) : Statement (.submit src) := rfl
theorem relock (src : Src) : Statement (.relock src) := rfl
theorem challengeExpiry : Statement (.challengeExpiry) := rfl
theorem tapInstruction (i : TapInstr) : Statement (.tapInstruction i) := rfl
theorem dbgacc (op : DbgOp) : Statement (.dbgacc op) := rfl
theorem modeRequest (src : Src) (target : Fin 8) : Statement (.modeRequest src target) := rfl
theorem modeChangeDone : Statement (.modeChangeDone) := rfl
theorem dormantRequest (src : Src) : Statement (.dormantRequest src) := rfl
theorem dormantEntryComplete : Statement (.dormantEntryComplete) := rfl
theorem keepaliveRequest (src : Src) : Statement (.keepaliveRequest src) := rfl
theorem wake (w : WakeSrc) : Statement (.wake w) := rfl
theorem keepaliveWake (pin : Bool) : Statement (.keepaliveWake pin) := rfl
theorem domainRequest (src : Src) : Statement (.domainRequest src) := rfl
theorem domainChangeDone : Statement (.domainChangeDone) := rfl
theorem resetPinFall : Statement (.resetPinFall) := rfl
theorem resetPinRise (holdMs : Nat) : Statement (.resetPinRise holdMs) := rfl
theorem resetRelease : Statement (.resetRelease) := rfl
theorem pwSwrst (src : Src) (v : Word) : Statement (.pwSwrst src v) := rfl
theorem brownout : Statement (.brownout) := rfl
theorem supplyGood : Statement (.supplyGood) := rfl
theorem mainSuppliesGood : Statement (.mainSuppliesGood) := rfl
theorem supplyFailure : Statement (.supplyFailure) := rfl
theorem vbatSwitchOver : Statement (.vbatSwitchOver) := rfl
theorem vddIoReturn : Statement (.vddIoReturn) := rfl
theorem vbatRise : Statement (.vbatRise) := rfl
theorem vbatFall : Statement (.vbatFall) := rfl
theorem vbatLow : Statement (.vbatLow) := rfl
theorem pfailNFall : Statement (.pfailNFall) := rfl
theorem pfailNRise : Statement (.pfailNRise) := rfl
theorem pwSscWrite (src : Src) (v : Word) : Statement (.pwSscWrite src v) := rfl
theorem rtcLoad (src : Src) : Statement (.rtcLoad src) := rfl
theorem rtcSync (src : Src) : Statement (.rtcSync src) := rfl
theorem rtcCommandApply : Statement (.rtcCommandApply) := rfl
theorem rtcAlarm : Statement (.rtcAlarm) := rfl
theorem oscillatorStop : Statement (.oscillatorStop) := rfl
theorem oscillatorRestart : Statement (.oscillatorRestart) := rfl
theorem temperatureSample (sensor : Fin 12) (t : BitVec 10) : Statement (.temperatureSample sensor t) := rfl
theorem highestTemperatureRecord : Statement (.highestTemperatureRecord) := rfl
theorem ageingMeasurement (counts : List (Nat × Nat)) : Statement (.ageingMeasurement counts) := rfl
theorem prediction : Statement (.prediction) := rfl
theorem hmPredcmd (src : Src) : Statement (.hmPredcmd src) := rfl
theorem predictionDone : Statement (.predictionDone) := rfl
theorem occurrenceUpdate (code : Byte) : Statement (.occurrenceUpdate code) := rfl
theorem hmRec (src : Src) (v : Word) : Statement (.hmRec src v) := rfl
theorem hmCurWrite (src : Src) (n : Fin 2) (v : Word) : Statement (.hmCurWrite src n v) := rfl
theorem hmWindowAdvance (src : Src) (n : Fin 2) : Statement (.hmWindowAdvance src n) := rfl
theorem hmEdgedataWrite (src : Src) (v : Word) : Statement (.hmEdgedataWrite src v) := rfl
theorem hmCfgWrite (src : Src) (v : Word) : Statement (.hmCfgWrite src v) := rfl
theorem hmSnap (src : Src) (v : Word) : Statement (.hmSnap src v) := rfl
theorem periodicSnapshot : Statement (.periodicSnapshot) := rfl
theorem snapshotDone : Statement (.snapshotDone) := rfl

end Sys2Proof.Laws.Encoded
end

