-- ==== Sys2Proof/Tests/Slice0.lean ====
section
/-! SUPPORT. Tests: ill-formed commands, instruction words written out from Tables 17-1 to 17-5, single commands on small
states, and for each statement a state and operands that meet the hypotheses of its clauses. -/

namespace Sys2Proof.Tests

open Sys2Proof Sys2Proof.Machine

/-! ### Ill-formed commands -/

/-- R693: an odd register where a pair stands. -/
theorem test_wf_pairs :
    ([.mulu 0 1 2 3, .muls 0 1 2 3, .macu 0 1 2 3, .macs 0 1 2 3, .divu 0 1 2 3, .divu 0 2 1 3, .addp 0 1 2 4, .addp 0 2 1 4,
      .addp 0 2 4 1, .subp 0 2 4 1, .shlp 0 1 2 3, .shrp 0 2 1 3, .sarp 0 1 2 3, .movp 0 2 1, .sxp 0 1 2, .cmpp 0 2 1,
      .ldp 0 1 2 0, .stp 0 1 2 0, .tcap 0 1, .waitt 0 1, .crc32 0 1 2 3, .crc32c 0 2 1 3, .crc32b 0 1 2 3,
      .crc32cb 0 2 1 3] : List Instr).all (fun c => !c.wf) = true := by decide +kernel

/-- R705, R710, R714, R717: immediate fields out of range. -/
theorem test_wf_fields :
    ([.shli 0 1 2 24, .shri 0 1 2 31, .sari 0 1 2 24, .roli 0 1 2 24, .rori 0 1 2 24, .extu 0 1 2 20 4, .exts 0 1 2 0 24,
      .ins 0 1 2 24 0, .jl 0 1 0x20000, .signal 0 1 5, .signal 0 0 129] : List Instr).all (fun c => !c.wf) = true := by
  decide +kernel

/-- R723, R724: the fields of a yard request that must be 0. -/
theorem test_wf_yard :
    ([.enq (.shunter 0 1 2 3), .deq (.shunter 0 1 2 3), .clink (.shunter 0 1 2 3), .cfree (.shunter 0 1 2 0),
      .cfree (.shunter 0 0 2 1), .qflush (.shunter 0 1 2 1), .cnext (.shunter 0 1 2 0), .cnext (.shunter 0 2 2 1)] :
        List Instr).all (fun c => !c.wf) = true := by decide +kernel

/-- An address or a number that the block does not have. -/
theorem test_wf_range :
    ([.qctlWrite .host 147456 0, .blobLoaded 16384, .tombstoneWritten 16384, .remask 16384] : List Instr).all
      (fun c => !c.wf) = true := by decide +kernel

/-! ### Instruction words, from Tables 17-1 to 17-5 -/

theorem test_word_addi : Nimvor.decode 9 0x04840C 0 = .addi 9 4 4 12 := by decide +kernel
theorem test_word_mulu : Nimvor.decode 9 0x28C440 0 = .mulu 9 6 4 8 := by decide +kernel
theorem test_word_shrp : Nimvor.decode 9 0x2CC64B 0 = .shrp 9 6 6 9 := by decide +kernel
theorem test_word_subp : Nimvor.decode 9 0x2C4231 0 = .subp 9 2 2 6 := by decide +kernel
theorem test_word_extu : Nimvor.decode 9 0x308100 0x000160 = .extu 9 4 1 0 11 := by decide +kernel
theorem test_word_waitev : Nimvor.decode 9 0x802000 0 = .waitev 9 1 0 := by decide +kernel
theorem test_word_tcap : Nimvor.decode 9 0x884000 0 = .tcap 9 2 := by decide +kernel

/-- R728: the check value of CRC-32 over the nine digits. -/
theorem test_crc32 : crc32Of (ascii "123456789") = 0xCBF43926 := by decide +kernel

/-! ### States -/

/-- Every domain on, a link to the host, and write and read profiles for the host and shunter 9. -/
def base : State :=
  let s := { State.reset with
    pw := { State.reset.pw with don := BitVec.allOnes 32 }
    hc := { State.reset.hc with link := some (0, 0), memEn := true }
    now := 10000000000000 }
  (((s.setReg (aDP 1 0x4C) 0x1FFFF).setReg (aDP 1 0x4D) 0x1FFFF).setReg (aHC 2) 0x1FFFF).setReg (aHC 3) 0x1FFFF

/-- Shunter 9 runs with registers `g`. -/
def nine (g : SMap Word) : State := base.setShunter 9 { run := .running, g := g }

/-- A domain turned off. -/
def offD (s : State) (d : Nat) : State := s.modPw (fun p => { p with don := p.don &&& ~~~(1#32 <<< d) })

def inMode (s : State) (m : Mode) : State := s.modPw (fun p => { p with mode := m })
def inLife (s : State) (l : Fin 6) : State := s.modKv (fun k => { k with life := l })

end Sys2Proof.Tests
end

section
/-! SUPPORT. An instruction of a shunter that sends a request: the state it acts in, what it leaves of the rest of the
block, and how it ends (R66, R694, R700). -/

namespace Sys2Proof.Machine

variable {sh : Sh} {s u t : State}

/-! ### Changes of one shunter, and changes of everything but the shunters -/

theorem OnlyShunter.refl (sh : Sh) (u : State) : OnlyShunter sh u u := ⟨fun _ _ => rfl, rfl⟩

theorem OnlyShunter.setShunter (h : OnlyShunter sh u t) (x : Shunter) : OnlyShunter sh u (t.setShunter sh x) := by
  obtain ⟨hother, hrest⟩ := h
  refine ⟨fun j hj => ?_, ?_⟩
  · rw [State.shunter_setShunter_other t x (Ne.symm hj), hother j hj]
  · rw [hrest]; rfl

theorem OnlyShunter.modShunter (h : OnlyShunter sh u t) (f : Shunter → Shunter) : OnlyShunter sh u (t.modShunter sh f) :=
  h.setShunter _

theorem OnlyShunter.finish (h : OnlyShunter sh u t) (st : Status) : OnlyShunter sh u (t.finish sh st) := h.modShunter _

/-- `F` neither reads nor writes a shunter. -/
def IgnoresShunters (F : State → State) : Prop := ∀ u l, F { u with shunters := l } = { F u with shunters := l }

theorem IgnoresShunters.shunters_eq {F : State → State} (hF : IgnoresShunters F) (u : State) :
    (F u).shunters = u.shunters := by
  have h : F u = { F u with shunters := u.shunters } := hF u u.shunters
  rw [h]

theorem IgnoresShunters.shunter_eq {F : State → State} (hF : IgnoresShunters F) (u : State) (j : Sh) :
    (F u).shunter j = u.shunter j := by
  simp only [State.shunter, hF.shunters_eq]

theorem OnlyShunter.map {F : State → State} (hF : IgnoresShunters F) (h : OnlyShunter sh u t) :
    OnlyShunter sh (F u) (F t) := by
  obtain ⟨hother, hrest⟩ := h
  refine ⟨fun j hj => by rw [hF.shunter_eq, hF.shunter_eq, hother j hj], ?_⟩
  rw [hF.shunters_eq, ← hF, ← hrest]

/-! ### The program counter at the end of an instruction -/

/-- An instruction ends: the program counter moves on, and the entry of the shunter's own GO is used up (R131). -/
theorem Shunter.advance_eq (x : Shunter) (len : Nat) : x.advance len = { x with pc := x.following len, jump := none } := by
  unfold Shunter.advance Shunter.following
  cases hj : x.jump with
  | none => simp only [← hj]
  | some e => rfl

/-- A wait that is no parked waitev ends: the watchdog count is left alone. -/
theorem Shunter.resume_eq {x : Shunter} (h : x.wait.isParked = false) (now : Nat) :
    x.resume now = { x with pc := x.following 1, jump := none, wait := .none } := by
  simp only [Shunter.resume, h, Bool.false_eq_true, if_false, Shunter.advance_eq]

/-! ### A request under way -/

/-- The shunter while its request acts. -/
def Shunter.underWay (x : Shunter) : Shunter := { x with stepping := false, busy := false }

/-- In `t` the request of shunter `sh` acts; but for that `t` is `u`. -/
def UnderWay (sh : Sh) (u t : State) : Prop := OnlyShunter sh u t ∧ t.shunter sh = (u.shunter sh).underWay

theorem State.shunter_issued (s : State) (sh : Sh) (uses : List Reg) :
    (s.issued sh uses).shunter sh = ((s.settle sh uses).shunter sh).underWay := by
  simp only [State.issued, State.shunter_modShunter_same, Shunter.underWay]

theorem underWay_issued (s : State) (sh : Sh) (uses : List Reg) : UnderWay sh (s.settle sh uses) (s.issued sh uses) :=
  ⟨((OnlyShunter.refl sh _).modShunter _).modShunter _, s.shunter_issued sh uses⟩

theorem UnderWay.map {F : State → State} (hF : IgnoresShunters F) (h : UnderWay sh u t) : UnderWay sh (F u) (F t) :=
  ⟨h.1.map hF, by rw [hF.shunter_eq, hF.shunter_eq, h.2]⟩

@[simp] theorem State.on_issued (s : State) (sh : Sh) (uses : List Reg) (d : Nat) :
    (s.issued sh uses).on d = (s.settle sh uses).on d := rfl
@[simp] theorem State.tcap_issued (s : State) (sh : Sh) (uses : List Reg) :
    (s.issued sh uses).tcap = (s.settle sh uses).tcap := rfl
@[simp] theorem State.now_issued (s : State) (sh : Sh) (uses : List Reg) :
    (s.issued sh uses).now = (s.settle sh uses).now := rfl
@[simp] theorem State.token_issued (s : State) (sh : Sh) (uses : List Reg) (k : Nat) :
    (s.issued sh uses).token k = (s.settle sh uses).token k := rfl

/-- An instruction that uses no register waits for no load. -/
@[simp] theorem State.settle_nil (s : State) (sh : Sh) : s.settle sh [] = s := by
  have hnone : (s.shunter sh).loads.filter (fun e => ([] : List Reg).contains e.dest) = [] :=
    List.filter_eq_nil_iff.mpr (fun _ _ => Bool.false_ne_true)
  rw [State.settle, hnone, State.arriveList]

/-- A request that drains nothing acts in the state `issued`. -/
theorem State.request_of_canIssue (hi : (s.shunter sh).canIssue = true) (uses : List Reg) (run : State → State) :
    s.request sh uses false run = .next (run (s.issued sh uses)) := by
  simp [State.request, hi, State.issued]

/-! ### The end of a request -/

/-- The outcome and the step to the next instruction, after a request that changed only the registers `ds`. -/
theorem requested_outcome {x y : Shunter} {ds : List Reg} (hr : ∀ r, r ∉ ds → y.r r = x.r r)
    (hy : y = { x.underWay with g := y.g }) (st : Status) : Requested st ds x ((y.outcome st).advance 1) := by
  rw [Shunter.advance_eq]
  refine ⟨hr, ?_⟩
  rw [hy]
  rfl

theorem requested_finish {x : Shunter} (h : t.shunter sh = x.underWay) (st : Status) :
    Requested st [] x ((t.finish sh st).shunter sh) := by
  rw [State.finish, State.shunter_modShunter_same, h]
  exact requested_outcome (fun _ _ => rfl) rfl st

theorem Requested.held_eq {st : Status} {ds : List Reg} {x y : Shunter} (h : Requested st ds x y) : y.held = x.held := by
  rw [h.2]

/-- A command that only completes its request with `st`. -/
theorem UnderWay.ends {c : Instr} {st : Status} {P : Shunter → Prop} (h : UnderWay sh u t)
    (hc : (s.shunter sh).canIssue = true → exec c s = .next (t.finish sh st))
    (hP : ∀ y, Requested st [] (u.shunter sh) y → P y) : Ends c s sh u st [] P := by
  intro hi
  have hreq := requested_finish h.2 st
  exact ⟨_, hc hi, h.1.finish st, hreq, hP _ hreq⟩

end Sys2Proof.Machine
end

section
/-! SUPPORT. Register pairs (R62, R63): what a pair reads after a write, and what the write leaves. -/

namespace Sys2Proof.Machine

theorem isPair_iff (r : Reg) : isPair r = true ↔ r.val % 2 = 0 := by simp [isPair]

theorem isPair_of_odd {r : Reg} (h : r.val % 2 = 1) : isPair r = false := by simp [isPair, h]

/-- The second register of a pair is another one, and not g0. -/
theorem succ_ne_of_even : ∀ {d : Reg}, d.val % 2 = 0 → d + 1 ≠ d ∧ d + 1 ≠ 0 := by decide

@[simp] theorem long_hiWord_loWord (v : Long) : long (hiWord v) (loWord v) = v := by
  unfold long hiWord loWord
  ext i hi
  simp only [BitVec.getElem_append, BitVec.getElem_extractLsb']
  split
  · simp [BitVec.getLsbD_eq_getElem hi]
  · rw [show 24 + (i - 24) = i by omega, BitVec.getLsbD_eq_getElem hi]

theorem Shunter.setR_eq (x : Shunter) (d : Reg) (v : Word) : x.setR d v = { x with g := (x.setR d v).g } := by
  unfold Shunter.setR
  split <;> rfl

/-- A write of a pair changes registers alone. -/
theorem Shunter.setPair_eq (x : Shunter) (d : Reg) (v : Long) : x.setPair d v = { x with g := (x.setPair d v).g } := by
  unfold Shunter.setPair
  split
  · exact x.setR_eq 1 _
  · rw [Shunter.setR_eq (x.setR d (hiWord v)), x.setR_eq d]

theorem Shunter.r_setPair_other (x : Shunter) {d r : Reg} (v : Long) (hr : r ∉ both d) : (x.setPair d v).r r = x.r r := by
  simp only [both, List.mem_cons, List.not_mem_nil, or_false, not_or] at hr
  obtain ⟨h0, h1⟩ := hr
  unfold Shunter.setPair
  split
  case isTrue hd =>
    subst hd
    rw [Shunter.r_setR, if_neg (fun e => h1 (by rw [← e.1]; rfl))]
  case isFalse =>
    rw [Shunter.r_setR, if_neg (fun e => h1 e.1.symm), Shunter.r_setR, if_neg (fun e => h0 e.1.symm)]

theorem getsPair_setPair (x : Shunter) {d : Reg} (hd : d.val % 2 = 0) (v : Long) : GetsPair (x.setPair d v) d v := by
  obtain ⟨hne, hne0⟩ := succ_ne_of_even hd
  unfold GetsPair Shunter.pair Shunter.setPair
  split
  · rw [Shunter.r_setR, if_pos ⟨rfl, by decide⟩]
  case isFalse h0 =>
    rw [Shunter.r_setR, if_neg (fun e => hne e.1), Shunter.r_setR, if_pos ⟨rfl, h0⟩, Shunter.r_setR,
      if_pos ⟨rfl, hne0⟩, long_hiWord_loWord]

end Sys2Proof.Machine
end

section
/-! The signals of the shunters (R105, R106, R717). -/

namespace Sys2Proof.Machine

variable {sh : Sh} {s : State} {a : Reg} {imm : BitVec 8}

/-- The event that signal names: from ga[9:0], or 896 + imm8[6:0] (R717). -/
def signalEvent (x : Shunter) (a : Reg) (imm : BitVec 8) : Nat :=
  if imm.getLsbD 7 then fld (x.r a) 9 0 else 896 + imm.toNat

/-- A signal of event `n` waits for every depot, behind the stores that shunter `sh` has issued (R106). -/
def State.queueSignal (s : State) (sh : Sh) (n : Nat) : State :=
  s.modDp (fun q => { q with
    signals := q.signals ++ [⟨sh, Fin.ofNat 1024 n, (s.shunter sh).seq, [0, 1, 2, 3, 4, 5, 6, 7]⟩] })

theorem exec_signal (sh : Sh) (a : Reg) (imm : BitVec 8) (s : State) :
    exec (.signal sh a imm) s = execSignal sh a imm s := rfl

theorem exec_signalDelivery (sh : Sh) (d : Depot) (s : State) :
    exec (.signalDelivery sh d) s = execSignalDelivery sh d s := rfl

theorem signal_faults (h : (imm.getLsbD 7 = true ∧ imm ≠ 128) ∨ (imm.getLsbD 7 = false ∧ a ≠ 0)) :
    Faults (.signal sh a imm) s sh := by
  intro hi
  have himm : imm ≠ 128 → imm.toNat ≠ 128 := fun hne e => hne (BitVec.eq_of_toNat_eq e)
  have hill : ((imm.getLsbD 7 && decide (imm.toNat ≠ 128)) || (!imm.getLsbD 7 && decide (a ≠ 0))) = true := by
    rcases h with ⟨h7, hne⟩ | ⟨h7, hne⟩
    · rw [h7]; simp [himm hne]
    · rw [h7]; simp [hne]
  rw [Completes, exec_signal, execSignal]
  simp only [hi, hill, Bool.not_true, Bool.false_eq_true, if_false, if_true, State.illegal]

/-- A well-formed signal acts once the load into ga has arrived. -/
theorem exec_signal_of_wf (hi : (s.shunter sh).canIssue = true) (h : imm = 128 ∨ (imm.getLsbD 7 = false ∧ a = 0)) :
    exec (.signal sh a imm) s = .next (
      if signalEvent ((s.settle sh [a]).shunter sh) a imm < 896 then (s.issued sh [a]).finish sh .badarg
      else ((s.issued sh [a]).queueSignal sh (signalEvent ((s.settle sh [a]).shunter sh) a imm)).finish sh .ok) := by
  have hwf : ((imm.getLsbD 7 && decide (imm.toNat ≠ 128)) || (!imm.getLsbD 7 && decide (a ≠ 0))) = false := by
    rcases h with rfl | ⟨h7, rfl⟩
    · simp
    · rw [h7]; simp
  rw [exec_signal, execSignal]
  simp only [hi, hwf, Bool.not_true, Bool.false_eq_true, if_false]
  rw [State.request_of_canIssue hi, State.queueSignal, State.shunter_issued]
  rfl

theorem signal_ends_ok (h : imm = 128 ∨ (imm.getLsbD 7 = false ∧ a = 0))
    (hn : 896 ≤ signalEvent ((s.settle sh [a]).shunter sh) a imm) :
    Ends (.signal sh a imm) s sh
      ((s.settle sh [a]).queueSignal sh (signalEvent ((s.settle sh [a]).shunter sh) a imm)) .ok [] (fun _ => True) := by
  refine UnderWay.ends (t := (s.issued sh [a]).queueSignal sh (signalEvent ((s.settle sh [a]).shunter sh) a imm)) ?_
    (fun hi => by rw [exec_signal_of_wf hi h, if_neg (Nat.not_lt.mpr hn)]) (fun _ _ => trivial)
  simp only [State.queueSignal, State.shunter_issued]
  exact (underWay_issued s sh [a]).map (F := fun v => v.modDp _) (fun _ _ => rfl)

theorem signal_ends_badarg (h : imm = 128 ∨ (imm.getLsbD 7 = false ∧ a = 0))
    (hn : signalEvent ((s.settle sh [a]).shunter sh) a imm < 896) :
    Ends (.signal sh a imm) s sh (s.settle sh [a]) .badarg [] (fun _ => True) :=
  (underWay_issued s sh [a]).ends (fun hi => by rw [exec_signal_of_wf hi h, if_pos hn]) (fun _ _ => trivial)

/-- With both store buffers empty no earlier store is left (R101, R106). -/
theorem Shunter.olderStores_of_empty {x : Shunter} (hm : x.mainBuf = []) (hs : x.scrBuf = []) (q : Nat) :
    x.olderStores q = false := by
  simp [Shunter.olderStores, hm, hs]

/-- A depot whose route entry is off takes nothing. -/
theorem State.arriveAt_of_routeOff {d : Depot} {e : Fin 1024} (h : (s.route d.val e.val).1.getLsbD 23 = false) :
    s.arriveAt d e = s := by
  have hoff : routeOn (s.route d.val e.val).1 = false := by rw [routeOn, bit, h, Bool.false_and]
  simp only [State.arriveAt, hoff, Bool.false_and, Bool.not_false, if_true]

/-- The only signal, delivered to the last depot it waits for, leaves the list. -/
theorem signalDelivery_last {g : SignalEntry} {d : Depot} (hg : s.dp.signals = [g]) (hsrc : g.src = sh)
    (htodo : g.todo = [d]) (hm : (s.shunter sh).mainBuf = []) (hs : (s.shunter sh).scrBuf = [])
    (hoff : (s.route d.val g.event.val).1.getLsbD 23 = false) :
    Completes (.signalDelivery sh d) s { s with dp := { s.dp with signals := [] } } := by
  have hfind : s.dp.signals.find? (fun g => decide (g.src = sh) && g.todo.contains d) = some g := by
    simp [hg, hsrc, htodo]
  rw [Completes, exec_signalDelivery, execSignalDelivery, hfind]
  simp only [Shunter.olderStores_of_empty hm hs, Bool.false_eq_true, if_false]
  simp only [hg, htodo, List.map_cons, List.map_nil, if_true, List.filter_cons, bne_self_eq_false, Bool.false_eq_true,
    if_false, List.filter_nil, List.isEmpty_nil, Bool.not_true, List.length_cons, List.length_nil]
  rw [if_neg (by decide), State.arriveAt_of_routeOff]
  exact hoff

/-- Settles O13: a signal acts in the settled state (R66), and its delivery to a depot whose entry is off only shortens
the list. -/
theorem signalResults : Obligations.SignalResults := fun _ _ _ _ =>
  ⟨signal_faults, fun h => ⟨signal_ends_ok h, signal_ends_badarg h⟩,
    fun _ _ hg hsrc htodo hm hs hoff => signalDelivery_last hg hsrc htodo hm hs hoff⟩

end Sys2Proof.Machine
end

section
/-! The captured time and the wait for a time (R93, R718, R719). -/

namespace Sys2Proof.Machine

variable {sh : Sh} {s : State} {d a : Reg}

theorem exec_tcap (sh : Sh) (d : Reg) (s : State) : exec (.tcap sh d) s = execTcap sh d s := rfl
theorem exec_waitt (sh : Sh) (a : Reg) (s : State) : exec (.waitt sh a) s = execWaitt sh a s := rfl
theorem exec_waittTarget (sh : Sh) (s : State) : exec (.waittTarget sh) s = execWaittTarget sh s := rfl

theorem tcap_faults (hd : d.val % 2 = 1) : Faults (.tcap sh d) s sh := by
  intro hi
  rw [Completes, exec_tcap, execTcap]
  simp [hi, isPair_of_odd hd, State.illegal]

theorem waitt_faults (ha : a.val % 2 = 1) : Faults (.waitt sh a) s sh := by
  intro hi
  rw [Completes, exec_waitt, execWaitt]
  simp [hi, isPair_of_odd ha, State.illegal]

/-- tcap with the SC domain as it is: `v` is what the pair takes, `st` the status. -/
theorem tcap_ends (hd : d.val % 2 = 0) {st : Status} {v : Long}
    (hv : (if (s.settle sh (both d)).on dSC then (s.settle sh (both d)).tcap else 0) = v)
    (hst : (if (s.settle sh (both d)).on dSC then Status.ok else Status.state) = st) :
    Ends (.tcap sh d) s sh (s.settle sh (both d)) st (both d) (fun y => GetsPair y d v) := by
  intro hi
  have hexec : exec (.tcap sh d) s = .next ((s.issued sh (both d)).modShunter sh
      (fun x => ((x.setPair d v).outcome st).advance 1)) := by
    rw [exec_tcap, execTcap]
    simp only [hi, (isPair_iff d).mpr hd, Bool.not_true, Bool.false_eq_true, if_false]
    rw [State.request_of_canIssue hi]
    rw [← hv, ← hst]
    rfl
  refine ⟨_, hexec, (underWay_issued s sh (both d)).1.modShunter _, ?_⟩
  rw [State.shunter_modShunter_same, State.shunter_issued]
  refine ⟨requested_outcome (fun r hr => Shunter.r_setPair_other _ v hr) (Shunter.setPair_eq _ d v) st, ?_⟩
  rw [Shunter.advance_eq]
  exact getsPair_setPair _ hd v

/-- waitt of a pair acts once the loads into the pair have arrived. -/
theorem exec_waitt_of_pair (hi : (s.shunter sh).canIssue = true) (ha : a.val % 2 = 0) :
    exec (.waitt sh a) s = .next (
      let v := s.settle sh (both a)
      let w := (v.shunter sh).pair a
      let u := s.issued sh (both a)
      if v.on dSC = false then u.finish sh .state
      else if after w v.tcap = false then u.finish sh .late
      else if 2 ^ 32 < (w - v.tcap).toNat then u.finish sh .badarg
      else u.setShunter sh { (v.shunter sh).underWay with wait := .time w }) := by
  rw [exec_waitt, execWaitt]
  simp only [hi, (isPair_iff a).mpr ha, Bool.not_true, Bool.false_eq_true, if_false]
  rw [State.request_of_canIssue hi, State.shunter_issued]
  simp only [State.on_issued, State.tcap_issued, Bool.not_eq_true']
  rfl

theorem waitt_ends_state (ha : a.val % 2 = 0) (hon : (s.settle sh (both a)).on dSC = false) :
    Ends (.waitt sh a) s sh (s.settle sh (both a)) .state [] (fun _ => True) :=
  (underWay_issued s sh (both a)).ends (fun hi => by rw [exec_waitt_of_pair hi ha]; simp only [hon, if_true])
    (fun _ _ => trivial)

section
variable (ha : a.val % 2 = 0) (hon : (s.settle sh (both a)).on dSC = true)
include ha hon

theorem waitt_ends_late
    (hlate : after (((s.settle sh (both a)).shunter sh).pair a) (s.settle sh (both a)).tcap = false) :
    Ends (.waitt sh a) s sh (s.settle sh (both a)) .late [] (fun _ => True) :=
  (underWay_issued s sh (both a)).ends
    (fun hi => by rw [exec_waitt_of_pair hi ha]; simp only [hon, hlate, Bool.true_eq_false, if_false, if_true])
    (fun _ _ => trivial)

theorem waitt_ends_badarg
    (hafter : after (((s.settle sh (both a)).shunter sh).pair a) (s.settle sh (both a)).tcap = true)
    (hfar : 2 ^ 32 < (((s.settle sh (both a)).shunter sh).pair a - (s.settle sh (both a)).tcap).toNat) :
    Ends (.waitt sh a) s sh (s.settle sh (both a)) .badarg [] (fun _ => True) :=
  (underWay_issued s sh (both a)).ends
    (fun hi => by rw [exec_waitt_of_pair hi ha]; simp only [hon, hafter, hfar, Bool.true_eq_false, if_false, if_true])
    (fun _ _ => trivial)

theorem waitt_waits
    (hafter : after (((s.settle sh (both a)).shunter sh).pair a) (s.settle sh (both a)).tcap = true)
    (hnear : (((s.settle sh (both a)).shunter sh).pair a - (s.settle sh (both a)).tcap).toNat ≤ 2 ^ 32) :
    Leaves (.waitt sh a) s sh (s.settle sh (both a))
      { ((s.settle sh (both a)).shunter sh).underWay with
        wait := .time (((s.settle sh (both a)).shunter sh).pair a) } := by
  intro hi
  refine ⟨_, ?_, (underWay_issued s sh (both a)).1.setShunter _, State.shunter_setShunter_same ..⟩
  rw [Completes, exec_waitt_of_pair hi ha]
  simp only [hon, hafter, Nat.not_lt.mpr hnear, Bool.true_eq_false, if_false]

end

/-- A waitt whose target has been reached ends with OK. -/
theorem waittTarget_reached {w : Long} (hw : (s.shunter sh).wait = .time w) (hnow : after w s.tcap = false) :
    ∃ t, Completes (.waittTarget sh) s t ∧ OnlyShunter sh s t ∧ (t.shunter sh).wait = .none ∧ (t.shunter sh).rstat = 0 ∧
      (t.shunter sh).z = true ∧ (t.shunter sh).g = (s.shunter sh).g ∧ (t.shunter sh).pc = (s.shunter sh).following 1 := by
  have hexec : exec (.waittTarget sh) s = .next (s.modShunter sh (fun x => (x.outcome .ok).resume s.now)) := by
    rw [exec_waittTarget, execWaittTarget, hw]
    simp only [hnow, Bool.false_eq_true, if_false]
  have hpark : ((s.shunter sh).outcome .ok).wait.isParked = false := by
    rw [show ((s.shunter sh).outcome .ok).wait = .time w from hw]
    rfl
  refine ⟨_, hexec, (OnlyShunter.refl sh s).modShunter _, ?_⟩
  rw [State.shunter_modShunter_same, Shunter.resume_eq hpark]
  exact ⟨rfl, rfl, rfl, rfl, rfl⟩

/-- Settles O14: tcap and waitt of an even register act in the settled state (R66); an odd one is ILLEGAL (R693). -/
theorem timeResults : Obligations.TimeResults := fun _ _ _ _ =>
  ⟨fun hd => ⟨fun hon => tcap_ends hd (if_pos hon) (if_pos hon),
      fun hoff => tcap_ends hd (if_neg (ne_true_of_eq_false hoff)) (if_neg (ne_true_of_eq_false hoff))⟩,
    fun ha => ⟨waitt_ends_state ha, waitt_ends_late ha, waitt_ends_badarg ha, waitt_waits ha⟩,
    tcap_faults, waitt_faults, fun _ hw hnow => waittTarget_reached hw hnow⟩

end Sys2Proof.Machine
end

section
/-! The tokens of the shunters (R96–R98, R101, R103, R720–R722). -/

namespace Sys2Proof.Machine

variable {sh : Sh} {s : State} {k : BitVec 8}

theorem exec_tkacq (sh : Sh) (k : BitVec 8) (s : State) : exec (.tkacq sh k) s = execTkacq sh k s := rfl
theorem exec_tktry (sh : Sh) (k : BitVec 8) (s : State) : exec (.tktry sh k) s = execTktry sh k s := rfl
theorem exec_tkrel (sh : Sh) (k : BitVec 8) (s : State) : exec (.tkrel sh k) s = execTkrel sh k s := rfl
theorem exec_tokenRelease (k : BitVec 8) (s : State) : exec (.tokenRelease k) s = execTokenRelease k s := rfl
theorem exec_tokenHoldLimit (k : BitVec 8) (s : State) : exec (.tokenHoldLimit k) s = execTokenHoldLimit k s := rfl

@[simp] theorem State.token_setToken_same (s : State) (n : Nat) (q : Token) : (s.setToken n q).token n = q :=
  mapGet_mapPut_same ..
@[simp] theorem State.token_modShunter (s : State) (i : Sh) (f : Shunter → Shunter) (n : Nat) :
    (s.modShunter i f).token n = s.token n := rfl

theorem ignoresShunters_setToken (n : Nat) (q : Token) : IgnoresShunters (fun v => v.setToken n q) := fun _ _ => rfl

/-! ### The refusals (R96, R97) -/

/-- The shunter holds a token that is not below `k`. -/
theorem tokenRefusal_denied (h : ∃ t ∈ (s.shunter sh).held, k.toNat ≤ t.toNat) : s.tokenRefusal sh k = some .denied := by
  have hany : (s.shunter sh).held.any (fun t => decide (k.toNat ≤ t.toNat)) = true := by simpa using h
  simp only [State.tokenRefusal, hany, if_true]

theorem tokenRefusal_of_above (h : ∀ t ∈ (s.shunter sh).held, t.toNat < k.toNat) :
    s.tokenRefusal sh k =
      if 8 ≤ (s.shunter sh).held.length then some .full else if s.on (dDEPOT (tokenHome k)) then none else some .state := by
  have hany : (s.shunter sh).held.any (fun t => decide (k.toNat ≤ t.toNat)) = false := by simpa using h
  simp only [State.tokenRefusal, hany, Bool.false_eq_true, if_false, Bool.not_eq_true']
  cases s.on (dDEPOT (tokenHome k)) <;> rfl

theorem tokenRefusal_issued (s : State) (sh : Sh) (k : BitVec 8) :
    (s.issued sh []).tokenRefusal sh k = s.tokenRefusal sh k := by
  simp only [State.tokenRefusal, State.shunter_issued, State.settle_nil, State.on_issued, Shunter.underWay]

/-- tkacq and tktry are refused alike. -/
theorem exec_of_tokenRefusal (hi : (s.shunter sh).canIssue = true) {st : Status} (h : s.tokenRefusal sh k = some st) :
    exec (.tkacq sh k) s = .next ((s.issued sh []).refuseToken sh st) ∧
      exec (.tktry sh k) s = .next ((s.issued sh []).refuseToken sh st) := by
  rw [exec_tkacq, execTkacq, exec_tktry, execTktry, State.request_of_canIssue hi, State.request_of_canIssue hi,
    tokenRefusal_issued, h]
  exact ⟨rfl, rfl⟩

/-- The request of a token acts in the state as it is: no register is used. -/
theorem underWay_issued_nil (s : State) (sh : Sh) : UnderWay sh s (s.issued sh []) := by
  simpa only [State.settle_nil] using underWay_issued s sh []

/-- A request refused by the order of tokens is counted and recorded (R96). -/
theorem token_ends_denied (h : ∃ t ∈ (s.shunter sh).held, k.toNat ≤ t.toNat) :
    Ends (.tkacq sh k) s sh ((s.countDenied sh).occur 0x0B) .denied [] (fun y => y.held = (s.shunter sh).held) ∧
      Ends (.tktry sh k) s sh ((s.countDenied sh).occur 0x0B) .denied [] (fun y => y.held = (s.shunter sh).held) := by
  have hway : UnderWay sh ((s.countDenied sh).occur 0x0B) (((s.issued sh []).countDenied sh).occur 0x0B) :=
    (underWay_issued_nil s sh).map (F := fun v => (v.countDenied sh).occur 0x0B) (fun _ _ => rfl)
  exact ⟨hway.ends (fun hi => (exec_of_tokenRefusal hi (tokenRefusal_denied h)).1) (fun _ hy => hy.held_eq),
    hway.ends (fun hi => (exec_of_tokenRefusal hi (tokenRefusal_denied h)).2) (fun _ hy => hy.held_eq)⟩

/-- With eight tokens held a request changes nothing (R97). -/
theorem token_ends_full (h : ∀ t ∈ (s.shunter sh).held, t.toNat < k.toNat) (h8 : 8 ≤ (s.shunter sh).held.length) :
    Ends (.tkacq sh k) s sh s .full [] (fun y => y.held = (s.shunter sh).held) ∧
      Ends (.tktry sh k) s sh s .full [] (fun y => y.held = (s.shunter sh).held) := by
  have href : s.tokenRefusal sh k = some .full := by rw [tokenRefusal_of_above h, if_pos h8]
  exact ⟨(underWay_issued_nil s sh).ends (fun hi => (exec_of_tokenRefusal hi href).1) (fun _ hy => hy.held_eq),
    (underWay_issued_nil s sh).ends (fun hi => (exec_of_tokenRefusal hi href).2) (fun _ hy => hy.held_eq)⟩

/-! ### Requests that go to the home (R98, R720, R721) -/

theorem tokenRefusal_none (h : ∀ t ∈ (s.shunter sh).held, t.toNat < k.toNat) (h8 : (s.shunter sh).held.length < 8)
    (hon : s.on (dDEPOT (k.toNat / 32)) = true) : s.tokenRefusal sh k = none := by
  rw [tokenRefusal_of_above h, if_neg (Nat.not_le.mpr h8), tokenHome, if_pos hon]

/-- A token above all those held goes to the end of the list. -/
theorem insToken_of_above {l : List (BitVec 8)} (h : ∀ t ∈ l, t.toNat < k.toNat) : insToken k l = l ++ [k] := by
  induction l with
  | nil => rfl
  | cons t r ih =>
    obtain ⟨ht, hr⟩ := List.forall_mem_cons.mp h
    rw [insToken, if_neg (Nat.not_lt.mpr (Nat.le_of_lt ht)), ih hr, List.cons_append]

theorem mem_insToken (k : BitVec 8) (l : List (BitVec 8)) : k ∈ insToken k l := by
  induction l with
  | nil => exact List.mem_singleton_self k
  | cons t r ih =>
    unfold insToken
    split
    · exact List.mem_cons_self
    · exact List.mem_cons_of_mem _ ih

/-- The token record once shunter `sh` owns it, from cycle `now` on. -/
def Token.ownedBy (q : Token) (sh : Sh) (now : Nat) : Token :=
  { q with owner := some sh, last := sh, since := now, limitDone := false, relSeq := none }

theorem State.own_eq (s : State) (k : BitVec 8) (sh : Sh) :
    s.own k sh = (s.setToken k.toNat ((s.token k.toNat).ownedBy sh s.now)).modShunter sh
      (fun x => { x with held := insToken k x.held }) := rfl

section
variable (hi : (s.shunter sh).canIssue = true) (href : s.tokenRefusal sh k = none)
include hi href

/-- A free token is granted to tkacq and to tktry alike. -/
theorem exec_of_tokenFree (ho : (s.token k.toNat).owner = none) (hw : (s.token k.toNat).waiters = []) :
    exec (.tkacq sh k) s = .next (((s.issued sh []).own k sh).finish sh .ok) ∧
      exec (.tktry sh k) s = .next (((s.issued sh []).own k sh).finish sh .ok) := by
  rw [exec_tkacq, execTkacq, exec_tktry, execTktry, State.request_of_canIssue hi, State.request_of_canIssue hi,
    tokenRefusal_issued, href]
  simp only [State.token_issued, State.settle_nil, ho, hw, and_self, if_true]

theorem exec_tkacq_of_owned (ho : (s.token k.toNat).owner ≠ none) :
    exec (.tkacq sh k) s = .next (((s.issued sh []).setToken k.toNat
      { s.token k.toNat with waiters := (s.token k.toNat).waiters ++ [(sh, s.now)] }).modShunter sh
        (fun x => { x with wait := .token k })) := by
  rw [exec_tkacq, execTkacq, State.request_of_canIssue hi, tokenRefusal_issued, href]
  simp only [State.token_issued, State.now_issued, State.settle_nil, ho, false_and, if_false]

theorem exec_tktry_of_owned (ho : (s.token k.toNat).owner ≠ none) :
    exec (.tktry sh k) s = .next ((s.issued sh []).finish sh .busy) := by
  rw [exec_tktry, execTktry, State.request_of_canIssue hi, tokenRefusal_issued, href]
  simp only [State.token_issued, State.settle_nil, ho, false_and, if_false]

end

/-- The grant of a token to a shunter that asks for it leaves the token owned and last in the shunter's list. -/
theorem issued_own_finish (h : ∀ t ∈ (s.shunter sh).held, t.toNat < k.toNat) :
    OnlyShunter sh (s.setToken k.toNat ((s.token k.toNat).ownedBy sh s.now)) (((s.issued sh []).own k sh).finish sh .ok) ∧
      Requested .ok [] { s.shunter sh with held := (s.shunter sh).held ++ [k] }
        ((((s.issued sh []).own k sh).finish sh .ok).shunter sh) := by
  rw [State.own_eq, State.token_issued, State.now_issued, State.settle_nil]
  have hway := (underWay_issued_nil s sh).map (ignoresShunters_setToken k.toNat ((s.token k.toNat).ownedBy sh s.now))
  refine ⟨(hway.1.modShunter _).finish _, requested_finish ?_ .ok⟩
  rw [State.shunter_modShunter_same, hway.2, State.shunter_setToken]
  simp only [Shunter.underWay, insToken_of_above h]

/-- tkacq of an owned token joins its waiters, and the shunter waits (R98). -/
theorem tkacq_waits (href : s.tokenRefusal sh k = none) (ho : (s.token k.toNat).owner ≠ none) :
    Leaves (.tkacq sh k) s sh
      (s.setToken k.toNat { s.token k.toNat with waiters := (s.token k.toNat).waiters ++ [(sh, s.now)] })
      { (s.shunter sh).underWay with wait := .token k } := by
  intro hi
  have hway := (underWay_issued_nil s sh).map (ignoresShunters_setToken k.toNat
    { s.token k.toNat with waiters := (s.token k.toNat).waiters ++ [(sh, s.now)] })
  refine ⟨_, exec_tkacq_of_owned hi href ho, hway.1.modShunter _, ?_⟩
  rw [State.shunter_modShunter_same, hway.2, State.shunter_setToken]

theorem tktry_ends_busy (href : s.tokenRefusal sh k = none) (ho : (s.token k.toNat).owner ≠ none) :
    Ends (.tktry sh k) s sh s .busy [] (fun y => y.held = (s.shunter sh).held) :=
  (underWay_issued_nil s sh).ends (fun hi => exec_tktry_of_owned hi href ho) (fun _ hy => hy.held_eq)

/-! ### Release (R98, R101, R722) -/

theorem exec_tkrel_of_canIssue (hi : (s.shunter sh).canIssue = true) (k : BitVec 8) :
    exec (.tkrel sh k) s = .next (if k ∈ (s.shunter sh).held then ((s.issued sh []).issueRelease sh k).finish sh .ok
      else (s.issued sh []).finish sh .badarg) := by
  rw [exec_tkrel, execTkrel, State.request_of_canIssue hi, State.shunter_issued, State.settle_nil]
  simp only [Shunter.underWay, List.contains_iff_mem]

theorem tkrel_ends_badarg (hk : k ∉ (s.shunter sh).held) :
    Ends (.tkrel sh k) s sh s .badarg [] (fun _ => True) :=
  (underWay_issued_nil s sh).ends (fun hi => by rw [exec_tkrel_of_canIssue hi, if_neg hk]) (fun _ _ => trivial)

/-- A release leaves the shunter at once, and waits at the home for the stores issued before it. -/
theorem tkrel_releases (hk : k ∈ (s.shunter sh).held) (hi : (s.shunter sh).canIssue = true) :
    ∃ t, Completes (.tkrel sh k) s t ∧
      OnlyShunter sh (s.setToken k.toNat { s.token k.toNat with relSeq := some (s.shunter sh).seq }) t ∧
      Requested .ok [] { s.shunter sh with held := (s.shunter sh).held.filter (fun h => h != k) } (t.shunter sh) := by
  have hway := (underWay_issued_nil s sh).map
    (ignoresShunters_setToken k.toNat { s.token k.toNat with relSeq := some (s.shunter sh).seq })
  have hrel : (s.issued sh []).issueRelease sh k =
      ((s.issued sh []).setToken k.toNat { s.token k.toNat with relSeq := some (s.shunter sh).seq }).setShunter sh
        { (s.shunter sh).underWay with held := (s.shunter sh).held.filter (fun h => h != k) } := by
    simp only [State.issueRelease, State.shunter_issued, State.token_issued, State.settle_nil, Shunter.underWay]
  refine ⟨_, (exec_tkrel_of_canIssue hi k).trans (by rw [if_pos hk, hrel]), (hway.1.setShunter _).finish _, ?_⟩
  exact requested_finish (State.shunter_setShunter_same ..) .ok

/-- With the releaser's stores drained its release takes effect at the home. -/
theorem exec_tokenRelease_of_drained {n : Nat} (ho : (s.token k.toNat).owner = some sh)
    (hn : (s.token k.toNat).relSeq = some n) (hm : (s.shunter sh).mainBuf = []) (hs : (s.shunter sh).scrBuf = []) :
    exec (.tokenRelease k) s = .next (s.release k) := by
  rw [exec_tokenRelease, execTokenRelease]
  simp only [ho, hn, Shunter.olderStores_of_empty hm hs, Bool.false_eq_true, if_false]

theorem State.release_of_noWaiter (h : (s.token k.toNat).waiters = []) :
    s.release k = s.setToken k.toNat { s.token k.toNat with owner := none, relSeq := none } := by
  simp [State.release, h, nextWaiter]

theorem State.release_of_oneWaiter {w : Sh} {c : Nat} (h : (s.token k.toNat).waiters = [(w, c)]) :
    s.release k =
      (s.setToken k.toNat { s.token k.toNat with owner := none, relSeq := none, waiters := [] }).grant k w := by
  simp [State.release, h, nextWaiter]

@[simp] theorem State.token_grant (s : State) (k : BitVec 8) (w : Sh) :
    (s.grant k w).token k.toNat = (s.token k.toNat).ownedBy w s.now := by
  rw [State.grant, State.own_eq, State.token_modShunter, State.token_modShunter, State.token_setToken_same]

theorem State.shunter_grant_other (s : State) (k : BitVec 8) {w j : Sh} (h : j ≠ w) :
    (s.grant k w).shunter j = s.shunter j := by
  rw [State.grant, State.own_eq, State.shunter_modShunter_other _ _ h.symm, State.shunter_modShunter_other _ _ h.symm,
    State.shunter_setToken]

/-- The waiting tkacq of `w` ends with OK and the token in its list. -/
theorem State.shunter_grant_same {w : Sh} (h : (s.shunter w).wait = .token k) :
    (s.grant k w).shunter w = { s.shunter w with
      held := insToken k (s.shunter w).held, rstat := 0, z := true, wait := .none, jump := none,
      pc := (s.shunter w).following 1 } := by
  rw [State.grant, State.own_eq, State.shunter_modShunter_same, State.shunter_modShunter_same, State.shunter_setToken,
    Shunter.resume_eq]
  · rfl
  · rw [show (Shunter.outcome { s.shunter w with held := insToken k (s.shunter w).held } .ok).wait = .token k from h]
    rfl

theorem tokenRelease_free {n : Nat} (ho : (s.token k.toNat).owner = some sh)
    (hn : (s.token k.toNat).relSeq = some n) (hm : (s.shunter sh).mainBuf = []) (hs : (s.shunter sh).scrBuf = [])
    (hw : (s.token k.toNat).waiters = []) :
    Completes (.tokenRelease k) s (s.setToken k.toNat { s.token k.toNat with owner := none, relSeq := none }) := by
  rw [Completes, exec_tokenRelease_of_drained ho hn hm hs, State.release_of_noWaiter hw]

/-- The only waiter takes a released token (R98). -/
theorem tokenRelease_grants {n : Nat} {w : Sh} {c : Nat} (ho : (s.token k.toNat).owner = some sh)
    (hn : (s.token k.toNat).relSeq = some n) (hm : (s.shunter sh).mainBuf = []) (hs : (s.shunter sh).scrBuf = [])
    (hw : (s.token k.toNat).waiters = [(w, c)]) (hwait : (s.shunter w).wait = .token k) :
    ∃ t, Completes (.tokenRelease k) s t ∧ (t.token k.toNat).owner = some w ∧ (t.token k.toNat).waiters = [] ∧
      k ∈ (t.shunter w).held ∧ (t.shunter w).wait = .none ∧ (t.shunter w).rstat = 0 ∧ (t.shunter w).z = true ∧
      ∀ j, j ≠ w → t.shunter j = s.shunter j := by
  have hgrant := fun q => State.shunter_grant_same (s := s.setToken k.toNat q) (k := k) (w := w) hwait
  refine ⟨_, exec_tokenRelease_of_drained ho hn hm hs, ?_⟩
  rw [State.release_of_oneWaiter hw, State.token_grant, State.token_setToken_same, hgrant]
  exact ⟨rfl, rfl, mem_insToken _ _, rfl, rfl, rfl, fun j hj => State.shunter_grant_other _ k hj⟩

/-- A token held for the limit of its home depot is reported (R103). -/
theorem tokenHoldLimit_reports (ho : (s.token k.toNat).owner ≠ none) (hd : (s.token k.toNat).limitDone = false)
    (hlim : fld (s.reg (aDP (tokenHome k) 4)) 15 0 * 1024 ≠ 0)
    (hnow : (s.token k.toNat).since + fld (s.reg (aDP (tokenHome k) 4)) 15 0 * 1024 ≤ s.now) :
    Completes (.tokenHoldLimit k) s
      (((s.setToken k.toNat { s.token k.toNat with limitDone := true }).raise (888 + tokenHome k)).occur 0x0C) := by
  have hsome : (s.token k.toNat).owner.isSome = true := Option.isSome_iff_ne_none.mpr ho
  rw [Completes, exec_tokenHoldLimit, execTokenHoldLimit]
  simp only [if_pos (And.intro hsome (And.intro hd (And.intro hlim hnow)))]

/-! ### The statement -/

/-- Settles O15: the checks of a request in their order, then its grant, wait or BUSY; the release, and the hold limit. -/
theorem tokenResults : Obligations.TokenResults := by
  refine ⟨fun s sh k => ⟨token_ends_denied, token_ends_full, fun habove h8 hon hi => ?_⟩,
    fun s sh k => ⟨tkrel_ends_badarg, tkrel_releases, fun n ho hn hm hs => ?_, tokenHoldLimit_reports⟩⟩
  · have href := tokenRefusal_none habove h8 hon
    refine ⟨fun ho hw => ?_, fun ho => ⟨tkacq_waits href ho hi, tktry_ends_busy href ho⟩⟩
    obtain ⟨hacq, htry⟩ := exec_of_tokenFree hi href ho hw
    exact ⟨⟨_, hacq, issued_own_finish habove⟩, ⟨_, htry, issued_own_finish habove⟩⟩
  · exact ⟨tokenRelease_free ho hn hm hs, fun w c hw hwait => tokenRelease_grants ho hn hm hs hw hwait⟩

end Sys2Proof.Machine
end

section
/-! SUPPORT. Values of any width: the overflow of signed sums and differences (R696, R708), and the shifts as quotients
(R705, R709). -/

namespace Sys2Proof.Machine

variable {w : Nat}

/-! ### Signed overflow -/

/-- The sum that the word holds is the true one exactly where the signed sum does not overflow. -/
theorem toInt_add_ne_iff (a b : BitVec w) : (a + b).toInt ≠ a.toInt + b.toInt ↔ a.saddOverflow b = true := by
  refine ⟨fun hne => Decidable.byContradiction fun h => hne (BitVec.toInt_add_of_not_saddOverflow h), fun h heq => ?_⟩
  have hlt := BitVec.toInt_lt (x := a + b)
  have hle := BitVec.le_toInt (a + b)
  simp only [BitVec.saddOverflow, Bool.or_eq_true, decide_eq_true_eq] at h
  omega

theorem toInt_sub_ne_iff (a b : BitVec w) : (a - b).toInt ≠ a.toInt - b.toInt ↔ a.ssubOverflow b = true := by
  refine ⟨fun hne => Decidable.byContradiction fun h => hne (BitVec.toInt_sub_of_not_ssubOverflow h), fun h heq => ?_⟩
  have hlt := BitVec.toInt_lt (x := a - b)
  have hle := BitVec.le_toInt (a - b)
  simp only [BitVec.ssubOverflow, Bool.or_eq_true, decide_eq_true_eq] at h
  omega

/-- V of a sum, from the signs of its operands and its result, says that the signed sum does not fit (R708). -/
theorem addOverflow_eq (a b : BitVec w) :
    (a.msb == b.msb && (a + b).msb != a.msb) = decide ((a + b).toInt ≠ a.toInt + b.toInt) := by
  rw [Bool.eq_iff_iff, decide_eq_true_eq, toInt_add_ne_iff, BitVec.saddOverflow_eq]
  rfl

theorem subOverflow_eq (a b : BitVec w) :
    (a.msb != b.msb && (a - b).msb != a.msb) = decide ((a - b).toInt ≠ a.toInt - b.toInt) := by
  rw [Bool.eq_iff_iff, decide_eq_true_eq, toInt_sub_ne_iff, BitVec.ssubOverflow_eq]
  cases a.msb <;> cases b.msb <;> simp

/-! ### Shifts -/

/-- Bit 0 of a value says whether its signed reading is odd. -/
theorem getLsbD_zero_eq_toInt_odd (a : BitVec w) : a.getLsbD 0 = decide (a.toInt % 2 = 1) := by
  rw [← BitVec.testBit_toNat, Nat.testBit_zero, decide_eq_decide, BitVec.toInt_eq_msb_cond]
  cases w with
  | zero => simp [BitVec.eq_nil a]
  | succ w =>
    rw [Nat.pow_succ]
    split <;> omega

/-- An arithmetic shift by the width or more leaves the sign alone. -/
theorem signFill_eq_sshiftRight {a : BitVec w} {n : Nat} (h : w ≤ n) :
    (if a.msb then BitVec.allOnes w else 0#w) = a.sshiftRight n := by
  ext i hi
  rw [BitVec.getElem_sshiftRight]
  cases a.msb <;> simp [show ¬ n + i < w by omega]

/-- The lowest bit after an arithmetic shift is the bit that stood `n` places up, or the sign. -/
theorem getLsbD_zero_sshiftRight (hw : 0 < w) (a : BitVec w) (n : Nat) :
    (a.sshiftRight n).getLsbD 0 = if n < w then a.getLsbD n else a.msb := by
  simp [BitVec.getLsbD_sshiftRight, Nat.not_le.mpr hw]

/-- sar as one shift: its carry is the lowest bit after a shift by one place less. -/
theorem shiftBy_sar_eq (hw : 0 < w) (a : BitVec w) (n : Nat) (c : Bool) :
    shiftBy .sar a n c = (a.sshiftRight n, if n = 0 then c else (a.sshiftRight (n - 1)).getLsbD 0) := by
  rw [getLsbD_zero_sshiftRight hw]
  rcases Nat.lt_trichotomy n w with hn | rfl | hn
  · by_cases h0 : n = 0
    · simp [shiftBy, h0]
    · simp [shiftBy, h0, Nat.not_le.mpr hn, show n - 1 < w by omega]
  · rw [if_pos (Nat.sub_lt hw Nat.one_pos), ← BitVec.msb_eq_getLsbD_last]
    simp [shiftBy, signFill_eq_sshiftRight (Nat.le_refl n), Nat.ne_of_gt hw]
  · simp [shiftBy, signFill_eq_sshiftRight (Nat.le_of_lt hn), Nat.le_of_lt hn, show n ≠ 0 by omega,
      show ¬ n - 1 < w by omega]

theorem isShift_shl (a : BitVec w) (n : Nat) (c : Bool) :
    IsShift .shl a n c (shiftBy .shl a n c).1 (shiftBy .shl a n c).2 := by
  by_cases h0 : n = 0
  · simp [IsShift, shiftBy, h0, Nat.mod_eq_of_lt a.isLt]
  by_cases hn : w ≤ n
  · have hdvd : 2 ^ w ∣ a.toNat * 2 ^ n := Nat.dvd_mul_left_of_dvd (Nat.pow_dvd_pow 2 hn) _
    simp [IsShift, shiftBy, h0, hn, Nat.mod_eq_zero_of_dvd hdvd]
  · have hw : 2 ^ w = 2 ^ (w - n) * 2 ^ n := by rw [← Nat.pow_add]; congr 1; omega
    have hdiv : a.toNat * 2 ^ n / 2 ^ w = a.toNat / 2 ^ (w - n) := by
      rw [hw, Nat.mul_div_mul_right _ _ (Nat.two_pow_pos n)]
    simp only [IsShift, shiftBy, h0, hn, if_false, BitVec.toNat_shiftLeft, Nat.shiftLeft_eq, hdiv,
      ← BitVec.testBit_toNat, Nat.testBit_eq_decide_div_mod_eq, and_self]

theorem isShift_shr (a : BitVec w) (n : Nat) (c : Bool) :
    IsShift .shr a n c (shiftBy .shr a n c).1 (shiftBy .shr a n c).2 := by
  by_cases h0 : n = 0
  · simp [IsShift, shiftBy, h0]
  by_cases hn : w ≤ n
  · have hlt : a.toNat < 2 ^ n := Nat.lt_of_lt_of_le a.isLt (Nat.pow_le_pow_right (by decide) hn)
    simp [IsShift, shiftBy, h0, hn, Nat.div_eq_of_lt hlt]
  · simp only [IsShift, shiftBy, h0, hn, if_false, BitVec.toNat_ushiftRight, Nat.shiftRight_eq_div_pow,
      ← BitVec.testBit_toNat, Nat.testBit_eq_decide_div_mod_eq, and_self]

theorem isShift_sar (hw : 0 < w) (a : BitVec w) (n : Nat) (c : Bool) :
    IsShift .sar a n c (shiftBy .sar a n c).1 (shiftBy .sar a n c).2 := by
  have hquot : ∀ m : Nat, (a.sshiftRight m).toInt = a.toInt / (2 ^ m : Nat) := fun m => by
    rw [BitVec.toInt_sshiftRight, Int.shiftRight_eq_div_pow]
  rw [shiftBy_sar_eq hw]
  refine ⟨hquot n, ?_⟩
  rw [getLsbD_zero_eq_toInt_odd, hquot]

end Sys2Proof.Machine
end

section
/-! SUPPORT. An instruction on registers alone: how it completes, and how it faults where a field that must name a pair
names an odd register (R66, R692–R694). `runs_setR` and `runs_setPair` are the two shapes of a result. -/

namespace Sys2Proof.Machine

variable {c : Instr} {s : State} {sh : Sh} {ok : Bool} {len : Nat} {uses ds : List Reg} {d a b : Reg}

/-- `y` is `x` but for the registers `ds` and the flags. -/
def Computed (ds : List Reg) (x y : Shunter) : Prop :=
  (∀ r, r ∉ ds → y.r r = x.r r) ∧ y = { x with g := y.g, n := y.n, z := y.z, c := y.c, v := y.v }

/-- `y` is `x` but for the flags. -/
def FlagsOnly (x y : Shunter) : Prop := y = { x with n := y.n, z := y.z, c := y.c, v := y.v }

/-- `y` has the flags of `z`. -/
def SameFlags (z y : Shunter) : Prop := Flags y z.n z.z z.c z.v

/-- `y` has the registers and the flags of `z`. -/
def SameValues (z y : Shunter) : Prop := y.g = z.g ∧ SameFlags z y

theorem SameValues.r_eq {z y : Shunter} (h : SameValues z y) (r : Reg) : y.r r = z.r r := by
  simp only [Shunter.r, h.1]

theorem SameValues.getsPair {z y : Shunter} (h : SameValues z y) {v : Long} (hz : GetsPair z d v) : GetsPair y d v := by
  rw [GetsPair, ← hz]
  simp only [Shunter.pair, h.r_eq]

/-- The flags of a sum without a carry in. -/
theorem SameFlags.sum {w : Nat} {x y : Shunter} {p q : BitVec w} (h : SameFlags (x.addFlags p q (p + q) false) y) :
    FlagsSum y p q (p + q) 0 := by
  obtain ⟨hn, hz, hc, hv⟩ := h
  refine ⟨hn, hz, hc, hv.trans ?_⟩
  rw [Int.natCast_zero, Int.add_zero]
  exact addOverflow_eq p q

/-- The flags of a difference without a borrow in. -/
theorem SameFlags.diff {w : Nat} {x y : Shunter} {p q : BitVec w} (h : SameFlags (x.subFlags p q (p - q) false) y) :
    FlagsDiff y p q (p - q) 0 := by
  obtain ⟨hn, hz, hc, hv⟩ := h
  refine ⟨hn, hz, hc, hv.trans ?_⟩
  rw [Int.natCast_zero, Int.sub_zero]
  exact subOverflow_eq p q

theorem FlagsOnly.r_eq {x y : Shunter} (h : FlagsOnly x y) (r : Reg) : y.r r = x.r r := by
  rw [h]; rfl

theorem FlagsOnly.computed {x y : Shunter} (h : FlagsOnly x y) : Computed [] x y :=
  ⟨fun r _ => h.r_eq r, by rw [h]⟩

theorem FlagsOnly.computed_setR {x y : Shunter} (h : FlagsOnly x y) (d : Reg) (v : Word) :
    Computed [d] x (y.setR d v) := by
  refine ⟨fun r hr => ?_, ?_⟩
  · rw [Shunter.r_setR, if_neg (fun e => hr (List.mem_singleton.mpr e.1.symm)), h.r_eq]
  · rw [Shunter.setR_eq, h]

theorem FlagsOnly.computed_setPair {x y : Shunter} (h : FlagsOnly x y) (d : Reg) (v : Long) :
    Computed (both d) x (y.setPair d v) := by
  refine ⟨fun r hr => ?_, ?_⟩
  · rw [Shunter.r_setPair_other _ _ hr, h.r_eq]
  · rw [Shunter.setPair_eq, h]

/-- The instruction completes: what `f` gives holds past it. -/
theorem runs_plainIf {f : Shunter → Shunter} {P : Shunter → Shunter → Prop} (hc : exec c s = s.plainIf ok sh len uses f)
    (hok : ok = true) (hf : ∀ x, Computed ds x (f x)) (hP : ∀ x y, SameValues (f x) y → P x y) :
    Runs c s sh uses len ds P := by
  intro hi
  subst hok
  refine ⟨_, hc.trans (if_pos hi), (OnlyShunter.refl sh _).modShunter _, ?_⟩
  rw [State.shunter_modShunter_same, Shunter.advance_eq]
  obtain ⟨hr, hrest⟩ := hf ((s.settle sh uses).shunter sh)
  refine ⟨⟨hr, ?_⟩, hP _ _ ⟨rfl, rfl, rfl, rfl, rfl⟩⟩
  rw [hrest]
  rfl

/-- The instruction sets flags and writes register `d`. -/
theorem runs_setR {fl : Shunter → Shunter} {v : Shunter → Word} {P : Shunter → Shunter → Prop}
    (hc : exec c s = s.plain sh len uses (fun x => (fl x).setR d (v x))) (hfl : ∀ x, FlagsOnly x (fl x))
    (hP : ∀ x y, Gets y d (v x) → SameFlags (fl x) y → P x y) :
    Runs c s sh uses len [d] P := by
  refine runs_plainIf (ok := true) hc rfl (fun x => (hfl x).computed_setR d (v x)) (fun x y hy => hP x y ?_ ?_)
  · rw [Gets, hy.r_eq, Shunter.r_setR]
    by_cases h0 : d = 0 <;> simp [h0]
  · have hflags := hy.2
    rwa [SameFlags, Shunter.setR_eq] at hflags

/-- The instruction sets flags and writes the pair of `d`. -/
theorem runs_setPair {fl : Shunter → Shunter} {v : Shunter → Long} {P : Shunter → Shunter → Prop} (hd : d.val % 2 = 0)
    (hc : exec c s = s.plainIf ok sh len uses (fun x => (fl x).setPair d (v x))) (hok : ok = true)
    (hfl : ∀ x, FlagsOnly x (fl x))
    (hP : ∀ x y, GetsPair y d (v x) → SameFlags (fl x) y → P x y) :
    Runs c s sh uses len (both d) P := by
  refine runs_plainIf hc hok (fun x => (hfl x).computed_setPair d (v x)) (fun x y hy => hP x y ?_ ?_)
  · exact hy.getsPair (getsPair_setPair _ hd _)
  · have hflags := hy.2
    rwa [SameFlags, Shunter.setPair_eq] at hflags

/-- The instruction faults where its operands are not in range. -/
theorem faults_plainIf {f : Shunter → Shunter} (hc : exec c s = s.plainIf ok sh len uses f) (hok : ok = false) :
    Faults c s sh := by
  intro hi
  subst hok
  exact hc.trans (if_pos hi)

end Sys2Proof.Machine
end

section
/-! Multiplication, division and the operations on pairs (R693, R706–R709, Tables 17-10 and 17-11). -/

namespace Sys2Proof.Machine

variable {s : State} {sh : Sh} {d a b : Reg}

/-! ### Products -/

theorem toNat_mulUnsigned (a b : Word) : (mulUnsigned a b).toNat = a.toNat * b.toNat := by
  have hlt : a.toNat * b.toNat < 2 ^ 24 * 2 ^ 24 := Nat.mul_lt_mul'' a.isLt b.isLt
  have ha : a.toNat < 2 ^ 48 := Nat.lt_trans a.isLt (by decide)
  have hb : b.toNat < 2 ^ 48 := Nat.lt_trans b.isLt (by decide)
  rw [mulUnsigned, BitVec.toNat_mul, BitVec.toNat_setWidth, BitVec.toNat_setWidth, Nat.mod_eq_of_lt ha,
    Nat.mod_eq_of_lt hb]
  exact Nat.mod_eq_of_lt hlt

theorem toInt_mulSigned (a b : Word) : (mulSigned a b).toInt = a.toInt * b.toInt := by
  have hle : a.toInt * b.toInt ≤ 2 ^ 46 := BitVec.toInt_mul_toInt_le
  have hge : -2 ^ 46 ≤ a.toInt * b.toInt := BitVec.le_toInt_mul_toInt
  rw [mulSigned, BitVec.toInt_mul, BitVec.toInt_signExtend_of_le (by decide), BitVec.toInt_signExtend_of_le (by decide)]
  exact Int.bmod_eq_of_le (by omega) (by omega)

theorem wd_eq_zero_iff {n : Nat} (h : n < 2 ^ 24) : wd n = 0 ↔ n = 0 := by
  rw [← BitVec.toNat_inj, wd, BitVec.toNat_ofNat, Nat.mod_eq_of_lt h]
  rfl

theorem runs_mull : Runs (.mull sh d a b) s sh [d, a, b] 1 [d]
    (TakesNZ d (fun x r => r.toNat = (x.r a).toNat * (x.r b).toNat % 2 ^ 24)) :=
  runs_setR rfl (fun _ => rfl) (fun _ _ hg hf => ⟨_, BitVec.toNat_mul .., hg, hf⟩)

section
variable (hd : d.val % 2 = 0)
include hd

theorem runs_mulu : Runs (.mulu sh d a b) s sh [d, d + 1, a, b] 1 [d, d + 1]
    (TakesPairNZ d (fun x r => r.toNat = (x.r a).toNat * (x.r b).toNat)) :=
  runs_setPair hd rfl ((isPair_iff d).mpr hd) (fun _ => rfl) (fun _ _ hg hf => ⟨_, toNat_mulUnsigned _ _, hg, hf⟩)

theorem runs_muls : Runs (.muls sh d a b) s sh [d, d + 1, a, b] 1 [d, d + 1]
    (TakesPairNZ d (fun x r => r.toInt = (x.r a).toInt * (x.r b).toInt)) :=
  runs_setPair hd rfl ((isPair_iff d).mpr hd) (fun _ => rfl) (fun _ _ hg hf => ⟨_, toInt_mulSigned _ _, hg, hf⟩)

/-- C is the carry out of bit 47. -/
theorem runs_macu : Runs (.macu sh d a b) s sh [d, d + 1, a, b] 1 [d, d + 1] (fun x y =>
    let m := (x.pair d).toNat + (x.r a).toNat * (x.r b).toNat
    ∃ r : Long, r.toNat = m % 2 ^ 48 ∧ GetsPair y d r ∧ Flags y r.msb (decide (r = 0)) (decide (2 ^ 48 ≤ m)) x.v) := by
  refine runs_setPair hd rfl ((isPair_iff d).mpr hd) (fun _ => rfl) (fun x y hg hf => ?_)
  refine ⟨_, ?_, hg, ?_⟩
  · rw [BitVec.toNat_add, toNat_mulUnsigned]
  · rw [← toNat_mulUnsigned]
    exact hf

/-- V says that the signed sum overflows. -/
theorem runs_macs : Runs (.macs sh d a b) s sh [d, d + 1, a, b] 1 [d, d + 1] (fun x y =>
    let m := (x.pair d).toInt + (x.r a).toInt * (x.r b).toInt
    ∃ r : Long, r.toInt = m.bmod (2 ^ 48) ∧ GetsPair y d r ∧
      Flags y r.msb (decide (r = 0)) x.c (decide (r.toInt ≠ m))) := by
  refine runs_setPair hd rfl ((isPair_iff d).mpr hd) (fun _ => rfl) (fun x y hg hf => ?_)
  refine ⟨_, ?_, hg, ?_⟩
  · rw [BitVec.toInt_add, toInt_mulSigned]
  · rw [← toInt_mulSigned, ← addOverflow_eq]
    exact hf

/-- sxp extends the sign. -/
theorem runs_sxp : Runs (.sxp sh d a) s sh [d, d + 1, a] 1 [d, d + 1]
    (TakesPairNZ d (fun x r => r.toInt = (x.r a).toInt)) :=
  runs_setPair hd rfl ((isPair_iff d).mpr hd) (fun _ => rfl)
    (fun _ _ hg hf => ⟨_, BitVec.toInt_signExtend_of_le (by decide), hg, hf⟩)

end

/-! ### Quotients and the operations on two pairs -/

section
variable (hd : d.val % 2 = 0) (ha : a.val % 2 = 0)
include hd ha

theorem isPair_two_of_even : (isPair d && isPair a) = true := by
  rw [(isPair_iff d).mpr hd, (isPair_iff a).mpr ha]; rfl

theorem runs_divu : Runs (.divu sh d a b) s sh [d, d + 1, a, a + 1, b] 1 [d, d + 1] (fun x y =>
    let n := (x.pair a).toNat
    let m := (x.r b).toNat
    if m = 0 ∨ 2 ^ 24 ≤ n / m then GetsPair y d (long 0xFFFFFF 0) ∧ Flags y x.n false false true
    else GetsPair y d (long (wd (n / m)) (wd (n % m))) ∧ Flags y x.n (decide (n / m = 0)) false false) := by
  refine runs_setPair hd rfl (isPair_two_of_even hd ha) (fun _ => rfl) (fun x y hg hf => ?_)
  simp only [← Bool.decide_or, decide_eq_true_eq] at hg hf
  dsimp only
  split
  case isTrue hbad =>
    simp only [hbad, if_true] at hg hf
    exact ⟨hg, hf⟩
  case isFalse hgood =>
    have hlt : (x.pair a).toNat / (x.r b).toNat < 2 ^ 24 := Nat.not_le.mp (not_or.mp hgood).2
    simp only [hgood, if_false, wd_eq_zero_iff hlt] at hg hf
    exact ⟨hg, hf⟩

theorem runs_movp : Runs (.movp sh d a) s sh [d, d + 1, a, a + 1] 1 [d, d + 1] (fun x y =>
    GetsPair y d (x.pair a) ∧ FlagsNZ x y (x.pair a)) :=
  runs_setPair hd rfl (isPair_two_of_even hd ha) (fun _ => rfl) (fun _ _ hg hf => ⟨hg, hf⟩)

/-- The shifts by gb[5:0] take what `IsShift` says of their kind. -/
theorem runs_pairShift {c : Instr} {k : Shift}
    (hk : ∀ (p : Long) n f, IsShift k p n f (shiftBy k p n f).1 (shiftBy k p n f).2)
    (hc : exec c s = s.plainIf (isPair d && isPair a) sh 1 [d, d + 1, a, a + 1, b]
      (fun x => pairShift k d a (fld (x.r b) 5 0) x)) :
    Runs c s sh [d, d + 1, a, a + 1, b] 1 [d, d + 1] (TakesPairShift d k a b) := by
  refine runs_setPair hd hc (isPair_two_of_even hd ha) (fun _ => rfl) (fun x y hg hf => ⟨_, _, ?_, hg, hf⟩)
  have hcount : fld (x.r b) 5 0 = (x.r b).toNat % 64 := by simp [fld]
  rw [← hcount]
  exact hk _ _ _

end

section
variable (hd : d.val % 2 = 0) (ha : a.val % 2 = 0) (hb : b.val % 2 = 0)
include ha hb

theorem runs_cmpp : Runs (.cmpp sh a b) s sh [a, a + 1, b, b + 1] 1 []
    (fun x y => FlagsDiff y (x.pair a) (x.pair b) (x.pair a - x.pair b) 0) :=
  runs_plainIf rfl (isPair_two_of_even ha hb) (fun _ => FlagsOnly.computed rfl) (fun _ _ hy => hy.2.diff)

include hd

theorem isPair_three_of_even : (isPair d && isPair a && isPair b) = true := by
  rw [isPair_two_of_even hd ha, (isPair_iff b).mpr hb]; rfl

theorem runs_addp : Runs (.addp sh d a b) s sh [d, d + 1, a, a + 1, b, b + 1] 1 [d, d + 1] (fun x y =>
    GetsPair y d (x.pair a + x.pair b) ∧ FlagsSum y (x.pair a) (x.pair b) (x.pair a + x.pair b) 0) :=
  runs_setPair hd rfl (isPair_three_of_even hd ha hb) (fun _ => rfl) (fun _ _ hg hf => ⟨hg, hf.sum⟩)

theorem runs_subp : Runs (.subp sh d a b) s sh [d, d + 1, a, a + 1, b, b + 1] 1 [d, d + 1] (fun x y =>
    GetsPair y d (x.pair a - x.pair b) ∧ FlagsDiff y (x.pair a) (x.pair b) (x.pair a - x.pair b) 0) :=
  runs_setPair hd rfl (isPair_three_of_even hd ha hb) (fun _ => rfl) (fun _ _ hg hf => ⟨hg, hf.diff⟩)

end

/-! ### Odd registers (R693) -/

section
variable {c : Instr} {len : Nat} {uses : List Reg} {f : Shunter → Shunter}

theorem faults_of_odd (hc : exec c s = s.plainIf (isPair d) sh len uses f) (h : d.val % 2 = 1) : Faults c s sh :=
  faults_plainIf hc (isPair_of_odd h)

theorem faults_of_odd_of_two (hc : exec c s = s.plainIf (isPair d && isPair a) sh len uses f)
    (h : d.val % 2 = 1 ∨ a.val % 2 = 1) : Faults c s sh := by
  refine faults_plainIf hc (Bool.and_eq_false_iff.mpr ?_)
  exact h.imp isPair_of_odd isPair_of_odd

theorem faults_of_odd_of_three (hc : exec c s = s.plainIf (isPair d && isPair a && isPair b) sh len uses f)
    (h : (d.val % 2 = 1 ∨ a.val % 2 = 1) ∨ b.val % 2 = 1) : Faults c s sh := by
  refine faults_plainIf hc (Bool.and_eq_false_iff.mpr ?_)
  exact h.imp (fun hda => Bool.and_eq_false_iff.mpr (hda.imp isPair_of_odd isPair_of_odd)) isPair_of_odd

end

section
variable (s sh b)

theorem divu_faults (h : d.val % 2 = 1 ∨ a.val % 2 = 1) : Faults (.divu sh d a b) s sh := faults_of_odd_of_two rfl h

theorem cmpp_faults (h : a.val % 2 = 1 ∨ b.val % 2 = 1) : Faults (.cmpp sh a b) s sh := faults_of_odd_of_two rfl h

theorem addp_and_subp_faults (h : (d.val % 2 = 1 ∨ a.val % 2 = 1) ∨ b.val % 2 = 1) :
    Faults (.addp sh d a b) s sh ∧ Faults (.subp sh d a b) s sh :=
  ⟨faults_of_odd_of_three rfl h, faults_of_odd_of_three rfl h⟩

theorem shift_and_movp_faults (h : d.val % 2 = 1 ∨ a.val % 2 = 1) :
    Faults (.shlp sh d a b) s sh ∧ Faults (.shrp sh d a b) s sh ∧ Faults (.sarp sh d a b) s sh ∧
      Faults (.movp sh d a) s sh :=
  ⟨faults_of_odd_of_two rfl h, faults_of_odd_of_two rfl h, faults_of_odd_of_two rfl h, faults_of_odd_of_two rfl h⟩

end

/-! ### The statement -/

/-- Settles O5: each instruction acts in the settled state (R66) on even registers, and a field that must name a pair
and names an odd register is ILLEGAL (R693). -/
theorem multiplyDivideAndPairResults : Obligations.MultiplyDivideAndPairResults := by
  refine ⟨fun s sh d a b => ⟨runs_mull, fun hd => ?_, fun hd => ?_, fun ha => divu_faults s sh b (.inr ha)⟩,
    fun s sh d a b => ⟨runs_sxp, fun hd ha => ?_, fun hd ha hb => ⟨runs_addp hd ha hb, runs_subp hd ha hb⟩,
      runs_cmpp, fun hd => ?_, fun ha => ?_, fun hb => ?_⟩⟩
  · exact ⟨runs_mulu hd, runs_muls hd, runs_macu hd, runs_macs hd, runs_divu hd⟩
  · exact ⟨faults_of_odd rfl hd, faults_of_odd rfl hd, faults_of_odd rfl hd, faults_of_odd rfl hd,
      divu_faults s sh b (.inl hd)⟩
  · exact ⟨runs_pairShift hd ha isShift_shl rfl, runs_pairShift hd ha isShift_shr rfl,
      runs_pairShift hd ha (isShift_sar (by decide)) rfl, runs_movp hd ha⟩
  · obtain ⟨haddp, hsubp⟩ := addp_and_subp_faults s sh b (a := a) (.inl (.inl hd))
    obtain ⟨hshlp, hshrp, hsarp, hmovp⟩ := shift_and_movp_faults s sh b (a := a) (.inl hd)
    exact ⟨haddp, hsubp, hshlp, hshrp, hsarp, hmovp, faults_of_odd rfl hd⟩
  · obtain ⟨haddp, hsubp⟩ := addp_and_subp_faults s sh b (d := d) (.inl (.inr ha))
    obtain ⟨hshlp, hshrp, hsarp, hmovp⟩ := shift_and_movp_faults s sh b (d := d) (.inr ha)
    exact ⟨haddp, hsubp, hshlp, hshrp, hsarp, hmovp, cmpp_faults s sh b (.inl ha)⟩
  · obtain ⟨haddp, hsubp⟩ := addp_and_subp_faults s sh b (d := d) (a := a) (.inr hb)
    exact ⟨haddp, hsubp, cmpp_faults s sh b (.inr hb)⟩

end Sys2Proof.Machine
end
